-- ==== Sys2Proof/Word.lean ====
section
/-!
DEFINITION. The plainest data of the hub: bytes on a port, the names of channels, heads, slots, rolls and ports
(00_scope.md, "Physical arrangement"), and the small fixed families indexed by them.
-/

namespace Sys2Proof

/-- A byte on a serial port or on the supply link. -/
abbrev Byte := BitVec 8

/-- `a / b` rounded up, on exact products (00_scope.md, "Units and number conventions"). -/
def ceilDiv (a b : Nat) : Nat := (a + b - 1) / b

/-- The three ports of the hub: Raster Port, Carriage Port, Panel Port. -/
inductive Port
  | rp | cp | pp
deriving DecidableEq, Repr

/-- The six ink channels ch0..ch5. -/
inductive Channel
  | ch0 | ch1 | ch2 | ch3 | ch4 | ch5
deriving DecidableEq, Repr

/-- The three printheads H0..H2. -/
inductive Head
  | h0 | h1 | h2
deriving DecidableEq, Repr

/-- The eight tank slots of the supply bay. -/
inductive SlotId
  | s0 | s1 | s2 | s3 | s4 | s5 | s6 | s7
deriving DecidableEq, Repr

/-- The two roll holders. -/
inductive Roll
  | upper | lower
deriving DecidableEq, Repr

/-- One value per port. -/
structure PerPort (α : Type) where
  rp : α
  cp : α
  pp : α
deriving DecidableEq, Repr

/-- One value per channel. -/
structure Six (α : Type) where
  c0 : α
  c1 : α
  c2 : α
  c3 : α
  c4 : α
  c5 : α
deriving DecidableEq, Repr

/-- One value per head. -/
structure Three (α : Type) where
  h0 : α
  h1 : α
  h2 : α
deriving DecidableEq, Repr

/-- One value per slot. -/
structure Eight (α : Type) where
  s0 : α
  s1 : α
  s2 : α
  s3 : α
  s4 : α
  s5 : α
  s6 : α
  s7 : α
deriving DecidableEq, Repr

/-- One value per roll holder. -/
structure Two (α : Type) where
  upper : α
  lower : α
deriving DecidableEq, Repr

section
variable {α β : Type}

def PerPort.get (v : PerPort α) : Port → α
  | .rp => v.rp
  | .cp => v.cp
  | .pp => v.pp

def PerPort.set (v : PerPort α) (p : Port) (a : α) : PerPort α :=
  match p with
  | .rp => { v with rp := a }
  | .cp => { v with cp := a }
  | .pp => { v with pp := a }

def PerPort.const (a : α) : PerPort α := ⟨a, a, a⟩

def Six.get (v : Six α) : Channel → α
  | .ch0 => v.c0
  | .ch1 => v.c1
  | .ch2 => v.c2
  | .ch3 => v.c3
  | .ch4 => v.c4
  | .ch5 => v.c5

def Six.set (v : Six α) (c : Channel) (a : α) : Six α :=
  match c with
  | .ch0 => { v with c0 := a }
  | .ch1 => { v with c1 := a }
  | .ch2 => { v with c2 := a }
  | .ch3 => { v with c3 := a }
  | .ch4 => { v with c4 := a }
  | .ch5 => { v with c5 := a }

def Six.const (a : α) : Six α := ⟨a, a, a, a, a, a⟩

def Six.map (f : α → β) (v : Six α) : Six β := ⟨f v.c0, f v.c1, f v.c2, f v.c3, f v.c4, f v.c5⟩

/-- The family that holds `f c` for each channel `c`. -/
def Six.tab (f : Channel → α) : Six α := ⟨f .ch0, f .ch1, f .ch2, f .ch3, f .ch4, f .ch5⟩

def Six.toList (v : Six α) : List α := [v.c0, v.c1, v.c2, v.c3, v.c4, v.c5]

def Three.get (v : Three α) : Head → α
  | .h0 => v.h0
  | .h1 => v.h1
  | .h2 => v.h2

def Three.set (v : Three α) (h : Head) (a : α) : Three α :=
  match h with
  | .h0 => { v with h0 := a }
  | .h1 => { v with h1 := a }
  | .h2 => { v with h2 := a }

def Three.const (a : α) : Three α := ⟨a, a, a⟩

def Three.map (f : α → β) (v : Three α) : Three β := ⟨f v.h0, f v.h1, f v.h2⟩

def Three.tab (f : Head → α) : Three α := ⟨f .h0, f .h1, f .h2⟩

def Three.toList (v : Three α) : List α := [v.h0, v.h1, v.h2]

def Eight.get (v : Eight α) : SlotId → α
  | .s0 => v.s0
  | .s1 => v.s1
  | .s2 => v.s2
  | .s3 => v.s3
  | .s4 => v.s4
  | .s5 => v.s5
  | .s6 => v.s6
  | .s7 => v.s7

def Eight.set (v : Eight α) (k : SlotId) (a : α) : Eight α :=
  match k with
  | .s0 => { v with s0 := a }
  | .s1 => { v with s1 := a }
  | .s2 => { v with s2 := a }
  | .s3 => { v with s3 := a }
  | .s4 => { v with s4 := a }
  | .s5 => { v with s5 := a }
  | .s6 => { v with s6 := a }
  | .s7 => { v with s7 := a }

def Eight.const (a : α) : Eight α := ⟨a, a, a, a, a, a, a, a⟩

def Eight.tab (f : SlotId → α) : Eight α := ⟨f .s0, f .s1, f .s2, f .s3, f .s4, f .s5, f .s6, f .s7⟩

def Eight.toList (v : Eight α) : List α := [v.s0, v.s1, v.s2, v.s3, v.s4, v.s5, v.s6, v.s7]

def Two.get (v : Two α) : Roll → α
  | .upper => v.upper
  | .lower => v.lower

def Two.set (v : Two α) (r : Roll) (a : α) : Two α :=
  match r with
  | .upper => { v with upper := a }
  | .lower => { v with lower := a }

def Two.const (a : α) : Two α := ⟨a, a⟩

def Two.tab (f : Roll → α) : Two α := ⟨f .upper, f .lower⟩

end

def Channel.all : List Channel := [.ch0, .ch1, .ch2, .ch3, .ch4, .ch5]
def Head.all : List Head := [.h0, .h1, .h2]
def SlotId.all : List SlotId := [.s0, .s1, .s2, .s3, .s4, .s5, .s6, .s7]

def Channel.toNat : Channel → Nat
  | .ch0 => 0
  | .ch1 => 1
  | .ch2 => 2
  | .ch3 => 3
  | .ch4 => 4
  | .ch5 => 5

/-- The channel a number names; none for a number above 5. -/
def Channel.ofNat? : Nat → Option Channel
  | 0 => some .ch0
  | 1 => some .ch1
  | 2 => some .ch2
  | 3 => some .ch3
  | 4 => some .ch4
  | 5 => some .ch5
  | _ => none

def Head.toNat : Head → Nat
  | .h0 => 0
  | .h1 => 1
  | .h2 => 2

def SlotId.toNat : SlotId → Nat
  | .s0 => 0
  | .s1 => 1
  | .s2 => 2
  | .s3 => 3
  | .s4 => 4
  | .s5 => 5
  | .s6 => 6
  | .s7 => 7

def SlotId.ofNat? : Nat → Option SlotId
  | 0 => some .s0
  | 1 => some .s1
  | 2 => some .s2
  | 3 => some .s3
  | 4 => some .s4
  | 5 => some .s5
  | 6 => some .s6
  | 7 => some .s7
  | _ => none

/-- The head of channel c is c div 2 (00_scope.md, "Channels and heads"). -/
def Channel.head : Channel → Head
  | .ch0 => .h0
  | .ch1 => .h0
  | .ch2 => .h1
  | .ch3 => .h1
  | .ch4 => .h2
  | .ch5 => .h2

/-- The two channels a head serves, lower number first. -/
def Head.channels : Head → List Channel
  | .h0 => [.ch0, .ch1]
  | .h1 => [.ch2, .ch3]
  | .h2 => [.ch4, .ch5]

/-- The channel after this one, wrapping from ch5 to ch0 (R12). -/
def Channel.next : Channel → Channel
  | .ch0 => .ch1
  | .ch1 => .ch2
  | .ch2 => .ch3
  | .ch3 => .ch4
  | .ch4 => .ch5
  | .ch5 => .ch0

/-- The colour code of a channel's ink, 1 for ch0 to 6 for ch5 (R39). -/
def Channel.colour (c : Channel) : Nat := c.toNat + 1

def Roll.other : Roll → Roll
  | .upper => .lower
  | .lower => .upper

/-- A position on the supply link: slot s at position s, the waste cartridge at position 8. -/
inductive LinkPos
  | slot (k : SlotId)
  | waste
deriving DecidableEq, Repr

def LinkPos.toNat : LinkPos → Nat
  | .slot k => k.toNat
  | .waste => 8

end Sys2Proof
end

