-- ==== Sys2Proof/Config.lean ====
section
/-!
DEFINITION. What the manual fixes once for every hub (capacities, stroke and suction volumes, timer lengths, limits of
lists), and the free values: constants with no body, about which nothing can be proved.
-/

namespace Sys2Proof.Config

/-- Reservoir capacity of a channel, Cap, in nL (chapter 1). -/
def cap : Nat := 12000000
/-- The largest volume of one refill stroke, in nL (R10). -/
def strokeMax : Nat := 250000
/-- The stroke timer, 400 ms (R13). -/
def strokeMs : Nat := 400
/-- The stage timer of a suction stage: 3 s at level 2, 8 s at level 3 (R17). -/
def suctionMs (level : Nat) : Nat := if level = 2 then 3000 else 8000
/-- The suction part per channel: 300,000 nL at level 2, 1,500,000 nL at level 3, and 0 otherwise (R26). -/
def suctionVolume (level : Nat) : Nat := if level = 2 then 300000 else if level = 3 then 1500000 else 0
/-- Tenths of a picolitre in a nanolitre. -/
def tenths : Nat := 10000
/-- The largest value of a four-byte count: the ceiling of R37, R87 and R125. -/
def max32 : Nat := 4294967295
/-- The wait for a chip to be ready, 20 ms (R52). -/
def busyMs : Nat := 20
/-- The time within which a chip answers a command, 1 ms (R52). -/
def answerMs : Nat := 1
/-- A chip's write cycle, 5 ms (R51). -/
def writeMs : Nat := 5
/-- Marks on a chip. -/
def marksFull : Nat := 128
/-- The cap move timer, 3 s (R119). -/
def capMoveMs : Nat := 3000
/-- The wipe timer, 1.5 s (R120). -/
def wipeMs : Nat := 1500
/-- The swap timer, 30 s (R90). -/
def swapMs : Nat := 30000
/-- The cut timer, 3 s (R92). -/
def cutMs : Nat := 3000
/-- The advance watchdog: the expected duration, ceil(d / 200) ms plus 100 ms, plus 2,000 ms (R86). -/
def advanceMs (d : Nat) : Nat := ceilDiv d 200 + 100 + 2000
/-- The longest tail advance, in µm (R109). -/
def tailMax : Nat := 560000
/-- The distance from print line to cutter, in µm. -/
def cutterGap : Nat := 60000
/-- Places of the ticket queue (R61). -/
def ticketPlaces : Nat := 8
/-- Places of the sheet queue and of the outcome list (R97, R116). -/
def sheetPlaces : Nat := 4
/-- Entries of a dead list and of a retired list (R152). -/
def deadMax : Nat := 32
def retiredMax : Nat := 16
/-- Nozzles of a channel. -/
def nozzles : Nat := 512
/-- How many reactions a single step follows before it ends; what is then still due is taken up by the next step.
DESIGN CHOICE (notes/assumptions/2.md). -/
def fuel : Nat := 400

/-- Tank capacity in nL by capacity code (R43). -/
def tankCapacity : Nat → Option Nat
  | 0 => some 130000000
  | 1 => some 300000000
  | 2 => some 700000000
  | _ => none

/-- Waste cartridge capacity in nL by capacity code (R49). -/
def wasteCapacity : Nat → Option Nat
  | 0 => some 110000000
  | 1 => some 220000000
  | _ => none

/-- FREE VALUE: whether the dry time left shown in the sheet table is rounded up, at a remainder of the dry timer that
is not a whole number of seconds. The manual gives the field in seconds and does not state the rounding
(notes/assumptions/8.md). -/
opaque dryShownRoundsUp : Nat → Bool

/-- FREE VALUE: whether the last skip of an item that fails both the ink test and the waste test, with the given
need for waste, reads INK. R140 names both codes and does not state which stands (notes/assumptions/9.md). -/
opaque bothFailReadsInk : Nat → Bool

end Sys2Proof.Config
end

