-- ==== Sys2Proof/Syntax.lean ====
section
/-!
DEFINITION. The commands of the hub: one constructor per row of the table of operations and events. A port command
carries the port its transaction came in on and its operands as the numbers the bytes spell (10_ports, 10.7); a sensor
event carries the reading; a read command carries how many bits the master clocks after the command byte (R165, R173). A
GET_EVENTS or a TABLE_READ can be given in parts, so that what happens between its bytes shows (R162, R173, R175).
UNKNOWN_COMMAND is a transaction with a code that its port does not carry, in the table or not, which rises the given number
of bytes after the command byte (R167, tests 1 and 2).
-/

namespace Sys2Proof

/-- The identity record of a chip, 12 bytes (10.7, "Chip identity record"). -/
structure Identity where
  kind : BitVec 8
  colour : BitVec 8
  capCode : BitVec 8
  lot : BitVec 32
  serial : BitVec 40
deriving DecidableEq, Repr

/-- A chip as R51 describes it: its identity record, its map of 128 one-time marks (mark m is bit m, which is bit m mod 8
of byte m div 8), its write latch, the rest of a running write cycle in ms, and whether it answers at all. -/
structure Chip where
  identity : Identity
  marks : BitVec 128
  latched : Bool
  busyLeft : Nat
  answering : Bool
deriving DecidableEq, Repr

/-- The five commands a chip answers (R51). -/
inductive ChipCommand
  | idRead | mapRead | arm | mark | chipState
deriving DecidableEq, Repr

/-- What a chip answers (R51). -/
inductive LinkAnswer
  | identity (id : Identity)
  | map (marks : BitVec 128)
  | ack
  | state (busy latched : Bool)
deriving DecidableEq, Repr

/-- How the answer of a link transaction reached the hub: cleanly, from the chip at the position as R51 gives; or with
the line disturbed (R55, worked example of 3.7), where the chip may or may not have taken the command and the hub reads
the answer given. -/
inductive LinkDelivery
  | clean
  | disturbed (taken : Bool) (read : LinkAnswer)
deriving DecidableEq, Repr

/-- What the cap sensor reports (R117). -/
inductive CapReading
  | capped | opened | between
deriving DecidableEq, Repr

/-- PARKED or AWAY, as the carriage reports and as the park switch reads. -/
inductive ParkState
  | parked | away
deriving DecidableEq, Repr

/-- One channel report of an ORDER_DONE for a CHECK: channel, overflow flag, count of missing nozzles, indices (R129). -/
structure CheckReport where
  channel : Nat
  overflow : Nat
  count : Nat
  missing : List Nat
deriving DecidableEq, Repr

/-- A command byte that its port does not carry, and how many bytes followed it before the transaction rose (R165, R167). -/
structure StrayCode where
  value : Nat
  bytes : Nat
deriving DecidableEq, Repr

/-- What the master clocks in one part of a GET_EVENTS or a TABLE_READ, the command byte not counted: `rise` is so many bits
and then the rise of select; `hold` is so many whole bytes with select still low, and the next such command on the port goes
on with the same transaction (notes/assumptions/6.md). A read that nothing interrupts is one `rise`. -/
inductive Clocks
  | rise (bits : Nat)
  | hold (bytes : Nat)
deriving DecidableEq, Repr

/-- How many bits the part clocks. -/
def Clocks.bits : Clocks → Nat
  | .rise bits => bits
  | .hold bytes => 8 * bytes

/-- Select rises at the end of the part. -/
def Clocks.rises : Clocks → Bool
  | .rise _ => true
  | .hold _ => false

/-- The commands: one constructor per row of opcode_table.json. -/
inductive Instr
  | powerOn (parkSwitch : ParkState)
  | resetLineAssert
  | resetLineRelease (parkSwitch : ParkState)
  | frameError (port : Port) (bits : Nat)
  | unknownCommand (port : Port) (code : StrayCode)
  | getStatus (port : Port) (bits : Nat)
  | getReply (port : Port) (bits : Nat)
  | getEvents (port : Port) (bits : Clocks)
  | setEventMask (port : Port) (mask : BitVec 24)
  | tableSel (port : Port) (table place : Nat)
  | tableRead (port : Port) (bits : Clocks)
  | sheetOpen (port : Port) (pref media width planned top bottom dry cut : Nat)
  | sheetClose (port : Port) (sheet final : Nat)
  | sheetCancel (port : Port) (sheet : Nat)
  | swathAsk (port : Port) (sheet index advance count : Nat) (pairs : List (Nat × Nat))
  | swathWithdraw (port : Port) (ticket : Nat)
  | swathTake (port : Port) (ticket : Nat)
  | swathDone (port : Port) (ticket count : Nat) (pairs : List (Nat × Nat))
  | parkState (port : Port) (code : Nat)
  | getOrder (port : Port) (bits : Nat)
  | orderDone (port : Port) (kind count : Nat) (pairs : List (Nat × Nat)) (reports : List CheckReport)
  | go (port : Port)
  | configSet (port : Port) (param mask value : Nat)
  | configLock (port : Port)
  | slotMapSet (port : Port) (entries : Eight Nat)
  | tankAccept (port : Port) (slot capacity : Nat)
  | levelRestore (port : Port) (channel level : Nat)
  | retiredRestore (port : Port) (channel count : Nat) (indices : List Nat)
  | rollLoad (port : Port) (roll media width length : Nat)
  | cleanAsk (port : Port) (mask level urgency : Nat)
  | feedClear (port : Port)
  | stationClear (port : Port) (parkSwitch : ParkState)
  | sleepNow (port : Port)
  | hubReset (port : Port) (parkSwitch : ParkState)
  | probeTrip (channel : Channel) (wet : Bool)
  | strokeTimerExpiry
  | suctionStageEnd
  | slotTankArrival (slot : SlotId) (chip : Chip)
  | slotTankRemoval (slot : SlotId)
  | wasteCartridgeArrival (chip : Chip)
  | wasteCartridgeRemoval
  | linkAnswer (delivery : LinkDelivery)
  | linkAnswerTimeout
  | busyTimeout
  | rollArrival (roll : Roll)
  | rollRemoval (roll : Roll)
  | paperEnd (mediaPresent : Bool)
  | threadSensorChange (mediaPresent : Bool)
  | actuatorPositionReport (position : Roll)
  | cutterHomeSwitchChange (home : Bool)
  | endOfMove
  | advanceWatchdogExpiry
  | swapTimerExpiry
  | cutTimerExpiry
  | capSensorReport (reading : CapReading)
  | capMoveTimerExpiry
  | wipeTimerExpiry
  | capDelayExpiry
  | exposureSpitThreshold (head : Head)
  | exposureCleanThreshold (head : Head)
  | orderTimerExpiry
  | swathTimerExpiry
  | dryTimerExpiry (sheet : Nat)
  | idleSleepExpiry
  | idleServiceExpiry
deriving DecidableEq, Repr

end Sys2Proof
end

