-- ==== Sys2Proof/Decode.lean ====
section
/-!
DEFINITION. The commands that a word spells. No row of opcode_table.json gives bits (every row's list of fields is empty:
the operations and events of this block are not words), so no word spells one.
-/

namespace Sys2Proof

/-- The command a word of so many bits spells by the bits opcode_table.json gives its rows: it gives none. -/
def decodeTableWord (_nbits _w : Nat) : Option Instr := none

end Sys2Proof
end

