-- ==== Sys2Proof/Machine/State.lean ====
section
/-!
DEFINITION. The state of the hub, block by block as 00_scope.md names their owners, as plain data; the reasons a step can
stop; and the state after reset. INVENTORY.md lists every field with its rule.
-/

namespace Sys2Proof.Machine

/-! ### Names of states and codes -/

inductive Mode
  | start | run | sleep
deriving DecidableEq, Repr

inductive ResetCause
  | powerOn | resetLine | soft
deriving DecidableEq, Repr

inductive LevelState
  | unknown | normal | deficit | starved
deriving DecidableEq, Repr

inductive SupplyState
  | unmapped | reservoirOnly | supplied
deriving DecidableEq, Repr

inductive SessionState
  | idle | want | waitMark | stroke | suspended
deriving DecidableEq, Repr

inductive SlotState
  | empty | identifying | active | standby | manual | spent | refused | faulted | unidentified
deriving DecidableEq, Repr

inductive RefusalReason
  | wrongInk | badChip | unmapped
deriving DecidableEq, Repr

inductive WasteState
  | absent | identifying | ready | full | refused | faulted
deriving DecidableEq, Repr

inductive JobKind
  | identify | mark
deriving DecidableEq, Repr

inductive TicketState
  | queued | reserved | granted | firing
deriving DecidableEq, Repr

inductive AdvanceState
  | pending | running | done
deriving DecidableEq, Repr

inductive SheetState
  | queued | held | loading | printing | closing | cancelling | drying | cutting
deriving DecidableEq, Repr

inductive RollPref
  | upper | lower | any
deriving DecidableEq, Repr

inductive CutMode
  | cut | noCut
deriving DecidableEq, Repr

inductive LoadStep
  | swap | margin | noMedia
deriving DecidableEq, Repr

inductive FinishStep
  | tail | cut
deriving DecidableEq, Repr

inductive SheetOutcome
  | none | done | cancelled | mediaEnd | feedFault
deriving DecidableEq, Repr

inductive RollState
  | absent | loaded | threaded | empty
deriving DecidableEq, Repr

inductive PathState
  | idle | advancing | swapping | cutting | fault | unthreaded
deriving DecidableEq, Repr

inductive FeedCause
  | none | jam | threadLost | rollRemoved | swapTimeout | cutTimeout | cutterAway | sensorMismatch
deriving DecidableEq, Repr

inductive FeedKind
  | advance | swap | cut
deriving DecidableEq, Repr

inductive Purpose
  | ticket | margin | tail | load | cut
deriving DecidableEq, Repr

inductive SwapStage
  | unthread | select | thread
deriving DecidableEq, Repr

inductive StationState
  | capped | uncapping | opened | capping | wiping | suction | fault
deriving DecidableEq, Repr

inductive StationCause
  | none | awayReport | capTimeout | orderTimeout | sensor
deriving DecidableEq, Repr

inductive MoveKind
  | cap | uncap | wipe
deriving DecidableEq, Repr

inductive OrderKind
  | none | spit | check | park
deriving DecidableEq, Repr

inductive OrderOrigin
  | item | station
deriving DecidableEq, Repr

inductive Urgency
  | now | gap
deriving DecidableEq, Repr

/-- Origins of a CLEAN. A SPIT's origin is always PERIODIC; a CHECK has none (8.1). -/
inductive CleanOrigin
  | panel | health | exposure | idle | start
deriving DecidableEq, Repr

inductive LastSkip
  | none | ink (channel : Channel) | waste
deriving DecidableEq, Repr

inductive Stage
  | park | cap | suction | uncap | wipe | spit | check
deriving DecidableEq, Repr

inductive Grade
  | good | fair | poor
deriving DecidableEq, Repr

/-- Outcome codes of the reply record (10.2). -/
inductive ReplyCode
  | none | accepted | clamped | unknownCommand | notThisPort | badOperand | full | noSuch | wrongState | locked | asleep
deriving DecidableEq, Repr

/-- The twelve readable tables (10.4). -/
inductive TableId
  | channel | slot | linkJob | ticket | sheet | outcome | roll | station | service | health | dead | retired
deriving DecidableEq, Repr

/-- Event kinds, in the order of their positions (10.5). -/
inductive Event
  | resetSeen | frameError | ticketGranted | grantWithdrawn | ticketSettled | sheetActive | sheetDone | mediaNeeded
  | feedFault | cutFault | orderReady | carriageTimeout | stationFault | inkLow | inkStarved | deficit | tankChange
  | tankRefused | linkFault | wasteNearFull | wasteFull | nozzleTableChanged | headFailed
deriving DecidableEq, Repr

/-! ### Records -/

/-- The reply record of a port (10.2). -/
structure Reply where
  seq : Nat
  command : Nat
  outcome : ReplyCode
  value : Nat
deriving DecidableEq, Repr

/-- A table cursor: the selected table and the next place (R172, R173). -/
structure Cursor where
  table : TableId
  place : Nat
deriving DecidableEq, Repr

/-- A read under way on a port whose select is still low: of a TABLE_READ the bytes not yet sent of the entry whose tag byte
has begun (R173); of a GET_EVENTS the set captured, the kinds latched since, and how many bytes were sent (R175); or a read
that began in SLEEP (R167). -/
inductive OpenRead
  | table (rest : List Byte)
  | events (returned newer : BitVec 24) (sent : Nat)
  | asleep
deriving DecidableEq, Repr

/-- What one port holds: the four pieces of state of chapter 10, what it drove on data out in the last transaction
(R166): the bytes, the last one cut to the bits that were clocked, and how many bits that was; and the read under way. -/
structure PortRec where
  reply : Reply
  events : BitVec 24
  mask : BitVec 24
  cursor : Option Cursor
  out : List Byte
  outBits : Nat
  reading : Option OpenRead
deriving DecidableEq, Repr

/-- The ledger's part of a channel record (R1). -/
structure ChannelRec where
  level : Nat
  established : Bool
  carry : Nat
  rs : Nat
  rv : Nat
  dv : Nat
  levelState : LevelState
deriving DecidableEq, Repr

/-- The ink ledger: channel records, waste totals, uncovered flag, and the parts the active item holds (R27, R29, R35). -/
structure Ledger where
  chan : Six ChannelRec
  wa : Nat
  wr : Nat
  uncovered : Bool
  spitPart : Six Nat
  suctionPart : Six Nat
deriving DecidableEq, Repr

/-- A channel's refill session (1.3): its state, its demand flag, and, in WAIT_MARK, the slot and the target marks. -/
structure Session where
  state : SessionState
  demand : Bool
  waitSlot : Option SlotId
  target : Nat
deriving DecidableEq, Repr

/-- A running stroke (R13): channel, volume, source slot, whether the source's record still stands (R42), timer left. -/
structure StrokeRun where
  channel : Channel
  volume : Nat
  source : SlotId
  stands : Bool
  left : Nat
deriving DecidableEq, Repr

/-- A running suction stage (R15, R17). `orphan` is set when the station entered FAULT while it ran (R130). -/
structure SuctionRun where
  head : Head
  level : Nat
  left : Nat
  orphan : Bool
deriving DecidableEq, Repr

/-- The pump state (1.4). -/
inductive Pump
  | free
  | stroke (run : StrokeRun)
  | suction (run : SuctionRun)
deriving DecidableEq, Repr

/-- A suction request in the arbiter's entry: head and level (R15). -/
structure SuctionReq where
  head : Head
  level : Nat
deriving DecidableEq, Repr

/-- The supply manifold (chapter 1). -/
structure Manifold where
  session : Six Session
  pump : Pump
  request : Option SuctionReq
  lastServed : Channel
deriving DecidableEq, Repr

/-- A slot record (3.2). -/
structure SlotRec where
  state : SlotState
  identity : Option Identity
  capacity : Nat
  marks : Nat
  drawn : Nat
  manual : Bool
  reason : Option RefusalReason
  low : Bool
deriving DecidableEq, Repr

/-- The waste cartridge record (3.5). -/
structure WasteRec where
  state : WasteState
  wcap : Nat
  marks : Nat
  nearFull : Bool
deriving DecidableEq, Repr

/-- A link job (R53). -/
structure LinkJob where
  pos : LinkPos
  kind : JobKind
  target : Nat
  attempts : Nat
  busy : Nat
deriving DecidableEq, Repr

/-- The transaction of the running job (R52, R54, R55): the chip command the job sends or has sent, whether it still
waits for the chip to be ready (CHIP_STATE), the wait's or the answer's time left, the identity already read by an
IDENTIFY job, and whether the job ends with this transaction (R48). -/
structure LinkRun where
  cmd : ChipCommand
  waiting : Bool
  left : Nat
  ident : Option Identity
  ending : Bool
deriving DecidableEq, Repr

/-- The supply link: job queue, running transaction, and whether a soft reset waits for it (R60). -/
structure Link where
  jobs : List LinkJob
  run : Option LinkRun
  draining : Bool
deriving DecidableEq, Repr

/-- The slot and supply-link unit (chapter 3). -/
structure Supply where
  map : Eight (Option Channel)
  slot : Eight SlotRec
  waste : WasteRec
  link : Link
deriving DecidableEq, Repr

/-- A ticket record (4.1). -/
structure Ticket where
  number : Nat
  sheet : Nat
  index : Nat
  advance : Nat
  predicted : Six Nat
  need : Six Nat
  adv : AdvanceState
  state : TicketState
deriving DecidableEq, Repr

/-- The admission unit: ticket queue, next-number, swath timer (R61, R62, R72). -/
structure Admission where
  queue : List Ticket
  nextNumber : Nat
  swathLeft : Option Nat
deriving DecidableEq, Repr

/-- A roll record (5.1); `remaining` none is UNKNOWN. -/
structure RollRec where
  state : RollState
  described : Bool
  media : Nat
  width : Nat
  remaining : Option Nat
deriving DecidableEq, Repr

/-- The running feed operation (5.2), its timer, for a cut whether the cutter has left home (R92), and whether a soft
reset has left it without a requester (R96). -/
structure FeedOp where
  kind : FeedKind
  purpose : Purpose
  length : Nat
  sheet : Nat
  ticket : Nat
  target : Option Roll
  stage : Option SwapStage
  left : Nat
  cutterLeft : Bool
  orphan : Bool
deriving DecidableEq, Repr

/-- The feed unit (chapter 5). The actuator position is the pin's. -/
structure Feed where
  roll : Two RollRec
  path : PathState
  pathRoll : Option Roll
  op : Option FeedOp
  cause : FeedCause
deriving DecidableEq, Repr

/-- A sheet record (6.1). `dryLeft` is in ms. -/
structure Sheet where
  id : Nat
  pref : RollPref
  media : Nat
  width : Nat
  planned : Nat
  top : Nat
  bottom : Nat
  dry : Nat
  cut : CutMode
  final : Nat
  state : SheetState
  roll : Option Roll
  loadStep : Option LoadStep
  finish : Option FinishStep
  dryLeft : Nat
  printed : Nat
  ink : Six Nat
  outcome : SheetOutcome
deriving DecidableEq, Repr

/-- An entry of the outcome list (R116). -/
structure OutcomeEntry where
  id : Nat
  outcome : SheetOutcome
  printedMm : Nat
  ink : Six Nat
deriving DecidableEq, Repr

/-- The sheet queue, next-id and outcome list (R97, R98, R116). -/
structure Sheets where
  queue : List Sheet
  nextId : Nat
  outcomes : List OutcomeEntry
deriving DecidableEq, Repr

/-- A running move of cap or wiper with its timer (R119, R120). -/
structure Move where
  kind : MoveKind
  left : Nat
deriving DecidableEq, Repr

/-- The station's suction record (R124): head, level, REQUESTED or RUNNING. -/
structure SuctionRec where
  head : Head
  level : Nat
  running : Bool
deriving DecidableEq, Repr

/-- The carriage order record with its timer (R127, R128). -/
structure Order where
  kind : OrderKind
  mask : Three Bool
  drops : Nat
  origin : Option OrderOrigin
  left : Nat
deriving DecidableEq, Repr

/-- The service station (7.1). -/
structure Station where
  state : StationState
  park : ParkState
  exposure : Three Nat
  spitSent : Three Bool
  cleanSent : Three Bool
  capDelayLeft : Nat
  capDue : Bool
  move : Option Move
  suction : Option SuctionRec
  order : Order
  failures : Nat
  cause : StationCause
deriving DecidableEq, Repr

/-- What a service item asks for (8.1). -/
inductive Work
  | spit (mask : Three Bool)
  | clean (head : Head) (level : Nat) (origin : CleanOrigin) (urgency : Urgency) (attempt : Nat)
  | check (mask : Three Bool)
deriving DecidableEq, Repr

/-- A service item with its last skip. `born` orders items by when they were first queued, which is the place a given-back
item returns to (R148); the hub shows places only. -/
structure Item where
  born : Nat
  work : Work
  skip : LastSkip
deriving DecidableEq, Repr

/-- The active item and the stages it has yet to end, the current one first (R142). -/
structure ActiveItem where
  item : Item
  stages : List Stage
deriving DecidableEq, Repr

/-- The service scheduler (chapter 8). -/
structure Service where
  queue : List Item
  active : Option ActiveItem
  failed : Three Bool
  sheetCount : Nat
  nextBorn : Nat
deriving DecidableEq, Repr

/-- A dead entry: nozzle and miss count (9.1). -/
structure DeadEntry where
  nozzle : Nat
  misses : Nat
deriving DecidableEq, Repr

/-- The nozzle health table of one channel (9.1). -/
structure NozzleRec where
  dead : List DeadEntry
  retired : List Nat
  overflow : Bool
  grade : Grade
deriving DecidableEq, Repr

/-- The nozzle health tables (R152). -/
structure Nozzles where
  chan : Six NozzleRec
  generation : Nat
deriving DecidableEq, Repr

/-- The parameters 2 to 17 (11.3); dv stands in the channel records. -/
structure Params where
  floor : Nat
  reserve : Nat
  refillLow : Nat
  refillHigh : Nat
  margin : Nat
  spitInterval : Nat
  spitDrops : Nat
  capDelay : Nat
  swathTimeout : Nat
  orderTimeout : Nat
  checkEvery : Nat
  idleService : Nat
  idleSleep : Nat
  inkLow : Nat
  nearFull : Nat
  minOpen : Nat
deriving DecidableEq, Repr

/-- The mode unit (chapter 11). A timer that does not run is none. -/
structure ModeUnit where
  mode : Mode
  cause : ResetCause
  params : Params
  lock : Bool
  idleSleepLeft : Option Nat
  idleServiceLeft : Option Nat
deriving DecidableEq, Repr

/-- The sensor inputs and the reset line (00_scope.md, "Pins and electrical notes"), as last reported. -/
structure Pins where
  resetLow : Bool
  slotPresent : Eight Bool
  wastePresent : Bool
  probeWet : Six Bool
  cap : CapReading
  parkSwitch : ParkState
  rollPresent : Two Bool
  paper : Bool
  thread : Bool
  cutterHome : Bool
  actuator : Roll
deriving DecidableEq, Repr

/-- The chips that stand at the link positions, outside the hub (R51). -/
structure Chips where
  slot : Eight (Option Chip)
  waste : Option Chip
deriving DecidableEq, Repr

/-- THE MODEL'S OWN: a stroke that has completed and whose session R16 has yet to decide. -/
structure EndedStroke where
  channel : Channel
  tripped : Bool
deriving DecidableEq, Repr

/-- THE MODEL'S OWN: reactions that an operation has made due and that the same step has yet to follow: a reservation pass
(R24), a selection of the service arbiter (R139), a report of changed roll records to the sheet queue, which holds the records
as they stood before (R80, R104), a test of the loading conditions (R101), the decision on the session of a completed stroke
(R14, R16). -/
structure Due where
  pass : Bool
  arbiter : Bool
  rolls : Option (Two RollRec)
  examine : Bool
  stroke : Option EndedStroke
deriving DecidableEq, Repr

/-- The hub and what stands at its pins, with the queue of commands that wait, first in first out. -/
structure State where
  pending : List Instr
  pins : Pins
  chips : Chips
  mode : ModeUnit
  ports : PerPort PortRec
  ledger : Ledger
  manifold : Manifold
  supply : Supply
  tickets : Admission
  feed : Feed
  sheets : Sheets
  station : Station
  service : Service
  nozzles : Nozzles
  due : Due
deriving DecidableEq, Repr

/-! ### Why a step can stop -/

/-- No command of the table stops the hub, so the hub has no fault: every behaviour the manual calls a fault (path FAULT,
station FAULT, a FAULTED position) is a state of a block, with its event, and the hub goes on. -/
inductive Fault
deriving DecidableEq, Repr

/-- Reasons for which a command would be refused. -/
inductive Refusal
  /-- A row of the table that has no meaning yet; raised by an arm of exec alone. Safe: nothing happens. No arm raises it. -/
  | notModelled (mnemonic : String)
deriving DecidableEq, Repr

/-! ### Reset values -/

/-- Parameter defaults (11.3). -/
def Params.default : Params :=
  { floor := 1500000, reserve := 1200000, refillLow := 6000000, refillHigh := 11000000, margin := 10,
    spitInterval := 8, spitDrops := 16, capDelay := 20, swathTimeout := 60, orderTimeout := 10, checkEvery := 0,
    idleService := 24, idleSleep := 15, inkLow := 10, nearFull := 90, minOpen := 500 }

/-- R177, with the event set {RESET_SEEN}; the line drives no data, and no transaction is in progress. -/
def PortRec.reset : PortRec :=
  { reply := { seq := 0, command := 0, outcome := .none, value := 0 }, events := 1, mask := 0, cursor := none,
    out := [], outBits := 0, reading := none }

/-- R1. -/
def ChannelRec.reset : ChannelRec :=
  { level := 0, established := false, carry := 0, rs := 0, rv := 0, dv := 42, levelState := .unknown }

/-- R38. -/
def Ledger.reset : Ledger :=
  { chan := Six.const ChannelRec.reset, wa := 0, wr := 0, uncovered := false, spitPart := Six.const 0,
    suctionPart := Six.const 0 }

def Session.reset : Session := { state := .idle, demand := false, waitSlot := none, target := 0 }

/-- R18. -/
def Manifold.reset : Manifold :=
  { session := Six.const Session.reset, pump := .free, request := none, lastServed := .ch5 }

/-- R39: the default slot map. -/
def defaultMap : Eight (Option Channel) :=
  ⟨some .ch0, some .ch0, some .ch1, some .ch2, some .ch3, some .ch4, some .ch5, some .ch1⟩

/-- A cleared slot record (R40). -/
def SlotRec.cleared : SlotRec :=
  { state := .empty, identity := none, capacity := 0, marks := 0, drawn := 0, manual := false, reason := none,
    low := false }

/-- A cleared waste cartridge record (R49). -/
def WasteRec.cleared : WasteRec := { state := .absent, wcap := 0, marks := 0, nearFull := false }

/-- R60, with every position unoccupied. -/
def Supply.reset : Supply :=
  { map := defaultMap, slot := Eight.const SlotRec.cleared, waste := WasteRec.cleared,
    link := { jobs := [], run := none, draining := false } }

/-- R79. -/
def Admission.reset : Admission := { queue := [], nextNumber := 1, swathLeft := none }

/-- The record of an absent roll, or of one that is cleared (R80, R81). DESIGN CHOICE (notes/assumptions/40.md): its
remaining is UNKNOWN. -/
def RollRec.absent : RollRec := { state := .absent, described := false, media := 0, width := 0, remaining := none }

/-- R80, R84, with no roll in either holder and no media at the thread sensor. -/
def Feed.reset : Feed :=
  { roll := Two.const RollRec.absent, path := .unthreaded, pathRoll := none, op := none, cause := .none }

/-- R97, R98, R116. -/
def Sheets.reset : Sheets := { queue := [], nextId := 1, outcomes := [] }

/-- The empty carriage order record (R127). -/
def Order.empty : Order :=
  { kind := .none, mask := Three.const false, drops := 0, origin := none, left := 0 }

/-- R133, with the cap sensor at its capped end and the carriage parked. -/
def Station.reset : Station :=
  { state := .capped, park := .parked, exposure := Three.const 0, spitSent := Three.const false,
    cleanSent := Three.const false, capDelayLeft := 20000, capDue := false, move := none, suction := none,
    order := Order.empty, failures := 0, cause := .none }

/-- R151. -/
def Service.reset : Service :=
  { queue := [], active := none, failed := Three.const false, sheetCount := 0, nextBorn := 0 }

/-- R163. -/
def Nozzles.reset : Nozzles :=
  { chan := Six.const { dead := [], retired := [], overflow := false, grade := .good }, generation := 0 }

/-- R178. -/
def ModeUnit.reset : ModeUnit :=
  { mode := .start, cause := .powerOn, params := Params.default, lock := false, idleSleepLeft := none,
    idleServiceLeft := none }

/-- DESIGN CHOICE (notes/assumptions/3.md): what the sensors read before anything is reported: nothing inserted, no
media, heads capped, carriage parked, cutter home, actuator at UPPER, the reset line high. -/
def Pins.reset : Pins :=
  { resetLow := false, slotPresent := Eight.const false, wastePresent := false, probeWet := Six.const false,
    cap := .capped, parkSwitch := .parked, rollPresent := Two.const false, paper := false, thread := false,
    cutterHome := true, actuator := .upper }

/-- The hub right after power-on with nothing inserted. -/
def State.reset : State :=
  { pending := [], pins := Pins.reset, chips := { slot := Eight.const none, waste := none }, mode := ModeUnit.reset,
    ports := PerPort.const PortRec.reset, ledger := Ledger.reset, manifold := Manifold.reset, supply := Supply.reset,
    tickets := Admission.reset, feed := Feed.reset, sheets := Sheets.reset, station := Station.reset,
    service := Service.reset, nozzles := Nozzles.reset
    due := { pass := false, arbiter := false, rolls := none, examine := false, stroke := none } }

end Sys2Proof.Machine
end

