-- ==== Sys2Proof/Machine/Ops.lean ====
section
/-!
DEFINITION. The named updates of the state, one per block, and the small questions about lists, channel sets and modes
that the blocks share.
-/

namespace Sys2Proof.Machine

/-! ### One update per block -/

def State.setPending (s : State) (x : List Instr) : State := { s with pending := x }
def State.setPins (s : State) (x : Pins) : State := { s with pins := x }
def State.setChips (s : State) (x : Chips) : State := { s with chips := x }
def State.setMode (s : State) (x : ModeUnit) : State := { s with mode := x }
def State.setPorts (s : State) (x : PerPort PortRec) : State := { s with ports := x }
def State.setLedger (s : State) (x : Ledger) : State := { s with ledger := x }
def State.setManifold (s : State) (x : Manifold) : State := { s with manifold := x }
def State.setSupply (s : State) (x : Supply) : State := { s with supply := x }
def State.setTickets (s : State) (x : Admission) : State := { s with tickets := x }
def State.setFeed (s : State) (x : Feed) : State := { s with feed := x }
def State.setSheets (s : State) (x : Sheets) : State := { s with sheets := x }
def State.setStation (s : State) (x : Station) : State := { s with station := x }
def State.setService (s : State) (x : Service) : State := { s with service := x }
def State.setNozzles (s : State) (x : Nozzles) : State := { s with nozzles := x }
def State.setDue (s : State) (x : Due) : State := { s with due := x }

/-! ### What the same step has yet to follow -/

def State.duePass (s : State) : State := s.setDue { s.due with pass := true }
def State.dueArbiter (s : State) : State := s.setDue { s.due with arbiter := true }

/-- R101: the loading conditions are tested, and the head sheet is examined where they hold. -/
def State.dueExamine (s : State) : State := s.setDue { s.due with examine := true }

/-- R14: the session of a completed stroke is yet to be decided. -/
def State.dueStroke (s : State) (c : Channel) (tripped : Bool) : State :=
  s.setDue { s.due with stroke := some { channel := c, tripped := tripped } }

/-- R80, R101, R104: a report that the roll records are no longer `old` is due, where they differ. One still due keeps the
records it began with. -/
def State.reportRolls (s : State) (old : Two RollRec) : State :=
  if s.feed.roll = old then s
  else s.setDue { s.due with rolls := some (s.due.rolls.getD old), examine := true }

/-- An operation made only where a condition holds. -/
def State.when (s : State) (b : Bool) (f : State → State) : State := if b then f s else s

/-! ### Questions several blocks ask -/

def State.params (s : State) : Params := s.mode.params
def State.inStart (s : State) : Bool := s.mode.mode == .start
def State.inRun (s : State) : Bool := s.mode.mode == .run
def State.inSleep (s : State) : Bool := s.mode.mode == .sleep

/-- A waiting item whose last skip is not NONE (R139). -/
def State.skipStands (s : State) : Bool := s.service.queue.any fun i => i.skip != .none

/-- What a change of a channel's L, Rs or Rv starts: a reservation pass (R24) and, while a waiting item's last skip is not
NONE, a selection of the service arbiter (R139). -/
def State.inkMoved (s : State) : State := s.duePass.when s.skipStands State.dueArbiter

/-- What a rise of the waste marks, a change of the cartridge's state or a clearing of the uncovered flag starts (R139). -/
def State.wasteMoved (s : State) : State := s.when s.skipStands State.dueArbiter

/-- The sheet states that make a sheet the active sheet (chapter 6). -/
def SheetState.isActive : SheetState → Bool
  | .loading | .printing | .closing | .cancelling => true
  | .queued | .held | .drying | .cutting => false

/-- The active sheet, if any. -/
def State.activeSheet (s : State) : Option Sheet := s.sheets.queue.find? fun h => h.state.isActive

/-- No sheet is LOADING, PRINTING, CLOSING or CANCELLING (R139). -/
def State.sheetGap (s : State) : Bool := s.activeSheet.isNone

def State.findSheet (s : State) (id : Nat) : Option Sheet := s.sheets.queue.find? fun h => h.id == id

/-- Every record of the sheet queue that bears the id is changed. -/
def State.modSheet (s : State) (id : Nat) (f : Sheet → Sheet) : State :=
  s.setSheets { s.sheets with queue := s.sheets.queue.map fun h => if h.id == id then f h else h }

def State.findTicket (s : State) (n : Nat) : Option Ticket := s.tickets.queue.find? fun t => t.number == n

def State.modTicket (s : State) (n : Nat) (f : Ticket → Ticket) : State :=
  s.setTickets { s.tickets with queue := s.tickets.queue.map fun t => if t.number == n then f t else t }

/-- The oldest ticket (R61). -/
def State.oldest (s : State) : Option Ticket := s.tickets.queue.head?

/-- RESERVED, GRANTED or FIRING: the ticket's needs stand in Rs (4.1). -/
def TicketState.reserves : TicketState → Bool
  | .reserved | .granted | .firing => true
  | .queued => false

/-- A ticket is GRANTED or FIRING. -/
def State.carriageHolds (s : State) : Bool :=
  s.tickets.queue.any fun t => t.state == .granted || t.state == .firing

def State.isFiring (s : State) : Bool := s.tickets.queue.any fun t => t.state == .firing

/-- A channel of the ticket's set: its need is above 0 (R21). -/
def Ticket.uses (t : Ticket) (c : Channel) : Bool := 0 < t.need.get c

/-- A head of the ticket's set. -/
def Ticket.usesHead (t : Ticket) (h : Head) : Bool := h.channels.any t.uses

/-- The channels of the heads of a mask. -/
def maskHas (m : Three Bool) (c : Channel) : Bool := m.get c.head

def onlyHead (h : Head) : Three Bool := (Three.const false).set h true

def maskOr (a b : Three Bool) : Three Bool := Three.tab fun h => a.get h || b.get h

def maskEmpty (m : Three Bool) : Bool := !(m.h0 || m.h1 || m.h2)

/-- The number after n, wrapping from 255 to 1 (R62, R98, R168). -/
def nextByte (n : Nat) : Nat := if 255 ≤ n then 1 else n + 1

/-- The first number from n on, wrapping from 255 to 1, that `taken` does not hold; `k` bounds the search. -/
def firstFree (taken : List Nat) : Nat → Nat → Nat
  | 0, n => n
  | k + 1, n => if taken.contains n then firstFree taken k (nextByte n) else n

/-- A sum that stops at the ceiling of a four-byte count. -/
def addCapped (a b : Nat) : Nat := min (a + b) Config.max32

end Sys2Proof.Machine
end

