-- ==== Sys2Proof/Machine/Flags.lean ====
section
/-!
DEFINITION. Events and attention (10.5): positions, routing, latching, and the attention line of a port.
-/

namespace Sys2Proof.Machine

/-- An event's place in the three-byte set and mask (10.5). -/
def Event.position : Event → Nat
  | .resetSeen => 0
  | .frameError => 1
  | .ticketGranted => 2
  | .grantWithdrawn => 3
  | .ticketSettled => 4
  | .sheetActive => 5
  | .sheetDone => 6
  | .mediaNeeded => 7
  | .feedFault => 8
  | .cutFault => 9
  | .orderReady => 10
  | .carriageTimeout => 11
  | .stationFault => 12
  | .inkLow => 13
  | .inkStarved => 14
  | .deficit => 15
  | .tankChange => 16
  | .tankRefused => 17
  | .linkFault => 18
  | .wasteNearFull => 19
  | .wasteFull => 20
  | .nozzleTableChanged => 21
  | .headFailed => 22

/-- The event as a set of one kind. -/
def Event.bit (e : Event) : BitVec 24 := BitVec.ofNat 24 (2 ^ e.position)

/-- The routing table (10.5). FRAME_ERROR goes to the port concerned alone, by `raiseOn`. -/
def Event.routed : Event → Port → Bool
  | .resetSeen, _ => true
  | .frameError, _ => false
  | .ticketGranted, p => p != .pp
  | .grantWithdrawn, p => p != .pp
  | .ticketSettled, p => p == .rp
  | .sheetActive, p => p != .cp
  | .sheetDone, p => p != .cp
  | .mediaNeeded, p => p != .cp
  | .feedFault, _ => true
  | .cutFault, p => p != .cp
  | .orderReady, p => p == .cp
  | .carriageTimeout, _ => true
  | .stationFault, _ => true
  | .inkLow, p => p == .pp
  | .inkStarved, p => p != .cp
  | .deficit, p => p == .pp
  | .tankChange, p => p == .pp
  | .tankRefused, p => p == .pp
  | .linkFault, p => p == .pp
  | .wasteNearFull, p => p == .pp
  | .wasteFull, p => p != .cp
  | .nozzleTableChanged, _ => true
  | .headFailed, _ => true

/-- A kind that is latched while a GET_EVENTS is under way is newer than what that read returns (R175). -/
def OpenRead.latch (x : OpenRead) (e : Event) : OpenRead :=
  match x with
  | .events returned newer sent => .events returned (newer ||| e.bit) sent
  | .table rest => .table rest
  | .asleep => .asleep

/-- The port's set with the event latched (R174). -/
def PortRec.latch (r : PortRec) (e : Event) : PortRec :=
  { r with events := r.events ||| e.bit, reading := r.reading.map fun x => x.latch e }

/-- A raised event is latched into the set of each port the routing table gives (R174). -/
def State.raise (s : State) (e : Event) : State :=
  let at_ (p : Port) : PortRec := if e.routed p then (s.ports.get p).latch e else s.ports.get p
  s.setPorts { rp := at_ .rp, cp := at_ .cp, pp := at_ .pp }

def State.raiseIf (s : State) (b : Bool) (e : Event) : State := if b then s.raise e else s

/-- An event latched on one port alone (R165, R174). -/
def State.raiseOn (s : State) (p : Port) (e : Event) : State :=
  s.setPorts (s.ports.set p ((s.ports.get p).latch e))

/-- The attention line of a port is asserted (R176): the set and the mask have a kind in common. While the reset line is
held low the hub drives nothing. -/
def State.attention (s : State) (p : Port) : Bool :=
  !s.pins.resetLow && ((s.ports.get p).events &&& (s.ports.get p).mask != 0)

end Sys2Proof.Machine
end

