-- ==== Sys2Proof/Machine/Jobs.lean ====
section
/-!
DEFINITION. The link job queue and the requests it receives (R53).
-/

namespace Sys2Proof.Machine

def LinkJob.identify (pos : LinkPos) : LinkJob :=
  { pos := pos, kind := .identify, target := 0, attempts := 0, busy := 0 }

def LinkJob.mark (pos : LinkPos) (target : Nat) : LinkJob :=
  { pos := pos, kind := .mark, target := target, attempts := 0, busy := 0 }

/-- The job of a position, queued or running. -/
def Link.jobAt (l : Link) (pos : LinkPos) : Option LinkJob := l.jobs.find? fun j => j.pos == pos

/-- An IDENTIFY request appends a job (R53). -/
def Link.requestIdentify (l : Link) (pos : LinkPos) : Link := { l with jobs := l.jobs ++ [LinkJob.identify pos] }

/-- A MARK request: appended where the position has no job, raised in place where a MARK job stands, dropped where an
IDENTIFY job stands; a target above 128 is taken as 128 (R53). -/
def Link.requestMark (l : Link) (pos : LinkPos) (target : Nat) : Link :=
  let t := min target Config.marksFull
  match l.jobAt pos with
  | none => { l with jobs := l.jobs ++ [LinkJob.mark pos t] }
  | some _ =>
    { l with jobs := l.jobs.map fun j =>
        if j.pos == pos && j.kind == .mark then { j with target := max j.target t } else j }

def State.setLink (s : State) (l : Link) : State := s.setSupply { s.supply with link := l }

def State.requestIdentify (s : State) (pos : LinkPos) : State := s.setLink (s.supply.link.requestIdentify pos)

def State.requestMark (s : State) (pos : LinkPos) (target : Nat) : State :=
  s.setLink (s.supply.link.requestMark pos target)

/-- The job of a removed position is dropped at once; a running one leaves the link free for the next (R42, R57). -/
def Link.drop (l : Link) (pos : LinkPos) : Link :=
  { l with
    jobs := l.jobs.filter fun j => j.pos != pos
    run := if l.jobs.head?.any (fun j => j.pos == pos) then none else l.run }

end Sys2Proof.Machine
end

