-- ==== Sys2Proof/Machine/Ledger.lean ====
section
/-!
DEFINITION. The ink ledger (02_ink_arithmetic): level states, conversion of drops, needs, reservations, settlements, and
the waste totals with the uncovered flag.
-/

namespace Sys2Proof.Machine

/-! ### Level states (1.1) -/

/-- The level as the ledger's tests take it: 0 while UNKNOWN (R1). -/
def ChannelRec.volume (r : ChannelRec) : Nat := if r.established then r.level else 0

/-- R2, with the difference L − F − S signed; with Rs + Rv = 0 a level above F is NORMAL.
DEDUCED (notes/assumptions/10.md): R2's explicit sentence on Rs + Rv = 0 stands over its formula. -/
def levelStateOf (p : Params) (r : ChannelRec) : LevelState :=
  if !r.established then .unknown
  else if r.level ≤ p.floor then .starved
  else if 0 < r.rs + r.rv ∧ r.level < r.rs + r.rv + p.floor + p.reserve then .deficit
  else .normal

def ChannelRec.recompute (p : Params) (r : ChannelRec) : ChannelRec := { r with levelState := levelStateOf p r }

/-- L, Rs, Rv or the establishment of the level differs. -/
def ChannelRec.moved (r r' : ChannelRec) : Bool :=
  r.level != r'.level || r.rs != r'.rs || r.rv != r'.rv || r.established != r'.established

/-- A channel's level state became the given one (R3). -/
def anyBecame (x : LevelState) (old new : Six ChannelRec) : Bool :=
  Channel.all.any fun c => (new.get c).levelState == x && (old.get c).levelState != x

def anyMoved (old new : Six ChannelRec) : Bool := Channel.all.any fun c => (old.get c).moved (new.get c)

/-- The channel records after an operation that changes each by `f`: the level state of each channel whose L, Rs, Rv or
establishment changed is recomputed once, after all of the operation's changes (R2). -/
def ledgerChans (p : Params) (old : Six ChannelRec) (f : Channel → ChannelRec → ChannelRec) : Six ChannelRec :=
  Six.tab fun c =>
    if (old.get c).moved (f c (old.get c)) then (f c (old.get c)).recompute p else f c (old.get c)

/-- INK_STARVED and DEFICIT as level states become so (R3). -/
def State.raiseLevels (s : State) (old new : Six ChannelRec) : State :=
  (s.raiseIf (anyBecame .starved old new) .inkStarved).raiseIf (anyBecame .deficit old new) .deficit

def State.setChan (s : State) (x : Six ChannelRec) : State := s.setLedger { s.ledger with chan := x }

/-- One operation of the ledger on the channel records, with the recomputation, the events and the pass it starts. -/
def State.ledgerOp (s : State) (f : Channel → ChannelRec → ChannelRec) : State :=
  let new := ledgerChans s.params s.ledger.chan f
  ((s.setChan new).raiseLevels s.ledger.chan new).when (anyMoved s.ledger.chan new) State.inkMoved

/-- Every level state is recomputed, as at a change of F or S (R2, R183). -/
def State.recomputeLevels (s : State) : State :=
  let new := s.ledger.chan.map (ChannelRec.recompute s.params)
  (s.setChan new).raiseLevels s.ledger.chan new

/-! ### Conversion and needs (2.1, 2.2) -/

/-- R19: the debit in nL and the new carry of a drop count. -/
def convert (n dv q : Nat) : Nat × Nat :=
  if n = 0 then (0, q) else ((n * dv + q) / Config.tenths, (n * dv + q) % Config.tenths)

/-- R21: the need of a channel from its predicted drops. -/
def needOf (p dv margin : Nat) : Nat := ceilDiv (ceilDiv (p * dv) Config.tenths * (100 + margin)) 100

/-- The count a list of channel and drop pairs gives a channel, if it names it. -/
def pairCount (pairs : List (Nat × Nat)) (c : Channel) : Option Nat :=
  (pairs.find? fun x => x.1 == c.toNat).map Prod.snd

/-- The counts of a report or an ask, 0 for a channel it leaves out. -/
def pairCounts (pairs : List (Nat × Nat)) : Six Nat := Six.tab fun c => (pairCount pairs c).getD 0

/-- R21: the needs of an ask. -/
def State.needs (s : State) (predicted : Six Nat) : Six Nat :=
  Six.tab fun c => needOf (predicted.get c) (s.ledger.chan.get c).dv s.params.margin

/-! ### Swath reservation (2.3) -/

/-- The channel fails R23 for this ticket. -/
def State.swathFails (s : State) (t : Ticket) (c : Channel) : Bool :=
  let r := s.ledger.chan.get c
  t.uses c &&
    !(r.levelState == .normal && decide (r.rs + t.need.get c + s.params.floor + s.params.reserve ≤ r.volume))

/-- The needs of the tickets that hold reservations, summed. -/
def heldNeeds (ts : List Ticket) (c : Channel) : Nat :=
  ((ts.filter fun t => t.state.reserves).map fun t => t.need.get c).sum

/-- R23: the ticket's needs are added to Rs. -/
def State.reserveInk (s : State) (t : Ticket) : State :=
  s.ledgerOp fun c r => { r with rs := r.rs + t.need.get c }

/-- R25: the reservations of tickets that leave unsettled are released without debit. -/
def State.releaseInk (s : State) (ts : List Ticket) : State :=
  s.ledgerOp fun c r => { r with rs := r.rs - heldNeeds ts c }

/-- R8. -/
def State.setDemand (s : State) (c : Channel) : State :=
  s.setManifold { s.manifold with
    session := s.manifold.session.set c { s.manifold.session.get c with demand := true } }

def State.setDemands (s : State) (cs : List Channel) : State := cs.foldl State.setDemand s

/-! ### Settlement of swaths (2.5) -/

/-- The sheet's ink-used totals grow by the given amounts (R37). -/
def Sheet.useInk (h : Sheet) (d : Six Nat) : Sheet :=
  { h with ink := Six.tab fun c => addCapped (h.ink.get c) (d.get c) }

/-- R30: the debits of a report, converted with each named channel's carry. -/
def State.debits (s : State) (pairs : List (Nat × Nat)) : Six (Nat × Nat) :=
  Six.tab fun c =>
    let r := s.ledger.chan.get c
    match pairCount pairs c with
    | some n => convert n r.dv r.carry
    | none => (0, r.carry)

/-- R30: the ledger's part of a swath's settlement. -/
def State.settleSwath (s : State) (t : Ticket) (pairs : List (Nat × Nat)) : State :=
  let d := s.debits pairs
  (s.ledgerOp fun c r =>
      { r with rs := r.rs - t.need.get c, level := r.level - (d.get c).1, carry := (d.get c).2 }).modSheet t.sheet
    (fun h => h.useInk (d.map Prod.fst))

/-- The full need of a ticket is debited and released (R32, R38). -/
def State.debitNeed (s : State) (t : Ticket) : State :=
  s.ledgerOp fun c r => { r with rs := r.rs - t.need.get c, level := r.level - t.need.get c }

/-- R32: a lost ticket. -/
def State.settleLost (s : State) (t : Ticket) : State :=
  (s.debitNeed t).modSheet t.sheet fun h => h.useInk t.need

/-! ### Waste (2.6, 3.5) -/

/-- The coverage of the cartridge: 0 unless READY or FULL (R35). -/
def WasteRec.coverage (w : WasteRec) : Nat :=
  match w.state with
  | .ready | .full => w.marks * w.wcap / Config.marksFull
  | .absent | .identifying | .refused | .faulted => 0

/-- READY or FULL. -/
def WasteRec.identified (w : WasteRec) : Bool :=
  match w.state with
  | .ready | .full => true
  | .absent | .identifying | .refused | .faulted => false

def State.setWaste (s : State) (w : WasteRec) : State := s.setSupply { s.supply with waste := w }

/-- R35: the uncovered flag, and the MARK request it makes while set. DEDUCED (notes/assumptions/56.md): with 128 marks confirmed,
too, the flag clears where enough Wr is released, though R35's last sentence has it stay set until the cartridge is changed. -/
def State.refreshUncovered (s : State) : State :=
  let w := s.supply.waste
  let total := s.ledger.wa + s.ledger.wr
  let now := decide (w.coverage < total)
  let s1 := s.setLedger { s.ledger with uncovered := now }
  let s2 := s1.when (now && w.identified && decide (w.marks < Config.marksFull)) fun t =>
    t.requestMark .waste (min Config.marksFull (ceilDiv (total * Config.marksFull) w.wcap))
  s2.when (s.ledger.uncovered && !now) State.wasteMoved

/-- R50: FULL, and the near-full flag. -/
def State.refreshFull (s : State) : State :=
  let w := s.supply.waste
  let full := w.state == .ready && decide (w.wcap ≤ s.ledger.wa)
  let w1 := if full then { w with state := WasteState.full } else w
  let near := w1.identified && decide (s.params.nearFull * w1.wcap ≤ s.ledger.wa * 100)
  let s1 := (s.setWaste { w1 with nearFull := near }).raiseIf full .wasteFull
  (s1.raiseIf (near && !w.nearFull) .wasteNearFull).when full State.wasteMoved

/-- What follows a change of Wa. -/
def State.refreshWaste (s : State) : State := s.refreshFull.refreshUncovered

def State.setWa (s : State) (n : Nat) : State := s.setLedger { s.ledger with wa := n }

/-! ### Service reservation (2.4) -/

/-- The heads a service item works on. -/
def Work.heads : Work → Three Bool
  | .spit m => m
  | .clean h _ _ _ _ => onlyHead h
  | .check m => m

/-- The level of a cleaning; 0 for the other kinds. -/
def Work.level : Work → Nat
  | .spit _ => 0
  | .clean _ l _ _ _ => l
  | .check _ => 0

/-- A CHECK reserves nothing (R26). -/
def Work.reservesInk : Work → Bool
  | .spit _ => true
  | .clean _ _ _ _ _ => true
  | .check _ => false

/-- R26: the channels an item reserves on. -/
def Work.onChannel (w : Work) (c : Channel) : Bool := w.reservesInk && maskHas w.heads c

/-- R26: ceil(512 × d × dv / 10,000). -/
def spitPartOf (drops dv : Nat) : Nat := ceilDiv (Config.nozzles * drops * dv) Config.tenths

def State.spitParts (s : State) (w : Work) : Six Nat :=
  Six.tab fun c => if w.onChannel c then spitPartOf s.params.spitDrops (s.ledger.chan.get c).dv else 0

def suctionParts (w : Work) : Six Nat :=
  Six.tab fun c => if w.onChannel c then Config.suctionVolume w.level else 0

/-- The ink need of an item on a channel (R26). -/
def State.serviceNeed (s : State) (w : Work) (c : Channel) : Nat :=
  (s.spitParts w).get c + (suctionParts w).get c

/-- wneed (R26). -/
def State.wasteNeed (s : State) (w : Work) : Nat := (Channel.all.map (s.serviceNeed w)).sum

/-- R27: the channel fails the service ink test. -/
def State.serviceFails (s : State) (w : Work) (c : Channel) : Bool :=
  let r := s.ledger.chan.get c
  w.onChannel c &&
    !(r.established && decide (r.rs + r.rv + s.serviceNeed w c + s.params.floor ≤ r.volume))

/-- R28: the waste test. -/
def State.wasteFits (s : State) (w : Work) : Bool :=
  let total := s.ledger.wa + s.ledger.wr + s.wasteNeed w
  s.wasteNeed w == 0 ||
    (s.supply.waste.state == .ready && !s.ledger.uncovered && decide (total ≤ s.supply.waste.coverage) &&
      decide (total ≤ s.supply.waste.wcap))

/-- R28: more coverage is asked for where only coverage is short. -/
def State.askCoverage (s : State) (w : Work) : State :=
  let total := s.ledger.wa + s.ledger.wr + s.wasteNeed w
  s.when (s.wasteNeed w != 0 && s.supply.waste.state == .ready && !s.ledger.uncovered &&
      decide (s.supply.waste.coverage < total) && decide (total ≤ s.supply.waste.wcap)) fun t =>
    t.requestMark .waste (ceilDiv (total * Config.marksFull) s.supply.waste.wcap)

/-- R27: the item's needs are reserved in parts. No part stands then, since no item is active (R29). -/
def State.reserveService (s : State) (w : Work) : State :=
  let sp := s.spitParts w
  let su := suctionParts w
  let s1 := s.ledgerOp fun c r => { r with rv := r.rv + sp.get c + su.get c }
  (s1.setLedger { s1.ledger with
    wr := s1.ledger.wr + s.wasteNeed w
    spitPart := Six.tab fun c => s.ledger.spitPart.get c + sp.get c
    suctionPart := Six.tab fun c => s.ledger.suctionPart.get c + su.get c }).refreshUncovered

/-- R29: the parts not yet settled are released without debit. DEDUCED (notes/assumptions/35.md): the recomputation of R35
that follows clears an uncovered flag that a removal with Wr above 0 has set, the cartridge still being ABSENT (R36). -/
def State.releaseParts (s : State) : State :=
  let sp := s.ledger.spitPart
  let su := s.ledger.suctionPart
  let vol := (Channel.all.map fun c => sp.get c + su.get c).sum
  let s1 := s.ledgerOp fun c r => { r with rv := r.rv - sp.get c - su.get c }
  (s1.setLedger { s1.ledger with
    wr := s1.ledger.wr - vol, spitPart := Six.const 0, suctionPart := Six.const 0 }).refreshUncovered

/-- R33: a spit's report is settled on the channels of the order's heads. -/
def State.settleSpit (s : State) (mask : Three Bool) (pairs : List (Nat × Nat)) : State :=
  let sp := s.ledger.spitPart
  let d := s.debits pairs
  let on (x : Six Nat) : Nat := (Channel.all.map fun c => if maskHas mask c then x.get c else 0).sum
  let s1 := s.ledgerOp fun c r =>
    if maskHas mask c then
      { r with rv := r.rv - sp.get c, level := r.level - (d.get c).1, carry := (d.get c).2 }
    else r
  (s1.setLedger { s1.ledger with
    wr := s1.ledger.wr - on sp
    wa := s1.ledger.wa + on (d.map Prod.fst)
    spitPart := Six.tab fun c => if maskHas mask c then 0 else sp.get c }).refreshWaste

/-- R34: a suction stage of a head is debited. With `release` its parts are released; a stage whose station faulted has
none left to release (R130). -/
def State.settleSuction (s : State) (h : Head) (level : Nat) (release : Bool) : State :=
  let vol := Config.suctionVolume level
  let su : Six Nat := Six.tab fun c => if release && c.head == h then s.ledger.suctionPart.get c else 0
  let s1 := s.ledgerOp fun c r =>
    if c.head == h then { r with rv := r.rv - su.get c, level := r.level - vol } else r
  (s1.setLedger { s1.ledger with
    wr := s1.ledger.wr - (su.toList).sum
    wa := s1.ledger.wa + 2 * vol
    suctionPart := Six.tab fun c => s1.ledger.suctionPart.get c - su.get c }).refreshWaste

/-! ### Levels set from outside the arithmetic -/

/-- L is set and the level is established (R4, R7, R14). -/
def State.setLevel (s : State) (c : Channel) (n : Nat) : State :=
  s.ledgerOp fun c' r => if c' == c then { r with level := n, established := true } else r

/-- R14: an untripped stroke credits an established level. -/
def State.creditStroke (s : State) (c : Channel) (v : Nat) : State :=
  s.ledgerOp fun c' r =>
    if c' == c && r.established then { r with level := min Config.cap (r.level + v) } else r

end Sys2Proof.Machine
end

