-- ==== Sys2Proof/Machine/Slots.lean ====
section
/-!
DEFINITION. Tank slots and the waste cartridge (03_tank_slots, 3.1 to 3.5 and 3.8): supply states, placement, promotion,
identification, the slot map, faults of a position.
-/

namespace Sys2Proof.Machine

/-! ### Slots and channels -/

/-- The slots mapped to a channel, lower number first. -/
def Supply.slotsOf (u : Supply) (c : Channel) : List SlotId := SlotId.all.filter fun k => u.map.get k == some c

/-- The ACTIVE slot of a channel. -/
def Supply.activeSlot (u : Supply) (c : Channel) : Option SlotId :=
  (u.slotsOf c).find? fun k => (u.slot.get k).state == .active

/-- R5. -/
def Supply.supplyState (u : Supply) (c : Channel) : SupplyState :=
  if (u.slotsOf c).isEmpty then .unmapped
  else if (u.activeSlot c).isSome then .supplied
  else .reservoirOnly

def SlotState.usable : SlotState → Bool
  | .active | .standby | .manual => true
  | .empty | .identifying | .spent | .refused | .faulted | .unidentified => false

/-- The remaining volume of a slot. -/
def SlotRec.remaining (r : SlotRec) : Nat := r.capacity - r.drawn

/-- R58: the low flag. -/
def SlotRec.isLow (r : SlotRec) (inkLow : Nat) : Bool :=
  r.state.usable && decide (0 < inkLow) && decide (r.remaining * 100 ≤ inkLow * r.capacity)

/-- The states whose taking on raises TANK_CHANGE (R59). -/
def SlotState.announced : SlotState → Bool
  | .active | .standby | .manual | .unidentified | .spent | .empty => true
  | .identifying | .refused | .faulted => false

/-- A slot takes a new record: its low flag is recomputed (R58) and the events of R58 and R59 are raised. -/
def State.putSlot (s : State) (k : SlotId) (r : SlotRec) : State :=
  let old := s.supply.slot.get k
  let r' : SlotRec := { r with low := r.isLow s.params.inkLow }
  let s1 := s.setSupply { s.supply with slot := s.supply.slot.set k r' }
  ((s1.raiseIf (r'.low && !old.low) .inkLow).raiseIf (r'.state != old.state && r'.state.announced) .tankChange).raiseIf
    (r'.state != old.state && r'.state == .refused) .tankRefused

/-- The state in which a usable slot waits behind its ACTIVE partner (R44). -/
def SlotRec.waiting (r : SlotRec) : SlotState := if r.manual then .manual else .standby

/-- R45: where the channel has no ACTIVE slot, a partner that is STANDBY or MANUAL becomes ACTIVE. -/
def State.promote (s : State) (c : Channel) : State :=
  match s.supply.activeSlot c with
  | some _ => s
  | none =>
    match (s.supply.slotsOf c).find? fun k =>
        (s.supply.slot.get k).state == .standby || (s.supply.slot.get k).state == .manual with
    | none => s
    | some k => s.putSlot k { s.supply.slot.get k with state := .active }

/-- R45 for the channel a slot is mapped to. -/
def State.promoteFor (s : State) (k : SlotId) : State :=
  match s.supply.map.get k with
  | none => s
  | some c => s.promote c

/-- R44: a slot of channel c becomes usable with the given record. -/
def State.placeSlot (s : State) (k : SlotId) (c : Channel) (r : SlotRec) : State :=
  if s.inStart then
    match (s.supply.slotsOf c).find? fun j => j != k && (s.supply.slot.get j).state.usable with
    | none => s.putSlot k { r with state := .active }
    | some j =>
      let q := s.supply.slot.get j
      if r.remaining < q.remaining ∨ (r.remaining = q.remaining ∧ k.toNat < j.toNat) then
        (s.putSlot k { r with state := .active }).putSlot j { q with state := q.waiting }
      else
        (s.putSlot k { r with state := r.waiting }).putSlot j { q with state := .active }
  else
    match s.supply.activeSlot c with
    | some _ => s.putSlot k { r with state := r.waiting }
    | none => s.putSlot k { r with state := .active }

/-! ### Identification (3.3, 3.5) -/

/-- The identity record is all 00h or all FFh. -/
def blankIdentity (i : Identity) : Bool :=
  i == ⟨0, 0, 0, 0, 0⟩ || i == ⟨BitVec.allOnes 8, BitVec.allOnes 8, BitVec.allOnes 8, BitVec.allOnes 32, BitVec.allOnes 40⟩

/-- The number k of set marks, where the set marks are marks 0..k−1. -/
def markCount (m : BitVec 128) : Option Nat :=
  let k := Nat.log2 (m.toNat + 1)
  if m.toNat + 1 = 2 ^ k then some k else none

/-- A slot record REFUSED for a reason, with the identity read. DESIGN CHOICE (notes/assumptions/12.md): the capacity
field holds the code's capacity where the code is a tank's. -/
def SlotRec.refuse (i : Identity) (why : RefusalReason) : SlotRec :=
  { SlotRec.cleared with
    state := .refused
    identity := some i
    capacity := (Config.tankCapacity i.capCode.toNat).getD 0
    reason := some why }

/-- R43: the tests on a tank's chip, in order; `none` for the record of a usable tank, which R44 places. -/
def State.applyTank (s : State) (k : SlotId) (i : Identity) (m : BitVec 128) : State :=
  if blankIdentity i then s.putSlot k { SlotRec.cleared with state := .unidentified }
  else
    match Config.tankCapacity i.capCode.toNat, markCount m with
    | some cap, some n =>
      if i.kind != 1 then s.putSlot k (SlotRec.refuse i .badChip)
      else
        match s.supply.map.get k with
        | none => s.putSlot k (SlotRec.refuse i .unmapped)
        | some c =>
          if i.colour.toNat != c.colour then s.putSlot k (SlotRec.refuse i .wrongInk)
          else
            let r : SlotRec :=
              { SlotRec.cleared with
                identity := some i, capacity := cap, marks := n, drawn := n * cap / Config.marksFull }
            if n = Config.marksFull then s.putSlot k { r with state := .spent }
            else s.placeSlot k c r
    | _, _ => s.putSlot k (SlotRec.refuse i .badChip)

/-- R49: the tests on the waste cartridge's chip. -/
def State.applyWaste (s : State) (i : Identity) (m : BitVec 128) : State :=
  match Config.wasteCapacity i.capCode.toNat, markCount m with
  | some cap, some n =>
    if blankIdentity i || i.kind != 2 then
      (((s.setWaste { WasteRec.cleared with state := .refused }).raise .tankRefused).refreshUncovered).wasteMoved
    else
      ((((s.setWaste { WasteRec.cleared with state := .ready, wcap := cap, marks := n }).raise .tankChange).setWa
        (n * cap / Config.marksFull)).refreshWaste).wasteMoved
  | _, _ =>
    (((s.setWaste { WasteRec.cleared with state := .refused }).raise .tankRefused).refreshUncovered).wasteMoved

/-- The identity and the map an IDENTIFY job has read are applied (R54). -/
def State.applyIdentity (s : State) (pos : LinkPos) (i : Identity) (m : BitVec 128) : State :=
  match pos with
  | .slot k => s.applyTank k i m
  | .waste => s.applyWaste i m

/-! ### Arrivals and removals (R41, R42, R49) -/

def State.tankArrives (s : State) (k : SlotId) : State :=
  (s.putSlot k { SlotRec.cleared with state := .identifying }).requestIdentify (.slot k)

/-- The running stroke's source record no longer stands (R42). -/
def Pump.forget (p : Pump) (k : SlotId) : Pump :=
  match p with
  | .stroke r => .stroke (if r.source == k then { r with stands := false } else r)
  | .free => .free
  | .suction r => .suction r

def State.forgetSource (s : State) (k : SlotId) : State :=
  s.setManifold { s.manifold with pump := s.manifold.pump.forget k }

def State.dropJob (s : State) (pos : LinkPos) : State := s.setLink (s.supply.link.drop pos)

def State.tankLeaves (s : State) (k : SlotId) : State :=
  (((s.putSlot k SlotRec.cleared).dropJob (.slot k)).forgetSource k).promoteFor k

def State.wasteArrives (s : State) : State :=
  (((s.setWaste { WasteRec.cleared with state := .identifying }).requestIdentify .waste).refreshUncovered).wasteMoved

def State.wasteLeaves (s : State) : State :=
  (((((s.setWaste WasteRec.cleared).dropJob .waste).raiseIf (s.supply.waste.state != .absent) .tankChange).setWa
    0).refreshUncovered).wasteMoved

/-! ### Faults and draws (R56, R47) -/

/-- R56: a tank slot becomes FAULTED and keeps identity, marks and drawn; the cartridge becomes FAULTED. DEDUCED
(notes/assumptions/46.md): a FULL one too, whose MARK job faults, where R50 has it stay FULL until it is removed. -/
def State.faultPosition (s : State) (pos : LinkPos) : State :=
  match pos with
  | .slot k =>
    ((s.raise .linkFault).putSlot k { s.supply.slot.get k with state := .faulted, reason := none }).promoteFor k
  | .waste =>
    (((s.raise .linkFault).setWaste { s.supply.waste with state := .faulted, nearFull := false }).refreshUncovered).wasteMoved

/-- R47: the full stroke volume is added to the slot's drawn, and a slot drawn to its capacity becomes SPENT. -/
def State.addDrawn (s : State) (k : SlotId) (v : Nat) : State :=
  let r := { s.supply.slot.get k with drawn := (s.supply.slot.get k).drawn + v }
  if r.capacity ≤ r.drawn ∧ r.state ≠ .faulted then
    ((s.putSlot k r).putSlot k { r with state := .spent }).promoteFor k
  else s.putSlot k r

/-- Every low flag is recomputed (R58, R183). -/
def State.recomputeLow (s : State) : State := SlotId.all.foldl (fun t k => t.putSlot k (t.supply.slot.get k)) s

/-! ### The slot map (3.4) -/

/-- A map entry code: 0..5 for a channel, 0FFh for NONE (10.7). -/
def mapEntry? (n : Nat) : Option (Option Channel) :=
  if n = 255 then some none else (Channel.ofNat? n).map some

/-- A map of eight entry codes, where every code is an entry (R48). -/
def mapOf? (e : Eight Nat) : Option (Eight (Option Channel)) :=
  match mapEntry? e.s0, mapEntry? e.s1, mapEntry? e.s2, mapEntry? e.s3, mapEntry? e.s4, mapEntry? e.s5, mapEntry? e.s6,
    mapEntry? e.s7 with
  | some a, some b, some c, some d, some e, some f, some g, some h => some ⟨a, b, c, d, e, f, g, h⟩
  | _, _, _, _, _, _, _, _ => none

/-- No channel appears more than twice (R39). -/
def mapLegal (m : Eight (Option Channel)) : Bool :=
  Channel.all.all fun c => decide ((SlotId.all.filter fun k => m.get k == some c).length ≤ 2)

/-- R48, R57: the job of a re-identified slot. A queued job becomes an IDENTIFY job in its place; a running one ends with
its transaction, and the IDENTIFY job is appended then. DEDUCED (notes/assumptions/17.md). -/
def Link.reidentify (l : Link) (k : SlotId) : Link :=
  match l.jobAt (.slot k) with
  | none => l.requestIdentify (.slot k)
  | some _ =>
    match l.run with
    | some r =>
      if l.jobs.head?.any fun j => j.pos == .slot k then { l with run := some { r with ending := true } }
      else { l with jobs := l.jobs.map fun j => if j.pos == .slot k then LinkJob.identify (.slot k) else j }
    | none => { l with jobs := l.jobs.map fun j => if j.pos == .slot k then LinkJob.identify (.slot k) else j }

/-- R48: one slot receives its new entry; an occupied one is identified afresh, a FAULTED one too: DEDUCED
(notes/assumptions/36.md), where R56 has it stay FAULTED until its tank is removed. The record a stroke left running by a soft
reset started from no longer stands then (R42, R47). -/
def State.remapSlot (s : State) (k : SlotId) (entry : Option Channel) : State :=
  if s.supply.map.get k == entry then s
  else
    let s1 := s.setSupply { s.supply with map := s.supply.map.set k entry }
    s1.when ((s.supply.slot.get k).state != .empty) fun t =>
      ((t.putSlot k { SlotRec.cleared with state := .identifying }).setLink (t.supply.link.reidentify k)).forgetSource k

/-- R48: the map is taken; the partners of slots that left ACTIVE take over (R45). DESIGN CHOICE (notes/assumptions/52.md):
slot 0 is changed first, up to slot 7, and so the IDENTIFY jobs of changed slots that have no job stand in that order. -/
def State.takeMap (s : State) (m : Eight (Option Channel)) : State :=
  Channel.all.foldl State.promote (SlotId.all.foldl (fun t k => t.remapSlot k (m.get k)) s)

/-- R46: an UNIDENTIFIED slot becomes a manual tank. -/
def State.acceptTank (s : State) (k : SlotId) (c : Channel) (ml : Nat) : State :=
  s.placeSlot k c { SlotRec.cleared with capacity := ml * 1000000, manual := true }

end Sys2Proof.Machine
end

