-- ==== Sys2Proof/Machine/Manifold.lean ====
section
/-!
DEFINITION. The supply manifold (01_ink_channels, 1.3 and 1.4): refill sessions, the pump and its arbiter, strokes and
suction stages.
-/

namespace Sys2Proof.Machine

/-! ### Sessions -/

def State.session (s : State) (c : Channel) : Session := s.manifold.session.get c

def State.setSession (s : State) (c : Channel) (x : Session) : State :=
  s.setManifold { s.manifold with session := s.manifold.session.set c x }

/-- The session takes a state other than WAIT_MARK. -/
def State.putSession (s : State) (c : Channel) (x : SessionState) : State :=
  s.setSession c { s.session c with state := x, waitSlot := none, target := 0 }

def State.clearDemand (s : State) (c : Channel) : State := s.setSession c { s.session c with demand := false }

/-- R10: the stroke volume from a slot. -/
def State.strokeVolume (s : State) (c : Channel) (k : SlotId) : Nat :=
  min Config.strokeMax (min (Config.cap - (s.ledger.chan.get c).volume) (s.supply.slot.get k).remaining)

/-- R10: the target marks of a stroke of volume v from a slot. -/
def State.targetMarks (s : State) (k : SlotId) (v : Nat) : Nat :=
  let r := s.supply.slot.get k
  ceilDiv ((r.drawn + v) * Config.marksFull) r.capacity

/-- The pump holds a suction or a suction request is pending (R10, R15). -/
def Manifold.suctionClaims (m : Manifold) : Bool :=
  match m.pump with
  | .suction _ => true
  | .free => m.request.isSome
  | .stroke _ => m.request.isSome

/-- R10: a covered session enters WANT, or SUSPENDED while suction holds or awaits the pump. -/
def State.enterWant (s : State) (c : Channel) : State :=
  s.putSession c (if s.manifold.suctionClaims then .suspended else .want)

/-- R10: the stroke test. -/
def State.strokeTest (s : State) (c : Channel) : State :=
  match s.supply.activeSlot c with
  | none => s.putSession c .idle
  | some k =>
    let r := s.supply.slot.get k
    let v := s.strokeVolume c k
    if v = 0 then s.putSession c .idle
    else if r.manual then s.enterWant c
    else if r.marks < s.targetMarks k v then
      (s.setSession c { s.session c with
        state := .waitMark, waitSlot := some k, target := s.targetMarks k v }).requestMark (.slot k) (s.targetMarks k v)
    else s.enterWant c

/-- R9: the conditions under which an IDLE session starts. -/
def State.sessionStarts (s : State) (c : Channel) : Bool :=
  let r := s.ledger.chan.get c
  s.inRun && s.supply.supplyState c == .supplied &&
    (!r.established || decide (r.level < s.params.refillLow) || (s.session c).demand)

/-- What the state of a session and of its slots and marks brings about by itself (R9, R10, R11, R17). -/
def State.sessionReacts (s : State) (c : Channel) : Option State :=
  match (s.session c).state with
  | .idle => if s.sessionStarts c then some ((s.clearDemand c).strokeTest c) else none
  | .want => if (s.supply.activeSlot c).isNone then some (s.putSession c .idle) else none
  | .suspended =>
    if (s.supply.activeSlot c).isNone then some (s.putSession c .idle)
    else if s.manifold.suctionClaims then none
    else some (s.strokeTest c)
  | .waitMark =>
    match s.supply.activeSlot c with
    | none => some (s.putSession c .idle)
    | some k =>
      if (s.session c).waitSlot != some k || decide ((s.session c).target ≤ (s.supply.slot.get k).marks) then
        some (s.strokeTest c)
      else none
  | .stroke => none

/-! ### The pump -/

def State.setPump (s : State) (p : Pump) : State := s.setManifold { s.manifold with pump := p }

/-- R13: a stroke of a covered session starts. -/
def State.startStroke (s : State) (c : Channel) : State :=
  match s.supply.activeSlot c with
  | none => s.putSession c .idle
  | some k =>
    (s.putSession c .stroke).setManifold { (s.putSession c .stroke).manifold with
      pump := .stroke { channel := c, volume := s.strokeVolume c k, source := k, stands := true, left := Config.strokeMs }
      lastServed := c }

/-- R7: a channel selected with its probe wet is full. -/
def State.fillFound (s : State) (c : Channel) : State :=
  ((s.setLevel c Config.cap).putSession c .idle).clearDemand c

/-- R12: what the arbiter does with a candidate. -/
def State.serveCandidate (s : State) (c : Channel) : State :=
  if s.pins.probeWet.get c then s.fillFound c
  else
    match ((s.strokeTest c).session c).state with
    | .want => (s.strokeTest c).startStroke c
    | .idle | .waitMark | .stroke | .suspended => s.strokeTest c

/-- The six channels in the order the arbiter takes them, after the last-served one (R12). -/
def roundRobin (last : Channel) : List Channel :=
  let c1 := last.next
  let c2 := c1.next
  let c3 := c2.next
  let c4 := c3.next
  let c5 := c4.next
  [c1, c2, c3, c4, c5, last]

/-- R15: the suction stage takes the pump, and the station's suction becomes RUNNING (R124). -/
def State.startSuction (s : State) (q : SuctionReq) : State :=
  let s1 := s.setManifold { s.manifold with
    pump := .suction { head := q.head, level := q.level, left := Config.suctionMs q.level, orphan := false }
    request := none }
  s1.setStation { s1.station with suction := some { head := q.head, level := q.level, running := true } }

/-- R12: one candidate of a selection, while the pump is FREE. -/
def State.pumpArbiter (s : State) : Option State :=
  match s.manifold.pump with
  | .stroke _ => none
  | .suction _ => none
  | .free =>
    match s.manifold.request with
    | some q => some (s.startSuction q)
    | none => ((roundRobin s.manifold.lastServed).find? fun c => (s.session c).state == .want).map s.serveCandidate

/-- R15: a suction request arrives at the entry; WANT sessions become SUSPENDED. -/
def State.requestSuction (s : State) (h : Head) (level : Nat) : State :=
  let s1 := s.setManifold { s.manifold with request := some { head := h, level := level } }
  Channel.all.foldl (fun t c => t.when ((t.session c).state == .want) fun u => u.putSession c .suspended) s1

/-- R16: a session whose stroke has completed. -/
def State.afterStroke (s : State) (c : Channel) (tripped : Bool) : State :=
  match (s.session c).state with
  | .stroke =>
    let r := s.ledger.chan.get c
    if tripped || (r.established && decide (s.params.refillHigh ≤ r.level)) || (s.supply.activeSlot c).isNone then
      s.putSession c .idle
    else s.strokeTest c
  | .idle | .want | .waitMark | .suspended => s

/-- R14: a stroke completes. Its session is decided by R16 once the reservations have been re-attempted
(Settle.lean: State.strokeStep). -/
def State.completeStroke (s : State) (r : StrokeRun) (tripped : Bool) : State :=
  let s1 := (s.setPump .free).when r.stands fun t => t.addDrawn r.source r.volume
  (if tripped then s1.setLevel r.channel Config.cap else s1.creditStroke r.channel r.volume).dueStroke r.channel tripped

end Sys2Proof.Machine
end

