-- ==== Sys2Proof/Machine/Link.lean ====
section
/-!
DEFINITION. The supply link (3.6, 3.7): the chips' answers (R51), the running job's transactions and timeouts (R52, R54),
the attempts of a MARK job (R55), and the emptying of the queue after a soft reset (R60).
-/

namespace Sys2Proof.Machine

/-! ### Chips (R51) -/

/-- The lowest clear mark is set. -/
def setLowestClear (m : BitVec 128) : BitVec 128 := m ||| (m + 1)

/-- R51: what a chip does and answers; none where it gives no answer. -/
def chipRespond (c : Chip) (cmd : ChipCommand) : Chip × Option LinkAnswer :=
  if !c.answering then (c, none)
  else if 0 < c.busyLeft then
    match cmd with
    | .chipState => (c, some (.state true c.latched))
    | .idRead | .mapRead | .arm | .mark => (c, none)
  else
    match cmd with
    | .idRead => (c, some (.identity c.identity))
    | .mapRead => (c, some (.map c.marks))
    | .arm => ({ c with latched := true }, some .ack)
    | .mark =>
      if c.latched && c.marks != BitVec.allOnes 128 then
        ({ c with marks := setLowestClear c.marks, busyLeft := Config.writeMs }, some .ack)
      else (c, some .ack)
    | .chipState => (c, some (.state false c.latched))

/-- One ms of a chip's write cycle, at whose end the latch clears (R51). -/
def chipTick (c : Chip) : Chip :=
  if c.busyLeft = 0 then c
  else { c with busyLeft := c.busyLeft - 1, latched := c.latched && decide (1 < c.busyLeft) }

/-- R51: a chip that has stood without power: no latch is held and no write cycle runs. -/
def powerUpChip (c : Chip) : Chip := { c with latched := false, busyLeft := 0 }

def Chips.at (x : Chips) : LinkPos → Option Chip
  | .slot k => x.slot.get k
  | .waste => x.waste

def Chips.put (x : Chips) (pos : LinkPos) (c : Option Chip) : Chips :=
  match pos with
  | .slot k => { x with slot := x.slot.set k c }
  | .waste => { x with waste := c }

/-- The chips and the answer the hub reads after a transaction of a command with a position: clean, as the chip answers;
disturbed, as the delivery says. DESIGN CHOICE (notes/assumptions/20.md). -/
def Chips.transact (x : Chips) (pos : LinkPos) (cmd : ChipCommand) (d : LinkDelivery) : Chips × Option LinkAnswer :=
  match d, x.at pos with
  | .clean, none => (x, none)
  | .clean, some c => (x.put pos (some (chipRespond c cmd).1), (chipRespond c cmd).2)
  | .disturbed _ read, none => (x, some read)
  | .disturbed taken read, some c =>
    (if taken then x.put pos (some (chipRespond c cmd).1) else x, some read)

/-! ### The running job -/

def LinkRun.start (cmd : ChipCommand) : LinkRun :=
  { cmd := cmd, waiting := true, left := Config.busyMs, ident := none, ending := false }

/-- The job at the head is replaced. -/
def Link.setHead (l : Link) (j : LinkJob) : Link := { l with jobs := j :: l.jobs.tail }

/-- The running job ends and leaves the queue (R53, R54). -/
def Link.endJob (l : Link) : Link := { l with jobs := l.jobs.tail, run := none }

def State.endJob (s : State) : State := s.setLink s.supply.link.endJob

/-- The confirmed marks of a position. -/
def Supply.marksAt (u : Supply) : LinkPos → Nat
  | .slot k => (u.slot.get k).marks
  | .waste => u.waste.marks

/-- R55: the confirmed marks become k; the ledger recomputes for the cartridge. -/
def State.confirmMarks (s : State) (pos : LinkPos) (k : Nat) : State :=
  match pos with
  | .slot i =>
    s.setSupply { s.supply with slot := s.supply.slot.set i { s.supply.slot.get i with marks := k } }
  | .waste => ((s.setWaste { s.supply.waste with marks := k }).refreshUncovered).wasteMoved

/-- R55: what the map read back decides about the attempt. -/
def State.judgeAttempt (s : State) (j : LinkJob) (m : BitVec 128) : State :=
  let idle : State := s.setLink { s.supply.link with run := none }
  match markCount m with
  | none => s.endJob.faultPosition j.pos
  | some k =>
    if k < s.supply.marksAt j.pos then s.endJob.faultPosition j.pos
    else if s.supply.marksAt j.pos < k then
      ((idle.setLink (idle.supply.link.setHead { j with attempts := 0 })).confirmMarks j.pos k)
    else if j.attempts + 1 = 3 then s.endJob.faultPosition j.pos
    else idle.setLink (idle.supply.link.setHead { j with attempts := j.attempts + 1 })

/-- The job goes on to a next command, waiting for the chip to be ready (R52). -/
def State.nextCommand (s : State) (r : LinkRun) (cmd : ChipCommand) : State :=
  s.setLink { s.supply.link with run := some { r with cmd := cmd, waiting := true, left := Config.busyMs } }

/-- The running transaction's answer is taken by the job (R52, R54, R55). An answer that is not of the command's kind is
no answer to it: DESIGN CHOICE (notes/assumptions/21.md). -/
def State.takeAnswer (s : State) (j : LinkJob) (r : LinkRun) (a : LinkAnswer) : State :=
  if r.waiting then
    match a with
    | .state false _ => s.setLink { s.supply.link with run := some { r with waiting := false, left := Config.answerMs } }
    | .state true _ | .identity _ | .map _ | .ack => s
  else
    match r.cmd, a with
    | .idRead, .identity i => s.nextCommand { r with ident := some i } .mapRead
    | .arm, .ack => s.nextCommand r .mark
    | .mark, .ack => s.nextCommand r .mapRead
    | .mapRead, .map m =>
      match j.kind, r.ident with
      | .identify, some i => s.endJob.applyIdentity j.pos i m
      | .identify, none => s.endJob
      | .mark, _ => s.judgeAttempt j m
    | _, _ => s

/-- The answer is of the kind the running transaction asks for. -/
def LinkRun.answeredBy (r : LinkRun) (a : LinkAnswer) : Bool :=
  if r.waiting then
    match a with
    | .state _ _ => true
    | .identity _ | .map _ | .ack => false
  else
    match r.cmd, a with
    | .idRead, .identity _ => true
    | .arm, .ack => true
    | .mark, .ack => true
    | .mapRead, .map _ => true
    | .chipState, .state _ _ => true
    | _, _ => false

/-- R48, R57: a job whose slot's map entry changed ends with its transaction; the slot's IDENTIFY job is appended. -/
def State.endRemapped (s : State) (j : LinkJob) : State := s.endJob.requestIdentify j.pos

/-- R60: a refill session in WAIT_MARK asks again for its MARK job, for the slot it waits for. One whose target the answer in
flight has just reached, or whose slot has left ACTIVE by it, waits no more: it makes the stroke test of R11 instead, and asks
for the job that this test needs. -/
def State.askAgain (s : State) (c : Channel) : State :=
  match (s.session c).state, (s.session c).waitSlot with
  | .waitMark, some k => (s.sessionReacts c).getD (s.requestMark (.slot k) (s.session c).target)
  | _, _ => s

/-- R60: after the soft reset's transaction the queue is emptied; each position still IDENTIFYING has an IDENTIFY job
appended in position order; sessions in WAIT_MARK and the ledger ask again; the service arbiter selects. DESIGN CHOICE
(notes/assumptions/45.md): of several sessions the lower channel asks first. -/
def State.drainLink (s : State) : State :=
  let s1 := s.setLink { jobs := [], run := none, draining := false }
  let s2 := SlotId.all.foldl
    (fun t k => t.when ((t.supply.slot.get k).state == .identifying) fun u => u.requestIdentify (.slot k)) s1
  let s3 := s2.when (s2.supply.waste.state == .identifying) fun u => u.requestIdentify .waste
  (Channel.all.foldl State.askAgain s3).refreshUncovered.dueArbiter

/-- What follows the end of a transaction: a job that ends with it, and the emptying of R60. -/
def State.afterTransaction (s : State) : State := s.when s.supply.link.draining State.drainLink

/-- LINK_ANSWER: the running transaction completes with its answer (R52); none where no transaction runs. -/
def State.linkAnswers (s : State) (d : LinkDelivery) : Option State :=
  match s.supply.link.jobs.head?, s.supply.link.run with
  | some j, some r =>
    let x := s.chips.transact j.pos (if r.waiting then .chipState else r.cmd) d
    let s1 := s.setChips x.1
    some (match x.2 with
      | none => s1
      | some a =>
        if !r.answeredBy a then s1
        else if r.ending then (s1.endRemapped j).afterTransaction
        else (s1.takeAnswer j r a).afterTransaction)
  | _, _ => none

/-- A busy timeout, of the wait or of a command with no answer (R52): the third of a job faults the position (R56). DEDUCED
(notes/assumptions/37.md): after a soft reset the transaction in flight ends by it too; it is counted, and the queue is
emptied then (R60). DEDUCED (notes/assumptions/53.md): the job of a slot that a map change re-identifies ends by it, too,
and a third one of that job faults nothing (R57). -/
def State.busyTimesOut (s : State) (j : LinkJob) (r : LinkRun) : State :=
  if r.ending then (s.endRemapped j).afterTransaction
  else if j.busy + 1 = 3 then (s.endJob.faultPosition j.pos).afterTransaction
  else
    (s.setLink { (s.supply.link.setHead { j with busy := j.busy + 1 }) with
      run := some { r with waiting := true, left := Config.busyMs } }).afterTransaction

/-- The 20 ms wait ends without a not-busy answer. -/
def State.waitTimesOut (s : State) : Option State :=
  match s.supply.link.jobs.head?, s.supply.link.run with
  | some j, some r => if r.waiting then some (s.busyTimesOut j r) else none
  | _, _ => none

/-- A command gets no answer within 1 ms. -/
def State.answerTimesOut (s : State) : Option State :=
  match s.supply.link.jobs.head?, s.supply.link.run with
  | some j, some r => if r.waiting then none else some (s.busyTimesOut j r)
  | _, _ => none

/-- R55: a MARK job writes only for an ACTIVE slot, or a cartridge that is READY or FULL. -/
def Supply.markable (u : Supply) : LinkPos → Bool
  | .slot k => (u.slot.get k).state == .active
  | .waste => u.waste.identified

/-- R54, R55: the job at the head starts its transactions or ends. -/
def State.startJob (s : State) (j : LinkJob) : State :=
  match j.kind with
  | .identify => s.setLink { s.supply.link with run := some (LinkRun.start .idRead) }
  | .mark =>
    if !s.supply.markable j.pos || decide (j.target ≤ s.supply.marksAt j.pos) then s.endJob
    else s.setLink { s.supply.link with run := some (LinkRun.start .arm) }

/-- What a link with no transaction does: the emptying that a soft reset left waiting for a transaction since abandoned
(R60), or the job at its head; nothing in SLEEP or with an empty queue. -/
def State.startLink (s : State) : Option State :=
  match s.supply.link.run with
  | some _ => none
  | none =>
    if s.supply.link.draining then some s.drainLink
    else if s.inSleep then none
    else s.supply.link.jobs.head?.map s.startJob

/-- R60: a soft reset waits for the transaction in flight before it empties the queue. DEDUCED (notes/assumptions/28.md). -/
def State.resetLink (s : State) : State :=
  match s.supply.link.run with
  | some _ => s.setLink { s.supply.link with draining := true }
  | none => s.drainLink

end Sys2Proof.Machine
end

