-- ==== Sys2Proof/Machine/Service.lean ====
section
/-!
DEFINITION. The service scheduler (08_spits): requests and merges, FAILED marks, items given back, the arbiter, and the
start and end of an item.
-/

namespace Sys2Proof.Machine

/-! ### The queue (R134 to R137) -/

def State.setQueue (s : State) (q : List Item) : State := s.setService { s.service with queue := q }

/-- Two items merge: both SPIT, both CHECK, or both CLEAN of one head (R134). -/
def Work.mergesWith : Work → Work → Bool
  | .spit _, .spit _ => true
  | .check _, .check _ => true
  | .clean h _ _ _ _, .clean h' _ _ _ _ => h == h'
  | _, _ => false

def Urgency.or : Urgency → Urgency → Urgency
  | .now, _ => .now
  | .gap, u => u

/-- A request merges into a waiting item (R135 to R137). -/
def Work.merge : Work → Work → Work
  | .spit m, .spit m' => .spit (maskOr m m')
  | .check m, .check m' => .check (maskOr m m')
  | .clean h l o u a, .clean _ l' o' u' a' =>
    .clean h (max l l') (if o' == .panel then .panel else o) (u.or u') (max a a')
  | w, _ => w

/-- A request is appended at the young end or merged into the item that waits; the arbiter selects. -/
def State.request (s : State) (w : Work) : State :=
  let q := s.service.queue
  (if q.any fun i => i.work.mergesWith w then
      s.setQueue (q.map fun i => if i.work.mergesWith w then { i with work := i.work.merge w } else i)
    else
      s.setService { s.service with
        queue := q ++ [{ born := s.service.nextBorn, work := w, skip := .none }]
        nextBorn := s.service.nextBorn + 1 }).dueArbiter

/-- R135. -/
def State.requestSpit (s : State) (h : Head) : State := s.request (.spit (onlyHead h))

/-- R136: a request other than the panel's for a FAILED head is dropped. -/
def State.requestClean (s : State) (h : Head) (level : Nat) (o : CleanOrigin) (u : Urgency) (attempt : Nat) : State :=
  if o != .panel && s.service.failed.get h then s else s.request (.clean h level o u attempt)

/-- R137. -/
def State.requestCheck (s : State) (m : Three Bool) : State := s.request (.check m)

/-- R135: a head leaves the mask of the waiting SPIT; an empty SPIT leaves the queue. -/
def Work.without (h : Head) : Work → Work
  | .spit m => .spit (m.set h false)
  | w => w

def Work.isEmptySpit : Work → Bool
  | .spit m => maskEmpty m
  | .clean _ _ _ _ _ => false
  | .check _ => false

def State.dropFromSpit (s : State) (h : Head) : State :=
  s.setQueue ((s.service.queue.map fun i => { i with work := i.work.without h }).filter fun i => !i.work.isEmptySpit)

/-- A waiting CLEAN of the head whose origin is not PANEL (R147). -/
def Work.failedBy (h : Head) : Work → Bool
  | .clean h' _ o _ _ => h' == h && o != .panel
  | .spit _ => false
  | .check _ => false

/-- R147: the FAILED mark is set. -/
def State.failHead (s : State) (h : Head) : State :=
  let s1 := s.raiseIf (!s.service.failed.get h) .headFailed
  s1.setService { s1.service with
    failed := s1.service.failed.set h true
    queue := s1.service.queue.filter fun i => !i.work.failedBy h }

def State.unfailHead (s : State) (h : Head) : State :=
  s.setService { s.service with failed := s.service.failed.set h false }

/-- An item takes the place its first queuing gives it. -/
def insertByBorn (i : Item) : List Item → List Item
  | [] => [i]
  | j :: rest => if i.born < j.born then i :: j :: rest else j :: insertByBorn i rest

/-- R148: an item returns to its former place with its fields unchanged. Where an item it merges with waits, the two merge into the older place.
DEDUCED (notes/assumptions/14.md): the returned item is the request of that merge. -/
def State.returnItem (s : State) (i : Item) : State :=
  if s.service.failed.h0 && i.work.failedBy .h0 || s.service.failed.h1 && i.work.failedBy .h1 ||
      s.service.failed.h2 && i.work.failedBy .h2 then s.dueArbiter
  else
    match s.service.queue.find? fun j => j.work.mergesWith i.work with
    | none => (s.setQueue (insertByBorn i s.service.queue)).dueArbiter
    | some j =>
      (s.setQueue (insertByBorn { born := min i.born j.born, work := j.work.merge i.work, skip := j.skip }
        (s.service.queue.filter fun x => x.born != j.born))).dueArbiter

/-- The active item is given back and its unsettled parts are released (R148, R29). -/
def State.giveBack (s : State) : State :=
  match s.service.active with
  | none => s
  | some a => ((s.releaseParts).setService { s.releaseParts.service with active := none }).returnItem a.item

/-! ### Starting an item (R139, R140, R142) -/

/-- R142: the stages of an item, in order. -/
def Work.stages : Work → List Stage
  | .spit _ => [.spit]
  | .check _ => [.check]
  | .clean _ l _ _ _ =>
    if l ≤ 1 then [.park, .wipe, .spit, .check] else [.park, .cap, .suction, .uncap, .wipe, .spit, .check]

/-- R122: cap due is cleared and a PARK order of origin STATION is withdrawn. -/
def Station.uncapDue (t : Station) : Station :=
  { t with
    capDue := false
    order := if t.order.kind == .park && t.order.origin == some .station then Order.empty else t.order }

def State.clearCapDue (s : State) : State := s.setStation s.station.uncapDue

/-- R142: an item leaves the queue and becomes active. -/
def State.startItem (s : State) (i : Item) : State :=
  (s.setService { s.service with
    queue := s.service.queue.filter fun j => j.born != i.born
    active := some { item := i, stages := i.work.stages } }).clearCapDue

def Work.isSpit : Work → Bool
  | .spit _ => true
  | .clean _ _ _ _ _ => false
  | .check _ => false

def Work.isCheck : Work → Bool
  | .check _ => true
  | .clean _ _ _ _ _ => false
  | .spit _ => false

def Work.isCleanOf (u : Urgency) : Work → Bool
  | .clean _ _ _ u' _ => u' == u
  | .spit _ => false
  | .check _ => false

/-- R139: the candidates in rank. -/
def State.candidates (s : State) : List Item :=
  let q := s.service.queue
  (q.filter fun i => i.work.isSpit) ++ (q.filter fun i => i.work.isCleanOf .now) ++
    (if s.sheetGap then (q.filter fun i => i.work.isCheck) ++ (q.filter fun i => i.work.isCleanOf .gap) else [])

/-- R140: why an item is passed over. Where both tests fail the manual names both codes (notes/assumptions/9.md). -/
def State.skipCode (s : State) (w : Work) : LastSkip :=
  match Channel.all.find? (s.serviceFails w) with
  | none => .waste
  | some c => if s.wasteFits w || Config.bothFailReadsInk (s.wasteNeed w) then .ink c else .waste

/-- R140: an item is passed over: its last skip is recorded, demands are set, coverage is asked for. -/
def State.passOver (s : State) (i : Item) : State :=
  let s1 := s.setQueue (s.service.queue.map fun j => if j.born == i.born then { j with skip := s.skipCode i.work } else j)
  (s1.setDemands (Channel.all.filter (s.serviceFails i.work))).askCoverage i.work

/-- R140: the item's reservation passes. -/
def State.serviceFits (s : State) (w : Work) : Bool :=
  !Channel.all.any (s.serviceFails w) && s.wasteFits w

/-- R140: the first candidate that passes starts. -/
def tryItems : List Item → State → State
  | [], s => s
  | i :: rest, s =>
    if !i.work.reservesInk then s.startItem i
    else if s.serviceFits i.work then (s.reserveService i.work).startItem i
    else tryItems rest (s.passOver i)

/-- R139: the arbiter may start an item. -/
def State.arbiterMay (s : State) : Bool :=
  s.inRun && s.service.active.isNone && !s.carriageHolds && s.station.state != .fault

/-- A selection of the arbiter that is due (R139). -/
def State.serviceArbiter (s : State) : Option State :=
  if s.due.arbiter then
    let s1 := s.setDue { s.due with arbiter := false }
    some (if s1.arbiterMay then tryItems s1.candidates s1 else s1)
  else none

/-! ### What else the queue decides -/

/-- R68, R141: a SPIT or a NOW cleaning waits. -/
def State.serviceStopsGrant (s : State) : Bool :=
  s.service.queue.any fun i => i.work.isSpit || i.work.isCleanOf .now

/-- R122: a SPIT or a CHECK waits. -/
def State.servicePausesCap (s : State) : Bool := s.service.queue.any fun i => i.work.isSpit || i.work.isCheck

/-- R137: a sheet removed with outcome DONE. -/
def State.countDone (s : State) : State :=
  if s.params.checkEvery = 0 then s
  else if s.params.checkEvery ≤ s.service.sheetCount + 1 then
    (s.setService { s.service with sheetCount := 0 }).requestCheck (Three.const true)
  else s.setService { s.service with sheetCount := s.service.sheetCount + 1 }

end Sys2Proof.Machine
end

