-- ==== Sys2Proof/Machine/Nozzles.lean ====
section
/-!
DEFINITION. The nozzle health tables (09_nozzle_health): missing sets, dead lists, retirement, grades, the generation.
-/

namespace Sys2Proof.Machine

/-- An index enters a list that is sorted ascending, once. -/
def insertIndex (n : Nat) : List Nat → List Nat
  | [] => [n]
  | m :: rest => if n < m then n :: m :: rest else if n = m then m :: rest else m :: insertIndex n rest

/-- The indices sorted ascending, repeated ones once. -/
def sortIndices (l : List Nat) : List Nat := l.foldr insertIndex []

/-- A dead entry enters a list that is sorted by nozzle. -/
def insertDead (e : DeadEntry) : List DeadEntry → List DeadEntry
  | [] => [e]
  | d :: rest => if e.nozzle < d.nozzle then e :: d :: rest else d :: insertDead e rest

/-- R154: the missing set, ascending. -/
def missingSet (retired reported : List Nat) : List Nat :=
  sortIndices (reported.filter fun n => !retired.contains n)

/-- R154: the old entries still missing, one miss more, held at 3. -/
def keptEntries (dead : List DeadEntry) (missing : List Nat) : List DeadEntry :=
  (dead.filter fun d => missing.contains d.nozzle).map fun d => { d with misses := min 3 (d.misses + 1) }

/-- R154: the nozzles with no old entry, ascending. -/
def newNozzles (dead : List DeadEntry) (missing : List Nat) : List Nat :=
  missing.filter fun n => !dead.any fun d => d.nozzle == n

/-- R154 to R156: the dead list and the overflow flag after a channel report. -/
def NozzleRec.applyReport (r : NozzleRec) (reported : List Nat) (overflow : Bool) : NozzleRec :=
  let missing := missingSet r.retired reported
  let kept := keptEntries r.dead missing
  let fresh := newNozzles r.dead missing
  let room := Config.deadMax - kept.length
  { r with
    dead := (fresh.take room).foldr (fun n l => insertDead { nozzle := n, misses := 1 } l) kept
    overflow := overflow || decide (room < fresh.length) }

/-- R157: the retirement candidates of a channel. -/
def NozzleRec.retirable (r : NozzleRec) : List Nat := (r.dead.filter fun d => d.misses == 3).map DeadEntry.nozzle

/-- R157: the candidates that find room, lowest first. -/
def NozzleRec.retiring (r : NozzleRec) : List Nat := r.retirable.take (Config.retiredMax - r.retired.length)

/-- R157: the candidates that find room move to the retired list. -/
def NozzleRec.retire (r : NozzleRec) : NozzleRec :=
  { r with
    dead := r.dead.filter fun d => !r.retiring.contains d.nozzle
    retired := r.retiring.foldr insertIndex r.retired }

/-- R157: the retired list has no room for all the candidates. -/
def NozzleRec.exhausted (r : NozzleRec) : Bool := decide (Config.retiredMax - r.retired.length < r.retirable.length)

/-- R158. -/
def gradeOf (dead : Nat) (overflow : Bool) : Grade :=
  if overflow then .poor else if dead ≤ 2 then .good else if dead ≤ 8 then .fair else .poor

def NozzleRec.regrade (r : NozzleRec) : NozzleRec := { r with grade := gradeOf r.dead.length r.overflow }

/-- A list or the overflow flag of some channel differs (R160). -/
def nozzlesChanged (old new : Six NozzleRec) : Bool :=
  Channel.all.any fun c =>
    (old.get c).dead != (new.get c).dead || (old.get c).retired != (new.get c).retired ||
      (old.get c).overflow != (new.get c).overflow

/-- R160: the new lists replace the old in one change, and the generation advances where a list or flag changed. -/
def State.putNozzles (s : State) (new : Six NozzleRec) : State :=
  let ch := nozzlesChanged s.nozzles.chan new
  (s.setNozzles {
    chan := new
    generation := if ch then (s.nozzles.generation + 1) % 65536 else s.nozzles.generation }).raiseIf ch
    .nozzleTableChanged

/-- R161: a channel's retired list is replaced. -/
def NozzleRec.restore (r : NozzleRec) (indices : List Nat) : NozzleRec :=
  let new := sortIndices indices
  { r with retired := new, dead := r.dead.filter fun d => !new.contains d.nozzle }.regrade

/-- The report of a channel in an ORDER_DONE, if it is named. -/
def reportOf (reports : List CheckReport) (c : Channel) : Option CheckReport :=
  reports.find? fun r => r.channel == c.toNat

/-- R153, step 1: the dead list and flag of each reported channel. -/
def applyReports (old : Six NozzleRec) (reports : List CheckReport) : Six NozzleRec :=
  Six.tab fun c =>
    match reportOf reports c with
    | none => old.get c
    | some r => (old.get c).applyReport r.missing (r.overflow == 1)

/-- R153, steps 2 and 3, on the reported channels. -/
def finishReports (mid : Six NozzleRec) (reports : List CheckReport) (level3 : Bool) : Six NozzleRec :=
  Six.tab fun c =>
    match reportOf reports c with
    | none => mid.get c
    | some _ => (if level3 then (mid.get c).retire else mid.get c).regrade

/-- R157: a channel of the head asks for its head to be failed. -/
def headExhausted (mid : Six NozzleRec) (reports : List CheckReport) (h : Head) : Bool :=
  h.channels.any fun c => (reportOf reports c).isSome && (mid.get c).exhausted

/-- R159: the request a channel's grade makes after a check that is not part of a cleaning. -/
def State.healthRequest (s : State) (c : Channel) : State :=
  match (s.nozzles.chan.get c).grade with
  | .good => s
  | .fair => s.requestClean c.head 1 .health .gap 1
  | .poor => s.requestClean c.head 2 .health .now 1

/-- The cleaning a check belongs to: its level and origin (R144, R153). -/
def State.checkContext (s : State) : Option (Nat × CleanOrigin) :=
  match s.service.active with
  | none => none
  | some a =>
    match a.item.work with
    | .clean _ l o _ _ => some (l, o)
    | .spit _ => none
    | .check _ => none

/-- R153: an accepted check's reports are one change of the tables, with the requests it makes. -/
def State.applyCheck (s : State) (reports : List CheckReport) : State :=
  let ctx := s.checkContext
  let level3 := ctx.any fun x => x.1 == 3
  let mid := applyReports s.nozzles.chan reports
  let s1 := s.putNozzles (finishReports mid reports level3)
  let failing (h : Head) : Bool := level3 && ctx.any (fun x => x.2 != .panel) && headExhausted mid reports h
  let s2 := Head.all.foldl (fun t h => t.when (failing h) fun u => u.failHead h) s1
  match ctx with
  | some _ => s2
  | none => (Channel.all.filter fun c => (reportOf reports c).isSome).foldl State.healthRequest s2

/-- R158: a channel of the head is graded POOR. -/
def State.headPoor (s : State) (h : Head) : Bool := h.channels.any fun c => (s.nozzles.chan.get c).grade == .poor

end Sys2Proof.Machine
end

