-- ==== Sys2Proof/Machine/Station.lean ====
section
/-!
DEFINITION. The service station (07_the_service_station): orders, moves, exposures, stages, FAULT; and the end of an item,
which its last stage brings about (R143 to R146).
-/

namespace Sys2Proof.Machine

/-! ### Exposure (7.6) -/

/-- R125: the exposures count. -/
def State.exposureRuns (s : State) : Bool :=
  s.inRun &&
    match s.station.state with
    | .uncapping | .opened | .capping | .wiping | .fault => true
    | .capped | .suction => false

/-- R125: a head's exposure is reset with its flags, and the head leaves the waiting SPIT (R135). -/
def State.resetExposure (s : State) (h : Head) : State :=
  (s.setStation { s.station with
    exposure := s.station.exposure.set h 0
    spitSent := s.station.spitSent.set h false
    cleanSent := s.station.cleanSent.set h false }).dropFromSpit h

def State.resetExposures (s : State) (m : Three Bool) : State :=
  Head.all.foldl (fun t h => t.when (m.get h) fun u => u.resetExposure h) s

/-- The spit interval in ms. -/
def State.interval (s : State) : Nat := s.params.spitInterval * 1000

/-- R126: a head whose spit threshold is reached and not acted on. -/
def State.spitDueHead (s : State) (h : Head) : Bool :=
  s.inRun && s.station.state != .capping && !s.station.spitSent.get h &&
    decide (s.interval ≤ s.station.exposure.get h)

/-- R126: a head whose cleaning threshold is reached and not acted on. -/
def State.cleanDueHead (s : State) (h : Head) : Bool :=
  s.inRun && s.station.state != .capping && !s.station.cleanSent.get h &&
    decide (4 * s.interval ≤ s.station.exposure.get h)

/-- R126: one threshold that is reached acts. DESIGN CHOICE (notes/assumptions/48.md): where several are reached in one
moment, every spit threshold before the cleaning thresholds, and among each the lower head first, which is the order in which
the CLEANs of R136 are appended. -/
def State.thresholds (s : State) : Option State :=
  match Head.all.find? s.spitDueHead with
  | some h => some ((s.setStation { s.station with spitSent := s.station.spitSent.set h true }).requestSpit h)
  | none =>
    match Head.all.find? s.cleanDueHead with
    | some h =>
      some ((s.setStation { s.station with cleanSent := s.station.cleanSent.set h true }).requestClean h 2 .exposure .now 1)
    | none => none

/-! ### Orders (7.7) -/

/-- R127: an order is placed in an empty record. -/
def State.placeOrder (s : State) (k : OrderKind) (m : Three Bool) (drops : Nat) (o : OrderOrigin) : State :=
  (s.setStation { s.station with
    order := { kind := k, mask := m, drops := drops, origin := some o, left := s.params.orderTimeout * 1000 } }).raise
    .orderReady

def State.placePark (s : State) (o : OrderOrigin) : State := s.placeOrder .park (Three.const false) 0 o

/-- R127: an order is satisfied or finished. -/
def State.finishOrder (s : State) : State := s.setStation { s.station with order := Order.empty, failures := 0 }

/-- R117: leave permitted. -/
def Station.leavePermitted (t : Station) : Bool := t.state == .opened && t.order.kind != .park

/-! ### Moves (7.3) -/

def State.startMove (s : State) (k : MoveKind) (x : StationState) (ms : Nat) : State :=
  s.setStation { s.station with state := x, move := some { kind := k, left := ms } }

def State.startWipe (s : State) : State := s.startMove .wipe .wiping Config.wipeMs

/-- R119, R122: the station enters OPEN and reloads the cap-delay timer. -/
def State.enterOpen (s : State) : State :=
  s.setStation { s.station with state := .opened, move := none, capDelayLeft := s.params.capDelay * 1000 }

/-- R119: a CAP move completes. -/
def State.enterCapped (s : State) : State :=
  (s.setStation { s.station with state := .capped, move := none }).resetExposures (Three.const true)

/-- R119, R117: a CAP move starts, and the cap sensor is read. DEDUCED (notes/assumptions/44.md): a move toward the end that
the sensor already shows completes at once. -/
def State.startCap (s : State) : State :=
  (s.startMove .cap .capping Config.capMoveMs).when (s.pins.cap == .capped) State.enterCapped

/-- R119, R117: an UNCAP move starts, and the cap sensor is read as for a CAP move. -/
def State.startUncap (s : State) : State :=
  (s.startMove .uncap .uncapping Config.capMoveMs).when (s.pins.cap == .opened) State.enterOpen

/-! ### The end of a stage and of an item -/

/-- R146: the result of a completed cleaning. -/
def State.judgeCleaning (s : State) (h : Head) (level : Nat) (o : CleanOrigin) (attempt : Nat) : State :=
  if o == .panel then
    if s.headPoor h then s else s.unfailHead h
  else if s.headPoor h then
    if attempt < 3 then s.requestClean h (min (level + 1) 3) o .now (attempt + 1) else s.failHead h
  else s

/-- R143 to R145: the active item ends, and the arbiter selects. -/
def State.finishItem (s : State) (i : Item) : State :=
  let s1 :=
    match i.work with
    | .clean h l o _ a => (s.judgeCleaning h l o a).resetExposure h
    | .spit _ => s
    | .check _ => s
  (s1.setService { s1.service with active := none }).dueArbiter

/-- The station reports the end of the current stage; the scheduler hands the next (R142). -/
def State.endStage (s : State) : State :=
  match s.service.active with
  | none => s
  | some a =>
    match a.stages.tail with
    | [] => s.finishItem a.item
    | rest => s.setService { s.service with active := some { a with stages := rest } }

/-! ### FAULT (7.8) -/

/-- R130: a suction still requested is withdrawn; one that runs is left to its timer. DEDUCED (notes/assumptions/25.md): it
is marked, so that its end settles the volume alone. -/
def State.orphanSuction (s : State) : State :=
  match s.station.suction with
  | none => s
  | some r =>
    if r.running then
      match s.manifold.pump with
      | .suction q => s.setPump (.suction { q with orphan := true })
      | .free => s
      | .stroke _ => s
    else (s.setManifold { s.manifold with request := none }).setStation { s.station with suction := none }

/-- R130. -/
def State.enterFault (s : State) (why : StationCause) : State :=
  let s1 := s.orphanSuction
  ((s1.setStation { s1.station with
    state := .fault, cause := why, move := none, order := Order.empty, capDue := false }).raise .stationFault).giveBack

/-- R128: the order timer expires. DEDUCED (notes/assumptions/57.md): at the third failure the station enters FAULT, and no order
of origin STATION is placed again before it. -/
def State.orderTimesOut (s : State) : State :=
  let n := s.station.failures + 1
  let s1 := (s.setStation { s.station with order := Order.empty, failures := n }).raise .carriageTimeout
  let s2 := s1.when (s.station.order.origin == some .item) State.giveBack
  s2.when (decide (3 ≤ n)) fun t => t.enterFault .orderTimeout

/-! ### Suction (R124, R17) -/

/-- R124: the station asks the pump arbiter for a suction stage. -/
def State.askSuction (s : State) (h : Head) (level : Nat) : State :=
  (s.setStation { s.station with
    state := .suction, suction := some { head := h, level := level, running := false } }).requestSuction h level

/-- R17, R34, R130: a suction stage ends. -/
def State.endSuction (s : State) (r : SuctionRun) : State :=
  let s1 := (s.setPump .free).settleSuction r.head r.level (!r.orphan)
  let s2 := s1.setStation { s1.station with suction := none }
  if r.orphan then s2 else (s2.setStation { s2.station with state := .capped }).endStage

/-! ### Stages (R123) -/

/-- The carriage is to park first: a PARK order of origin ITEM, where no order stands. -/
def State.bringParked (s : State) : Option State :=
  if s.station.order.kind == .none then some (s.placePark .item) else none

/-- A cap move made for a stage, with PARK first. -/
def State.bringMove (s : State) (mv : State → State) : Option State :=
  if s.station.park == .parked then some (mv s) else s.bringParked

/-- The mask of the active item's order. -/
def State.placeStageOrder (s : State) (w : Work) (k : OrderKind) (drops : Nat) : Option State :=
  match s.station.state with
  | .opened => if s.station.order.kind == .none then some (s.placeOrder k w.heads drops .item) else none
  | .capped => s.bringMove State.startUncap
  | .uncapping | .capping | .wiping | .suction | .fault => none

/-- R123: what the station does next for the current stage of the active item, with no move running. -/
def State.doStage (s : State) (w : Work) (g : Stage) : Option State :=
  match g with
  | .park => if s.station.park == .parked then some s.endStage else s.bringParked
  | .cap =>
    match s.station.state with
    | .capped => some s.endStage
    | .opened => s.bringMove State.startCap
    | .uncapping | .capping | .wiping | .suction | .fault => none
  | .uncap =>
    match s.station.state with
    | .opened => some s.endStage
    | .capped => s.bringMove State.startUncap
    | .uncapping | .capping | .wiping | .suction | .fault => none
  | .wipe =>
    match s.station.state with
    | .opened => s.bringMove State.startWipe
    | .capped => s.bringMove State.startUncap
    | .uncapping | .capping | .wiping | .suction | .fault => none
  | .suction =>
    match s.station.state, w with
    | .capped, .clean h l _ _ _ => if s.station.suction.isSome then none else some (s.askSuction h l)
    | .opened, _ => s.bringMove State.startCap
    | _, _ => none
  | .spit => s.placeStageOrder w .spit s.params.spitDrops
  | .check => s.placeStageOrder w .check 0

/-- R123: the stage driver. -/
def State.driveStage (s : State) : Option State :=
  match s.service.active with
  | none => none
  | some a =>
    match a.stages.head? with
    | none => none
    | some g =>
      if s.inRun && s.station.move.isNone && s.station.state != .fault then s.doStage a.item.work g else none

/-! ### Capping and uncapping for printing (7.4) -/

/-- R122: the cap-delay timer counts. -/
def State.capDelayRuns (s : State) : Bool :=
  s.inRun && s.station.state == .opened && !(s.tickets.queue.any fun t => t.state.reserves) &&
    !s.servicePausesCap && s.service.active.isNone

/-- R122: an expired cap delay, and what cap due brings about. -/
def State.capDueActs (s : State) : Option State :=
  if s.station.capDue && s.inRun && s.station.state == .opened then
    if s.station.park == .parked then some (s.setStation { s.station with capDue := false }).startCap
    else if s.station.order.kind == .none then some (s.placePark .station)
    else none
  else if s.capDelayRuns && s.station.capDelayLeft == 0 then some (s.setStation { s.station with capDue := true })
  else none

/-- R121: the station uncaps for the oldest ticket. -/
def State.uncapForTicket (s : State) : Option State :=
  if s.inRun && s.station.state == .capped && s.station.park == .parked && s.service.active.isNone &&
      s.oldest.any (fun t => t.state == .reserved) then some s.startUncap
  else none

/-! ### Reading the sensors (R131, R133) -/

/-- The state that the cap sensor and the park switch admit. -/
def sensedStation (cap : CapReading) (park : ParkState) : Option StationState :=
  match cap, park with
  | .capped, .parked => some .capped
  | .capped, .away => none
  | .opened, _ => some .opened
  | .between, _ => none

end Sys2Proof.Machine
end

