-- ==== Sys2Proof/Machine/Tickets.lean ====
section
/-!
DEFINITION. The admission unit (04_swath_tickets): the reservation pass, grants and their loss, and the ways a ticket
leaves the queue.
-/

namespace Sys2Proof.Machine

/-! ### The reservation pass (R24) -/

/-- What a ticket that becomes RESERVED does to the station (R122): cap due is cleared, a PARK order of origin STATION is
withdrawn, and in OPEN the cap-delay timer is held at the cap delay. DEDUCED
(notes/assumptions/31.md). -/
def State.holdCapDelay (s : State) : State :=
  s.clearCapDue.when (s.station.state == .opened) fun t =>
    t.setStation { t.station with capDelayLeft := t.params.capDelay * 1000 }

/-- R23: a ticket becomes RESERVED. -/
def State.reserveTicket (s : State) (t : Ticket) : State :=
  ((s.reserveInk t).modTicket t.number fun x => { x with state := .reserved }).holdCapDelay

/-- The oldest QUEUED ticket. -/
def State.oldestQueued (s : State) : Option Ticket := s.tickets.queue.find? fun t => t.state == .queued

/-- R24: one ticket of a pass that is due: reserved, and the pass goes on; or failed, and the pass stops with the demands
of the failing channels set. -/
def State.passStep (s : State) : Option State :=
  if s.due.pass then
    match s.oldestQueued with
    | none => some (s.setDue { s.due with pass := false })
    | some t =>
      let failing := Channel.all.filter (s.swathFails t)
      if failing.isEmpty then some (s.reserveTicket t).duePass
      else some ((s.setDue { s.due with pass := false }).setDemands failing)
  else none

/-! ### Grants (4.5) -/

def SheetState.prints : SheetState → Bool
  | .printing | .closing => true
  | .queued | .held | .loading | .cancelling | .drying | .cutting => false

/-- The ticket's sheet is PRINTING or CLOSING. -/
def State.sheetPrints (s : State) (t : Ticket) : Bool := (s.findSheet t.sheet).any fun h => h.state.prints

/-- Every channel of the set has L > F, and every head of the set is not FAILED and has an exposure below the spit
interval (R68). -/
def State.headsReady (s : State) (t : Ticket) : Bool :=
  (Channel.all.all fun c => !t.uses c || decide (s.params.floor < (s.ledger.chan.get c).volume)) &&
  (Head.all.all fun h =>
    !t.usesHead h || (!s.service.failed.get h && decide (s.station.exposure.get h < s.interval)))

/-- R68: the conditions of a grant, but for the ticket's own state. -/
def State.grantAllowed (s : State) (t : Ticket) : Bool :=
  s.sheetPrints t && s.station.state == .opened && s.service.active.isNone && !s.serviceStopsGrant && s.headsReady t

/-- R68: the oldest ticket becomes GRANTED. -/
def State.grantStep (s : State) : Option State :=
  match s.oldest with
  | none => none
  | some t =>
    if t.state == .reserved && t.adv == .done && s.grantAllowed t then
      some ((s.modTicket t.number fun x => { x with state := .granted }).raise .ticketGranted)
    else none

/-- A CLEAN item with urgency NOW waits. -/
def State.nowCleanWaits (s : State) : Bool := s.service.queue.any fun i => i.work.isCleanOf .now

/-- R69: a GRANTED ticket loses its grant. -/
def State.withdrawStep (s : State) : Option State :=
  match s.oldest with
  | none => none
  | some t =>
    if t.state == .granted && (s.nowCleanWaits || !s.headsReady t) then
      some (((s.modTicket t.number fun x => { x with state := .reserved }).raise .grantWithdrawn).dueArbiter)
    else none

/-! ### Leaving the queue -/

def State.setTicketQueue (s : State) (q : List Ticket) : State := s.setTickets { s.tickets with queue := q }

/-- Tickets leave unsettled: their releases are made together, then one pass (R25); GRANT_WITHDRAWN is raised once if one
of them was GRANTED (R74, R75). -/
def State.removeTickets (s : State) (leaves : Ticket → Bool) : State :=
  let out := s.tickets.queue.filter leaves
  if out.isEmpty then s
  else
    let granted := out.any fun t => t.state == .granted
    let s1 := (s.releaseInk out).setTicketQueue (s.tickets.queue.filter fun t => !leaves t)
    ((s1.raiseIf granted .grantWithdrawn).when granted State.dueArbiter).duePass

/-- R75: every ticket of a cancelled sheet that is not FIRING leaves. -/
def State.removeSheetTickets (s : State) (id : Nat) : State :=
  s.removeTickets fun t => t.sheet == id && t.state != .firing

/-- A FIRING ticket that is settled or lost leaves the queue, and its swath timer stops (R72). -/
def State.dropFiring (s : State) (n : Nat) : State :=
  ((s.setTickets { s.tickets with
    queue := s.tickets.queue.filter fun t => t.number != n, swathLeft := none }).duePass).dueArbiter

/-- R30, R78: a FIRING ticket is settled by its report. -/
def State.settleTicket (s : State) (t : Ticket) (pairs : List (Nat × Nat)) : State :=
  ((s.settleSwath t pairs).dropFiring t.number).raise .ticketSettled

/-- R73: the swath timer expires and the FIRING ticket is lost. -/
def State.loseTicket (s : State) (t : Ticket) : State :=
  ((s.settleLost t).dropFiring t.number).raise .carriageTimeout

/-! ### Asking (R62, R64) -/

/-- R62. -/
def State.ticketNumber (s : State) : Nat := firstFree (s.tickets.queue.map Ticket.number) 255 s.tickets.nextNumber

/-- The length of a TICKET advance that runs for a sheet and whose ticket has left the queue: it stays counted (R74), since
the printed length grows by it when it completes (R67). -/
def State.leftRunning (s : State) (h : Sheet) : Nat :=
  match s.feed.op with
  | none => 0
  | some o =>
    if o.purpose == .ticket && o.sheet == h.id && !o.orphan &&
        !s.tickets.queue.any (fun t => t.number == o.ticket && t.adv == .running) then o.length
    else 0

/-- The committed length of a sheet (R63): its printed length and the advances of its tickets that are PENDING or RUNNING.
DEDUCED (notes/assumptions/38.md): the advance of a ticket that leaves while it runs stays in the sum, so that the sum never
exceeds the planned length (R63, R105). -/
def State.committed (s : State) (h : Sheet) : Nat :=
  h.printed + ((s.tickets.queue.filter fun t => t.sheet == h.id && t.adv != .done).map Ticket.advance).sum + s.leftRunning h

/-- R64: a new ticket is appended. -/
def State.appendTicket (s : State) (sheet index advance : Nat) (predicted : Six Nat) : State :=
  let n := s.ticketNumber
  (s.setTickets { s.tickets with
    queue := s.tickets.queue ++
      [{ number := n, sheet := sheet, index := index, advance := advance, predicted := predicted,
         need := s.needs predicted, adv := .pending, state := .queued }]
    nextNumber := nextByte n }).duePass

end Sys2Proof.Machine
end

