-- ==== Sys2Proof/Machine/Sheets.lean ====
section
/-!
DEFINITION. The sheet queue (06_the_sheet_queue): roll choice, cancellation, removal with an outcome, drying.
-/

namespace Sys2Proof.Machine

/-! ### Roll choice (R101, R102) -/

/-- The sheet demand in µm (R102). -/
def State.sheetDemand (s : State) (h : Sheet) : Nat :=
  (h.top + (if h.planned = 0 then s.params.minOpen else h.planned) + h.bottom + 60) * 1000

/-- R102, first three tests: a roll of this record is in its place, of the sheet's type and wide enough. -/
def Sheet.takes (h : Sheet) (x : RollRec) : Bool :=
  (x.state == .loaded || x.state == .threaded) && (h.media == 0 || x.media == h.media) && decide (h.width ≤ x.width)

/-- R102, last test: a roll of this record is long enough for the sheet. -/
def State.covers (s : State) (h : Sheet) (x : RollRec) : Bool :=
  x.remaining.all fun n => decide (s.sheetDemand h ≤ n)

/-- R102: the roll qualifies for the sheet. -/
def State.qualifies (s : State) (h : Sheet) (r : Roll) : Bool :=
  h.takes (s.feed.roll.get r) && s.covers h (s.feed.roll.get r)

/-- The THREADED roll. -/
def Feed.threaded (f : Feed) : Option Roll :=
  if f.roll.upper.state == .threaded then some .upper
  else if f.roll.lower.state == .threaded then some .lower
  else none

/-- R102: the THREADED roll alone. -/
def State.chooseThreaded (s : State) (h : Sheet) : Option Roll :=
  match s.feed.threaded with
  | none => none
  | some r => if s.qualifies h r then some r else none

/-- R102: the order of choice where the threaded roll does not qualify. -/
def RollPref.order : RollPref → List Roll
  | .upper => [.upper, .lower]
  | .lower => [.lower, .upper]
  | .any => [.upper, .lower]

/-- R102. -/
def State.chooseRoll (s : State) (h : Sheet) : Option Roll :=
  match s.chooseThreaded h with
  | some r => some r
  | none => h.pref.order.find? (s.qualifies h)

/-- QUEUED or HELD. -/
def SheetState.waits : SheetState → Bool
  | .queued | .held => true
  | .loading | .printing | .closing | .cancelling | .drying | .cutting => false

/-- The head sheet: the oldest that is QUEUED or HELD. -/
def State.headSheet (s : State) : Option Sheet := s.sheets.queue.find? fun h => h.state.waits

/-- The sheets older than the head sheet. -/
def State.olderSheets (s : State) : List Sheet := s.sheets.queue.takeWhile fun h => !h.state.waits

/-- R101: the head sheet is examined. -/
def State.examinable (s : State) : Bool :=
  s.sheetGap && !s.olderSheets.any fun h => h.cut == .cut && (h.state == .drying || h.state == .cutting)

/-- R112: a sheet older than the head sheet is DRYING. -/
def State.olderDries (s : State) : Bool := s.olderSheets.any fun x => x.state == .drying

/-- R101, R112: the examination of the head sheet. -/
def State.examineSheet (s : State) (h : Sheet) : State :=
  match (if s.olderDries then s.chooseThreaded h else s.chooseRoll h) with
  | some r => s.modSheet h.id fun x => { x with state := .loading, roll := some r, loadStep := some .swap }
  | none =>
    if !s.olderDries && h.state == .queued then
      (s.modSheet h.id fun x => { x with state := .held }).raise .mediaNeeded
    else s

/-- R101: the loading conditions are tested where an append, a sheet that leaves the active states, a removal or a change
of a roll record has made the test due, or, for a HELD head sheet, a change of the minimum open length; a survey or a
description that changes no record makes none due (notes/assumptions/32.md). -/
def State.examine (s : State) : Option State :=
  if s.due.examine then
    let s1 := s.setDue { s.due with examine := false }
    some (match s1.headSheet with
      | none => s1
      | some h => if s1.examinable then s1.examineSheet h else s1)
  else none

/-- R104: a LOADING sheet chooses again. DESIGN CHOICE (notes/assumptions/27.md): in NO_MEDIA its roll field stays. -/
def State.chooseAgain (s : State) (h : Sheet) : State :=
  match s.chooseRoll h with
  | some r => s.modSheet h.id fun x => { x with roll := some r, loadStep := some .swap }
  | none =>
    if h.loadStep == some .noMedia then s
    else (s.modSheet h.id fun x => { x with loadStep := some .noMedia }).raise .mediaNeeded

/-! ### Removal and cancellation (6.7, 6.8) -/

/-- R116: a sheet is removed with an outcome. -/
def State.removeSheet (s : State) (id : Nat) (o : SheetOutcome) : State :=
  match s.findSheet id with
  | none => s
  | some h =>
    let entry : OutcomeEntry := { id := id, outcome := o, printedMm := h.printed / 1000, ink := h.ink }
    let list := s.sheets.outcomes ++ [entry]
    (((((s.setSheets { s.sheets with
      queue := s.sheets.queue.filter fun x => x.id != id
      outcomes := list.drop (list.length - Config.sheetPlaces) }).raise .sheetDone).dueExamine).when h.state.isActive
        State.dueArbiter).when (o == .done) State.countDone)

/-- A feed operation asked for the sheet runs: a TICKET advance, its MARGIN advance or its LOAD swap (R115). -/
def State.feedRunsFor (s : State) (id : Nat) : Bool :=
  s.feed.op.any fun o => o.sheet == id && !o.orphan && o.purpose != .tail && o.purpose != .cut

/-- What keeps a cancelled sheet CANCELLING (R115). -/
def State.cancelWaits (s : State) (id : Nat) : Bool :=
  (s.tickets.queue.any fun t => t.sheet == id) || s.feedRunsFor id

/-- R115: an active sheet is cancelled with an outcome. -/
def State.cancelSheet (s : State) (id : Nat) (o : SheetOutcome) : State :=
  let s1 := s.removeSheetTickets id
  if s1.cancelWaits id then s1.modSheet id fun h => { h with state := .cancelling, outcome := o, loadStep := none }
  else s1.removeSheet id o

/-- LOADING, PRINTING or CLOSING (R114). -/
def SheetState.cancellable : SheetState → Bool
  | .loading | .printing | .closing => true
  | .queued | .held | .cancelling | .drying | .cutting => false

/-- R114: an arrival that cancels the sheet of the id, where it is LOADING, PRINTING or CLOSING. -/
def State.cancelIf (s : State) (id : Nat) (o : SheetOutcome) : State :=
  match s.findSheet id with
  | none => s
  | some h => if h.state.cancellable then s.cancelSheet id o else s

/-- R93, R114: a fault of the IDLE path cancels the active sheet. -/
def State.cancelActive (s : State) (o : SheetOutcome) : State :=
  match s.activeSheet with
  | none => s
  | some h => s.cancelIf h.id o

/-- R88, R114: a paper end on a roll that is the path roll cancels the active sheet on that roll. DEDUCED
(notes/assumptions/42.md): so does it a LOADING sheet in step SWAP whose swap is not yet taken, by R104's sixth row and not
its first. -/
def State.paperEndOn (s : State) (r : Roll) : State :=
  match s.activeSheet with
  | none => s
  | some h => if h.roll == some r then s.cancelIf h.id .mediaEnd else s

/-! ### Closing and drying (R107, R108) -/

/-- R107: a CLOSING sheet with no ticket left becomes DRYING. -/
def State.closingDone (s : State) (h : Sheet) : Bool :=
  h.state == .closing && !s.tickets.queue.any fun t => t.sheet == h.id

def State.startDrying (s : State) (h : Sheet) : State :=
  ((s.modSheet h.id fun x => { x with state := .drying, dryLeft := x.dry * 1000 }).dueExamine).dueArbiter

/-- R108: a dry timer that has run out ends the drying. -/
def State.dryEnds (s : State) (h : Sheet) : State :=
  match h.cut with
  | .noCut => s.removeSheet h.id .done
  | .cut => s.modSheet h.id fun x => { x with state := .cutting, finish := some .tail }

/-- R107, R108, R111, R115: what a sheet's own state brings about. DESIGN CHOICE (notes/assumptions/47.md): of several dry
timers that end in one moment the older sheet's acts first, after a CANCELLING sheet that leaves in it. -/
def State.sheetStep (s : State) : Option State :=
  match s.sheets.queue.find? s.closingDone with
  | some h => some (s.startDrying h)
  | none =>
    match s.sheets.queue.find? fun h => h.state == .cancelling && !s.cancelWaits h.id with
    | some h => some (s.removeSheet h.id h.outcome)
    | none => (s.sheets.queue.find? fun h => h.state == .drying && h.dryLeft == 0 && s.inRun).map s.dryEnds

/-! ### Opening (R98, R100) -/

/-- R98. -/
def State.sheetId (s : State) : Nat :=
  firstFree (s.sheets.queue.map Sheet.id ++ s.sheets.outcomes.map OutcomeEntry.id) 255 s.sheets.nextId

/-- R100: a sheet is appended. -/
def State.appendSheet (s : State) (pref : RollPref) (media width planned top bottom dry : Nat) (mode : CutMode) : State :=
  let id := s.sheetId
  (s.setSheets { s.sheets with
    queue := s.sheets.queue ++
      [{ id := id, pref := pref, media := media, width := width, planned := planned, top := top, bottom := bottom,
         dry := dry, cut := mode, final := 0, state := .queued, roll := none, loadStep := none, finish := none,
         dryLeft := 0, printed := 0, ink := Six.const 0, outcome := .none }]
    nextId := nextByte id }).dueExamine

/-- R109: the length of the tail advance. -/
def Sheet.tailLength (h : Sheet) : Nat :=
  min Config.tailMax (h.bottom * 1000 + (if h.final = 0 then 0 else h.final * 1000 - h.printed) + Config.cutterGap)

end Sys2Proof.Machine
end

