-- ==== Sys2Proof/Machine/Feed.lean ====
section
/-!
DEFINITION. The feed unit (05_rolls): the survey, the three operations with their starts, ends and faults, and the
requests of the admission unit and the sheet queue.
-/

namespace Sys2Proof.Machine

/-! ### Rolls and path -/

def State.setRoll (s : State) (r : Roll) (x : RollRec) : State :=
  s.setFeed { s.feed with roll := s.feed.roll.set r x }

/-- A roll whose media has ended (R88). -/
def RollRec.ended (x : RollRec) : RollRec := { x with state := .empty, remaining := some 0 }

/-- A present roll that does not feed the path (R84, R90). -/
def RollRec.unthread (x : RollRec) : RollRec := if x.state == .threaded then { x with state := .loaded } else x

/-- Remaining less an advance, clamped at 0; UNKNOWN stays (R80, R87). -/
def RollRec.feedOut (x : RollRec) (d : Nat) : RollRec := { x with remaining := x.remaining.map fun n => n - d }

def State.modPathRoll (s : State) (f : RollRec → RollRec) : State :=
  match s.feed.pathRoll with
  | none => s
  | some r => s.setRoll r (f (s.feed.roll.get r))

/-- The path roll's state. -/
def Feed.pathRollState (f : Feed) : RollState :=
  match f.pathRoll with
  | none => .absent
  | some r => (f.roll.get r).state

/-- The running operation ends and the path takes a state. -/
def State.endOp (s : State) (p : PathState) : State := s.setFeed { s.feed with path := p, op := none }

/-- The path enters FAULT with a cause. -/
def State.pathFaults (s : State) (why : FeedCause) (e : Event) : State :=
  (s.setFeed { s.feed with path := .fault, op := none, cause := why }).raise e

/-! ### The survey (R84) -/

/-- R84, but for the cutter: path state, path roll, cause and roll records. -/
def surveyPath (pins : Pins) (rolls : Two RollRec) : PathState × Option Roll × FeedCause × Two RollRec :=
  if !pins.thread then (.unthreaded, none, .none, Two.tab fun r => (rolls.get r).unthread)
  else
    let a := pins.actuator
    if (rolls.get a).state == .absent then (.fault, none, .sensorMismatch, Two.tab fun r => (rolls.get r).unthread)
    else
      let x := rolls.get a
      let x' : RollRec :=
        if !pins.paper then x.ended else if x.state == .empty then x else { x with state := .threaded }
      (.idle, some a, .none, (Two.tab fun r => (rolls.get r).unthread).set a x')

/-- R84: the survey sets the path record and the rolls. -/
def survey (pins : Pins) (f : Feed) : Feed :=
  let x := surveyPath pins f.roll
  if pins.cutterHome then { roll := x.2.2.2, path := x.1, pathRoll := x.2.1, op := none, cause := x.2.2.1 }
  else { roll := x.2.2.2, path := .fault, pathRoll := x.2.1, op := none, cause := .cutterAway }

/-- The feed unit with the remaining of each roll that another record of it holds (R94). -/
def Feed.keepRemaining (f old : Feed) : Feed :=
  { f with roll := Two.tab fun r => { f.roll.get r with remaining := (old.roll.get r).remaining } }

/-! ### Ends of operations and their results (R83) -/

/-- R104, R109, R114: STOPPED_PAPER_END reaches the requester. -/
def State.stoppedPaperEnd (s : State) (purpose : Purpose) (sheet : Nat) : State :=
  match purpose with
  | .tail => s.removeSheet sheet .mediaEnd
  | .ticket | .margin | .load | .cut => s.cancelIf sheet .mediaEnd

/-- R104, R109, R114: FEED_FAULTED reaches the requester. -/
def State.feedFaulted (s : State) (o : FeedOp) : State :=
  if o.orphan then s
  else
    match o.purpose with
    | .tail => s.modSheet o.sheet fun h => { h with finish := some .cut }
    | .cut => s
    | .ticket | .margin | .load => s.cancelIf o.sheet .feedFault

/-- R67, R87, R103, R109: COMPLETE of an advance reaches the requester. -/
def State.advanceDone (s : State) (o : FeedOp) : State :=
  if o.orphan then s
  else
    match o.purpose with
    | .ticket =>
      (s.modSheet o.sheet fun h => { h with printed := addCapped h.printed o.length }).modTicket o.ticket fun t =>
        if t.adv == .running then { t with adv := .done } else t
    | .margin =>
      match s.findSheet o.sheet with
      | none => s
      | some h =>
        if h.state == .loading then
          (s.modSheet o.sheet fun x => { x with state := .printing, loadStep := none }).raise .sheetActive
        else s
    | .tail => s.modSheet o.sheet fun h => { h with finish := some .cut }
    | .load => s
    | .cut => s

/-- R87: the end of move of an advance. -/
def State.completeAdvance (s : State) (o : FeedOp) : State :=
  ((s.modPathRoll fun x => x.feedOut o.length).endOp .idle).advanceDone o

/-- R88: a paper end stops an advance. -/
def State.stopAdvance (s : State) (o : FeedOp) (r : Roll) : State :=
  let s1 := ((s.modPathRoll RollRec.ended).endOp .idle).reportRolls s.feed.roll
  (s1.when (!o.orphan) fun t => t.stoppedPaperEnd o.purpose o.sheet).paperEndOn r

/-- R89: an advance ends in FAULT for JAM or THREAD_LOST: the full length counts as used. -/
def State.faultAdvance (s : State) (o : FeedOp) (why : FeedCause) : State :=
  (((s.modPathRoll fun x => x.feedOut o.length).pathFaults why .feedFault)).feedFaulted o

/-- R90: the swap completes. -/
def State.completeSwap (s : State) (o : FeedOp) (r : Roll) : State :=
  let s1 := s.modPathRoll RollRec.unthread
  let s2 := s1.setRoll r { s1.feed.roll.get r with state := .threaded }
  let s3 := ((s2.setFeed { s2.feed with pathRoll := some r }).endOp .idle).reportRolls s.feed.roll
  s3.when (!o.orphan) fun t => t.modSheet o.sheet fun h =>
    if h.state == .loading then { h with loadStep := some .margin } else h

/-- R91: a swap ends in FAULT. -/
def State.faultSwap (s : State) (o : FeedOp) (why : FeedCause) : State :=
  let s1 := s.modPathRoll RollRec.unthread
  (((s1.setFeed { s1.feed with pathRoll := none }).pathFaults why .feedFault).reportRolls s.feed.roll).feedFaulted o

/-- R90: the stage a swap stands in, given what the sensors read; none once THREAD has ended. -/
def swapStage (pins : Pins) (target : Roll) : SwapStage → Option SwapStage
  | .unthread =>
    if pins.thread then some .unthread else if pins.actuator == target then some .thread else some .select
  | .select =>
    if pins.actuator == target then (if pins.thread then none else some .thread) else some .select
  | .thread => if pins.thread then none else some .thread

/-- R90: a running swap goes on from what the sensors read. -/
def State.proceedSwap (s : State) (o : FeedOp) : State :=
  match o.target, o.stage with
  | some r, some g =>
    match swapStage s.pins r g with
    | none => s.completeSwap o r
    | some g' => s.setFeed { s.feed with op := some { o with stage := some g' } }
  | _, _ => s

/-- R92: a cut completes. -/
def State.completeCut (s : State) (o : FeedOp) : State :=
  (s.endOp (if s.feed.pathRoll.isSome then .idle else .unthreaded)).when (!o.orphan) fun t => t.removeSheet o.sheet .done

/-! ### Requests and starts (R85, R86, R90, R92) -/

def FeedOp.new (kind : FeedKind) (purpose : Purpose) (length sheet ticket left : Nat) : FeedOp :=
  { kind := kind, purpose := purpose, length := length, sheet := sheet, ticket := ticket, target := none, stage := none,
    left := left, cutterLeft := false, orphan := false }

def State.startOp (s : State) (p : PathState) (o : FeedOp) : State :=
  s.setFeed { s.feed with path := p, op := some o }

/-- R85, R86: an advance request taken in IDLE. -/
def State.requestAdvance (s : State) (purpose : Purpose) (d sheet ticket : Nat) : State :=
  if s.feed.pathRollState == .empty then s.stoppedPaperEnd purpose sheet
  else s.startOp .advancing (FeedOp.new .advance purpose d sheet ticket (Config.advanceMs d))

/-- R90: a swap starts. -/
def State.startSwap (s : State) (r : Roll) (sheet : Nat) : State :=
  let o := { FeedOp.new .swap .load 0 sheet 0 Config.swapMs with target := some r, stage := some SwapStage.unthread }
  (s.startOp .swapping o).proceedSwap o

/-- R85: a swap request of a LOADING sheet, taken in IDLE or UNTHREADED. -/
def State.requestSwap (s : State) (h : Sheet) (r : Roll) : State :=
  if (s.feed.roll.get r).state == .absent || (s.feed.roll.get r).state == .empty then s.chooseAgain h
  else if s.feed.path == .idle && s.feed.pathRoll == some r then
    s.modSheet h.id fun x => { x with loadStep := some .margin }
  else s.startSwap r h.id

/-- R92: a cut request taken in IDLE. -/
def State.requestCut (s : State) (h : Sheet) : State :=
  if s.pins.cutterHome then s.startOp .cutting (FeedOp.new .cut .cut 0 h.id 0 Config.cutMs)
  else s.pathFaults .cutterAway .cutFault

/-- R103: what a LOADING sheet asks for. -/
def State.askLoading (s : State) (h : Sheet) : Option State :=
  match h.loadStep, h.roll with
  | some .swap, some r =>
    if s.feed.path == .idle || s.feed.path == .unthreaded then some (s.requestSwap h r) else none
  | some .margin, _ => if s.feed.path == .idle then some (s.requestAdvance .margin (h.top * 1000) h.id 0) else none
  | some .noMedia, _ => if (s.chooseRoll h).isSome then some (s.chooseAgain h) else none
  | _, _ => none

/-- R109, R110: what a CUTTING sheet asks for. -/
def State.askCutting (s : State) (h : Sheet) : Option State :=
  if s.feed.path == .unthreaded then some (s.removeSheet h.id .feedFault)
  else if s.feed.path == .idle then
    match h.finish with
    | some .tail => some (s.requestAdvance .tail h.tailLength h.id 0)
    | some .cut => some (s.requestCut h)
    | none => none
  else none

/-- The record of a roll shows less of it than another record does, UNKNOWN counting as more than any length. -/
def RollRec.shorterThan (x old : RollRec) : Bool := x.remaining.any fun n => old.remaining.all fun m => decide (n < m)

/-- R104, first row: the change of a roll record is why the sheet's roll does not qualify. DEDUCED
(notes/assumptions/50.md): by the change the roll fails a test that it passed, or it has become shorter and is too short. A
change that leaves a roll, which a raised minimum open length has made too short, as long as it was is no such change. -/
def State.lostRoll (s : State) (old : Two RollRec) (h : Sheet) (r : Roll) : Bool :=
  let x := s.feed.roll.get r
  h.takes (old.get r) && !h.takes x || x.shorterThan (old.get r) && !s.covers h x

/-- R104: roll records have changed: a LOADING sheet whose swap is not taken and whose roll no longer qualifies by it chooses
again. -/
def State.rollsChanged (s : State) : Option State :=
  match s.due.rolls with
  | none => none
  | some old =>
    let s1 := s.setDue { s.due with rolls := none }
    some (match s1.activeSheet with
      | none => s1
      | some h =>
        match h.roll with
        | none => s1
        | some r =>
          if h.state == .loading && h.loadStep == some .swap && !s1.feedRunsFor h.id && s1.lostRoll old h r then
            s1.chooseAgain h
          else s1)

/-- R103, R104, R109, R110: the sheet queue's requests. -/
def State.sheetAsks (s : State) : Option State :=
  match s.sheets.queue.find? fun h => h.state == .cutting with
  | some h =>
    match s.askCutting h with
    | some s' => some s'
    | none =>
      match s.activeSheet with
      | none => none
      | some a => if a.state == .loading then s.askLoading a else none
  | none =>
    match s.activeSheet with
    | none => none
    | some a => if a.state == .loading then s.askLoading a else none

/-- R66: the admission unit's request for the oldest ticket. -/
def State.advanceStep (s : State) : Option State :=
  match s.oldest with
  | none => none
  | some t =>
    if t.state == .reserved && t.adv == .pending && s.sheetPrints t && s.feed.path == .idle && !s.isFiring then
      some ((s.modTicket t.number fun x => { x with adv := .running }).requestAdvance .ticket t.advance t.sheet t.number)
    else none

/-! ### Sensor changes (R81, R88 to R93) -/

/-- R88: the paper-end sensor reports media absent; none where the report is ignored. -/
def State.paperEnds (s : State) : Option State :=
  match s.feed.pathRoll with
  | none => none
  | some r =>
    if s.feed.pathRollState != .threaded then none
    else
      match s.feed.path with
      | .advancing => s.feed.op.map fun o => s.stopAdvance o r
      | .idle | .cutting | .fault => some (((s.modPathRoll RollRec.ended).reportRolls s.feed.roll).paperEndOn r)
      | .swapping | .unthreaded => none

/-- R89, R90, R93: the thread sensor reports; none where the report is ignored. -/
def State.threadChanges (s : State) (present : Bool) : Option State :=
  match s.feed.path with
  | .idle =>
    if present then none
    else if s.feed.pathRollState == .empty then some (s.setFeed { s.feed with path := .unthreaded, pathRoll := none })
    else some ((s.pathFaults .threadLost .feedFault).cancelActive .feedFault)
  | .advancing => if present then none else s.feed.op.map fun o => s.faultAdvance o .threadLost
  | .swapping => s.feed.op.map s.proceedSwap
  | .cutting | .fault | .unthreaded => none

/-- R81 and the rows of R89, R91, R92 and R93 on a roll that is removed. DEDUCED (notes/assumptions/54.md): where a swap runs and
the former path roll is removed, the path roll goes on naming it until the swap ends. -/
def State.rollLeaves (s : State) (r : Roll) : State :=
  let was := (s.feed.roll.get r).state
  let s1 := (s.setRoll r RollRec.absent).reportRolls s.feed.roll
  let off := s1.setFeed { s1.feed with pathRoll := none }
  let onPath := s.feed.pathRoll == some r
  match s.feed.path with
  | .idle =>
    if !onPath then s1
    else if was == .empty then off.setFeed { off.feed with path := .unthreaded }
    else (off.pathFaults .rollRemoved .feedFault).cancelActive .feedFault
  | .advancing =>
    match s.feed.op with
    | some o => if onPath then (off.pathFaults .rollRemoved .feedFault).feedFaulted o else s1
    | none => s1
  | .swapping =>
    match s.feed.op with
    | some o => if o.target == some r then s1.faultSwap o .rollRemoved else s1
    | none => s1
  | .cutting | .fault => if onPath then off else s1
  | .unthreaded => s1

/-- R81: a roll arrives, undescribed. -/
def State.rollArrives (s : State) (r : Roll) : State :=
  (s.setRoll r { RollRec.absent with state := .loaded }).reportRolls s.feed.roll

/-- R92: the cutter home switch reports while a cut runs; none where the report changes nothing. -/
def State.cutterReports (s : State) (home : Bool) : Option State :=
  match s.feed.path, s.feed.op with
  | .cutting, some o =>
    if home then (if o.cutterLeft then some (s.completeCut o) else none)
    else some (s.setFeed { s.feed with op := some { o with cutterLeft := true } })
  | _, _ => none

end Sys2Proof.Machine
end

