-- ==== Sys2Proof/Machine/Settle.lean ====
section
/-!
DEFINITION. What one step brings about beyond the operation it names: the reactions of the blocks, each a rule that fires
while its conditions hold, followed one at a time in a fixed order until none fires; the sleep conditions and the return
from SLEEP. The order among reactions of one moment is a DESIGN CHOICE (notes/assumptions/5.md).
-/

namespace Sys2Proof.Machine

/-- The first refill session that reacts (R9, R17). DESIGN CHOICE (notes/assumptions/45.md): the lower channel first, where
several start or resume in one moment. -/
def State.sessionStep (s : State) : Option State := Channel.all.findSome? s.sessionReacts

/-- R14, R16: a completed stroke's session is decided after the re-attempts that its level has started. DEDUCED
(notes/assumptions/51.md): the reservation pass of R24, the selection of R139 and the sessions that their demands start come
before it. -/
def State.strokeStep (s : State) : Option State :=
  s.due.stroke.map fun e =>
    s.serviceArbiter.getD ((s.setDue { s.due with stroke := none }).afterStroke e.channel e.tripped)

/-- The reactions, in the order in which they are looked for. -/
def reactions : List (State → Option State) :=
  [State.thresholds, State.withdrawStep, State.passStep, State.sheetStep, State.examine, State.rollsChanged,
    State.sheetAsks, State.advanceStep, State.sessionStep, State.strokeStep, State.pumpArbiter, State.serviceArbiter,
    State.driveStage, State.capDueActs, State.uncapForTicket, State.grantStep, State.startLink]

/-- The first reaction that fires. -/
def State.react (s : State) : Option State := reactions.findSome? fun f => f s

/-- Reactions are followed until none fires; `n` bounds them (notes/assumptions/2.md). -/
def follow : Nat → State → State
  | 0, s => s
  | n + 1, s =>
    match s.react with
    | none => s
    | some s' => follow n s'

/-! ### Sleep (11.2) -/

/-- R180: the sleep conditions. -/
def State.sleepReady (s : State) : Bool :=
  s.sheets.queue.isEmpty && s.tickets.queue.isEmpty && s.station.state == .capped && s.manifold.pump == .free &&
    (Channel.all.all fun c => (s.session c).state == .idle) && (s.feed.path == .idle || s.feed.path == .unthreaded) &&
    s.supply.link.jobs.isEmpty && s.service.queue.isEmpty && s.service.active.isNone

/-- R180: the idle-sleep time to load; with 0 the timer does not run. -/
def State.idleSleepLoad (s : State) : Option Nat :=
  if s.params.idleSleep = 0 then none else some (s.params.idleSleep * 60000)

def State.loadIdleSleep (s : State) : State := s.setMode { s.mode with idleSleepLeft := s.idleSleepLoad }

/-- Everything the operation brings about, and the idle-sleep timer loaded again where a sleep condition fails (R180). DESIGN
CHOICE (notes/assumptions/49.md): the conditions are tested at the end of the step, so that one which fails and holds again
within it does not load the timer. -/
def State.settle (s : State) : State :=
  let t := follow Config.fuel s
  t.when (t.inRun && !t.sleepReady) State.loadIdleSleep

/-- R180: the hub enters SLEEP. -/
def State.enterSleep (s : State) : State :=
  s.setMode { s.mode with
    mode := .sleep, idleSleepLeft := none, idleServiceLeft := some (s.params.idleService * 3600000) }

/-- R179, R181: the hub enters RUN: the idle-service timer stops, the idle-sleep timer is loaded, the arbiter selects. -/
def State.enterRun (s : State) : State :=
  (s.setMode { s.mode with mode := .run, idleServiceLeft := none, idleSleepLeft := s.idleSleepLoad }).dueArbiter

/-- R181: a wake source returns the hub from SLEEP to RUN. -/
def State.wake (s : State) : State := if s.inSleep then s.enterRun.settle else s

/-- One CLEAN of level 1, urgency NOW, is requested for each head (R179, R181). DESIGN CHOICE (notes/assumptions/48.md): H0
first. -/
def State.cleanAll (s : State) (o : CleanOrigin) : State := Head.all.foldl (fun t h => t.requestClean h 1 o .now 1) s

end Sys2Proof.Machine
end

