-- ==== Sys2Proof/Machine/Operands.lean ====
section
/-!
DEFINITION. The codes of 10.7: command codes with the ports they belong to, enumerated operands, and the codes in which
enumerated fields are returned.
-/

namespace Sys2Proof.Machine

/-! ### Commands -/

def onAll (_ : Port) : Bool := true
def onRP (p : Port) : Bool := p == .rp
def onCP (p : Port) : Bool := p == .cp
def onPP (p : Port) : Bool := p == .pp
def onRPorPP (p : Port) : Bool := p != .cp

/-- A command's code and the ports it belongs to (10.7). -/
structure Command where
  code : Nat
  ports : Port → Bool

namespace Cmd
def getStatus : Command := ⟨0x01, onAll⟩
def getReply : Command := ⟨0x02, onAll⟩
def getEvents : Command := ⟨0x03, onAll⟩
def setEventMask : Command := ⟨0x04, onAll⟩
def tableSel : Command := ⟨0x05, onAll⟩
def tableRead : Command := ⟨0x06, onAll⟩
def sheetOpen : Command := ⟨0x20, onRP⟩
def sheetClose : Command := ⟨0x21, onRP⟩
def sheetCancel : Command := ⟨0x22, onRPorPP⟩
def swathAsk : Command := ⟨0x23, onRP⟩
def swathWithdraw : Command := ⟨0x24, onRP⟩
def swathTake : Command := ⟨0x40, onCP⟩
def swathDone : Command := ⟨0x41, onCP⟩
def parkState : Command := ⟨0x42, onCP⟩
def getOrder : Command := ⟨0x43, onCP⟩
def orderDone : Command := ⟨0x44, onCP⟩
def go : Command := ⟨0x60, onPP⟩
def configSet : Command := ⟨0x61, onPP⟩
def configLock : Command := ⟨0x62, onPP⟩
def slotMapSet : Command := ⟨0x63, onPP⟩
def tankAccept : Command := ⟨0x64, onPP⟩
def levelRestore : Command := ⟨0x65, onPP⟩
def retiredRestore : Command := ⟨0x66, onPP⟩
def rollLoad : Command := ⟨0x67, onPP⟩
def cleanAsk : Command := ⟨0x68, onPP⟩
def feedClear : Command := ⟨0x69, onPP⟩
def stationClear : Command := ⟨0x6A, onPP⟩
def sleepNow : Command := ⟨0x6B, onPP⟩
def hubReset : Command := ⟨0x6C, onPP⟩
end Cmd

/-- The codes of the command table (10.7). -/
def commandCodes : List Nat :=
  [0x01, 0x02, 0x03, 0x04, 0x05, 0x06, 0x20, 0x21, 0x22, 0x23, 0x24, 0x40, 0x41, 0x42, 0x43, 0x44, 0x60, 0x61, 0x62,
    0x63, 0x64, 0x65, 0x66, 0x67, 0x68, 0x69, 0x6A, 0x6B, 0x6C]

/-! ### Enumerated operands -/

def rollPref? : Nat → Option RollPref
  | 0 => some .upper
  | 1 => some .lower
  | 2 => some .any
  | _ => none

def roll? : Nat → Option Roll
  | 0 => some .upper
  | 1 => some .lower
  | _ => none

def cutMode? : Nat → Option CutMode
  | 0 => some .cut
  | 1 => some .noCut
  | _ => none

def parkState? : Nat → Option ParkState
  | 0 => some .parked
  | 1 => some .away
  | _ => none

def urgency? : Nat → Option Urgency
  | 0 => some .now
  | 1 => some .gap
  | _ => none

/-- A head mask: bit h for head h, at least one head and none above H2. -/
def headMask? (n : Nat) : Option (Three Bool) :=
  if 0 < n ∧ n < 8 then some ⟨n.testBit 0, n.testBit 1, n.testBit 2⟩ else none

/-- A channel mask: bit c for channel c, at least one channel and none above ch5. -/
def channelMask? (n : Nat) : Option (Six Bool) :=
  if 0 < n ∧ n < 64 then
    some ⟨n.testBit 0, n.testBit 1, n.testBit 2, n.testBit 3, n.testBit 4, n.testBit 5⟩
  else none

/-- A number named twice in a list. -/
def namedTwice : List Nat → Bool
  | [] => false
  | n :: rest => rest.contains n || namedTwice rest

/-- The pair list of an ask or a report is in range: at most six pairs, channels 0..5, none named twice (R63, R78). -/
def pairsLegal (count : Nat) (pairs : List (Nat × Nat)) : Bool :=
  decide (count ≤ 6) && (pairs.all fun x => decide (x.1 ≤ 5)) && !namedTwice (pairs.map Prod.fst)

/-! ### Enumerated fields as returned -/

def boolCode (b : Bool) : Nat := if b then 1 else 0

/-- A set of heads as a mask. -/
def maskCode (m : Three Bool) : Nat := boolCode m.h0 + 2 * boolCode m.h1 + 4 * boolCode m.h2

def Mode.code : Mode → Nat
  | .start => 0
  | .run => 1
  | .sleep => 2

def ResetCause.code : ResetCause → Nat
  | .powerOn => 0
  | .resetLine => 1
  | .soft => 2

def LevelState.code : LevelState → Nat
  | .unknown => 0
  | .normal => 1
  | .deficit => 2
  | .starved => 3

def SupplyState.code : SupplyState → Nat
  | .unmapped => 0
  | .reservoirOnly => 1
  | .supplied => 2

def SessionState.code : SessionState → Nat
  | .idle => 0
  | .want => 1
  | .waitMark => 2
  | .stroke => 3
  | .suspended => 4

def SlotState.code : SlotState → Nat
  | .empty => 0
  | .identifying => 1
  | .active => 2
  | .standby => 3
  | .manual => 4
  | .spent => 5
  | .refused => 6
  | .faulted => 7
  | .unidentified => 8

def reasonCode : Option RefusalReason → Nat
  | none => 0
  | some .wrongInk => 1
  | some .badChip => 2
  | some .unmapped => 3

def WasteState.code : WasteState → Nat
  | .absent => 0
  | .identifying => 1
  | .ready => 2
  | .full => 3
  | .refused => 4
  | .faulted => 5

def JobKind.code : JobKind → Nat
  | .identify => 1
  | .mark => 2

def TicketState.code : TicketState → Nat
  | .queued => 1
  | .reserved => 2
  | .granted => 3
  | .firing => 4

def AdvanceState.code : AdvanceState → Nat
  | .pending => 0
  | .running => 1
  | .done => 2

def SheetState.code : SheetState → Nat
  | .queued => 1
  | .held => 2
  | .loading => 3
  | .printing => 4
  | .closing => 5
  | .cancelling => 6
  | .drying => 7
  | .cutting => 8

def loadStepCode : Option LoadStep → Nat
  | none => 0
  | some .swap => 1
  | some .margin => 2
  | some .noMedia => 3

def finishCode : Option FinishStep → Nat
  | none => 0
  | some .tail => 1
  | some .cut => 2

def SheetOutcome.code : SheetOutcome → Nat
  | .none => 0
  | .done => 1
  | .cancelled => 2
  | .mediaEnd => 3
  | .feedFault => 4

def rollCode : Roll → Nat
  | .upper => 0
  | .lower => 1

def rollOptCode : Option Roll → Nat
  | none => 255
  | some r => rollCode r

def RollPref.code : RollPref → Nat
  | .upper => 0
  | .lower => 1
  | .any => 2

def CutMode.code : CutMode → Nat
  | .cut => 0
  | .noCut => 1

def RollState.code : RollState → Nat
  | .absent => 0
  | .loaded => 1
  | .threaded => 2
  | .empty => 3

def PathState.code : PathState → Nat
  | .idle => 0
  | .advancing => 1
  | .swapping => 2
  | .cutting => 3
  | .fault => 4
  | .unthreaded => 5

def FeedCause.code : FeedCause → Nat
  | .none => 0
  | .jam => 1
  | .threadLost => 2
  | .rollRemoved => 3
  | .swapTimeout => 4
  | .cutTimeout => 5
  | .cutterAway => 6
  | .sensorMismatch => 7

def FeedKind.code : FeedKind → Nat
  | .advance => 1
  | .swap => 2
  | .cut => 3

def Purpose.code : Purpose → Nat
  | .ticket => 1
  | .margin => 2
  | .tail => 3
  | .load => 4
  | .cut => 5

def swapStageCode : Option SwapStage → Nat
  | none => 0
  | some .unthread => 1
  | some .select => 2
  | some .thread => 3

def StationState.code : StationState → Nat
  | .capped => 0
  | .uncapping => 1
  | .opened => 2
  | .capping => 3
  | .wiping => 4
  | .suction => 5
  | .fault => 6

def StationCause.code : StationCause → Nat
  | .none => 0
  | .awayReport => 1
  | .capTimeout => 2
  | .orderTimeout => 3
  | .sensor => 4

def MoveKind.code : MoveKind → Nat
  | .cap => 1
  | .uncap => 2
  | .wipe => 3

def OrderKind.code : OrderKind → Nat
  | .none => 0
  | .spit => 1
  | .check => 2
  | .park => 3

def originCode : Option OrderOrigin → Nat
  | none => 0
  | some .item => 1
  | some .station => 2

def parkCode : ParkState → Nat
  | .parked => 0
  | .away => 1

def Urgency.code : Urgency → Nat
  | .now => 0
  | .gap => 1

def CleanOrigin.code : CleanOrigin → Nat
  | .panel => 2
  | .health => 3
  | .exposure => 4
  | .idle => 5
  | .start => 6

def Stage.code : Stage → Nat
  | .park => 1
  | .cap => 2
  | .suction => 3
  | .uncap => 4
  | .wipe => 5
  | .spit => 6
  | .check => 7

def Grade.code : Grade → Nat
  | .good => 0
  | .fair => 1
  | .poor => 2

def LastSkip.code : LastSkip → Nat
  | .none => 0
  | .ink _ => 1
  | .waste => 2

def LastSkip.channel : LastSkip → Nat
  | .none => 0
  | .ink c => c.toNat
  | .waste => 0

/-- The service item's kind: SPIT, CHECK, CLEAN. -/
def Work.kindCode : Work → Nat
  | .spit _ => 1
  | .check _ => 2
  | .clean _ _ _ _ _ => 3

/-- The service item's origin: a SPIT's is PERIODIC, a CHECK has none. -/
def Work.originCode : Work → Nat
  | .spit _ => 1
  | .check _ => 0
  | .clean _ _ o _ _ => o.code

def Work.urgencyCode : Work → Nat
  | .spit _ => 0
  | .check _ => 0
  | .clean _ _ _ u _ => u.code

def Work.attempt : Work → Nat
  | .spit _ => 0
  | .check _ => 0
  | .clean _ _ _ _ a => a

def ReplyCode.code : ReplyCode → Nat
  | .none => 0x00
  | .accepted => 0x01
  | .clamped => 0x02
  | .unknownCommand => 0x10
  | .notThisPort => 0x11
  | .badOperand => 0x12
  | .full => 0x13
  | .noSuch => 0x14
  | .wrongState => 0x15
  | .locked => 0x16
  | .asleep => 0x17

/-! ### Tables (10.4) -/

def table? : Nat → Option TableId
  | 1 => some .channel
  | 2 => some .slot
  | 3 => some .linkJob
  | 4 => some .ticket
  | 5 => some .sheet
  | 6 => some .outcome
  | 7 => some .roll
  | 8 => some .station
  | 9 => some .service
  | 10 => some .health
  | 11 => some .dead
  | 12 => some .retired
  | _ => none

def TableId.places : TableId → Nat
  | .channel => 6
  | .slot => 8
  | .linkJob => 9
  | .ticket => 8
  | .sheet => 4
  | .outcome => 4
  | .roll => 2
  | .station => 1
  | .service => 6
  | .health => 7
  | .dead => 192
  | .retired => 96

def TableId.entryLength : TableId → Nat
  | .channel => 25
  | .slot => 31
  | .linkJob => 6
  | .ticket => 28
  | .sheet => 52
  | .outcome => 30
  | .roll => 10
  | .station => 31
  | .service => 10
  | .health => 5
  | .dead => 4
  | .retired => 3

def TableId.on : TableId → Port → Bool
  | .channel, p => p == .pp
  | .slot, p => p == .pp
  | .linkJob, p => p == .pp
  | .ticket, _ => true
  | .sheet, p => p != .cp
  | .outcome, p => p != .cp
  | .roll, p => p == .pp
  | .station, p => p == .pp
  | .service, p => p == .pp
  | .health, _ => true
  | .dead, _ => true
  | .retired, _ => true

end Sys2Proof.Machine
end

