-- ==== Sys2Proof/Machine/Tables.lean ====
section
/-!
DEFINITION. What a master reads: the status records (R170, R171), the entries of the twelve tables (10.4), the reply, the
event set and the carriage order as bytes. Multi-byte results run most significant byte first (10.1).
-/

namespace Sys2Proof.Machine

/-- A number in w bytes, most significant first. -/
def bytesBE : Nat → Nat → List Byte
  | 0, _ => []
  | w + 1, n => bytesBE w (n / 256) ++ [BitVec.ofNat 8 n]

def byte (n : Nat) : List Byte := bytesBE 1 n

/-- One number per channel, each in w bytes. -/
def sixBytes (w : Nat) (v : Six Nat) : List Byte := (v.toList.map (bytesBE w)).flatten

/-! ### Status (10.3) -/

/-- The part common to the three ports, 9 bytes (R170). -/
def State.statusCommon (s : State) (p : Port) : List Byte :=
  let r := s.ports.get p
  byte s.mode.mode.code ++ byte s.mode.cause.code ++ byte r.reply.seq ++ bytesBE 3 r.events.toNat ++
    bytesBE 3 r.mask.toNat

/-- The GRANTED or FIRING ticket. -/
def State.carriageTicket (s : State) : Option Ticket :=
  s.tickets.queue.find? fun t => t.state == .granted || t.state == .firing

def State.statusRP (s : State) : List Byte :=
  byte (Config.ticketPlaces - s.tickets.queue.length) ++ byte (s.oldest.elim 0 Ticket.number) ++
    byte (s.oldest.elim 0 fun t => t.state.code) ++ byte (Config.sheetPlaces - s.sheets.queue.length) ++
    byte (s.activeSheet.elim 0 Sheet.id) ++ byte (s.activeSheet.elim 0 fun h => h.state.code) ++
    byte (s.headSheet.elim 0 Sheet.id) ++ byte s.feed.path.code ++ byte (maskCode s.service.failed)

def State.statusCP (s : State) : List Byte :=
  byte (s.carriageTicket.elim 0 Ticket.number) ++ bytesBE 2 (s.carriageTicket.elim 0 Ticket.index) ++
    byte s.station.order.kind.code ++ byte (boolCode s.station.leavePermitted) ++ byte (parkCode s.station.park)

def pumpBytes : Pump → List Byte
  | .free => [0, 0]
  | .stroke r => byte 1 ++ byte r.channel.toNat
  | .suction r => byte 2 ++ byte r.head.toNat

def jobBytes (j : LinkJob) : List Byte :=
  byte j.pos.toNat ++ byte j.kind.code ++ byte j.target ++ byte j.attempts ++ byte j.busy

def opBytes : Option FeedOp → List Byte
  | none => [0, 0, 0, 0, 0, 0]
  | some o => byte o.kind.code ++ byte o.purpose.code ++ bytesBE 3 o.length ++ byte (swapStageCode o.stage)

def activeBytes : Option ActiveItem → List Byte
  | none => [0, 0]
  | some a => byte a.item.work.kindCode ++ byte (a.stages.head?.elim 0 Stage.code)

/-- R171, the Panel Port's part. PRESUMED (notes/assumptions/11.md): the states of the channels are sent channel by channel,
three bytes each. -/
def State.statusPP (s : State) : List Byte :=
  (Channel.all.map fun c =>
      byte (s.ledger.chan.get c).levelState.code ++ byte (s.supply.supplyState c).code ++
        byte (s.session c).state.code).flatten ++
    pumpBytes s.manifold.pump ++
    byte s.supply.waste.state.code ++ bytesBE 4 s.supply.waste.wcap ++ byte s.supply.waste.marks ++
    bytesBE 4 s.ledger.wa ++ bytesBE 4 s.ledger.wr ++ byte (boolCode s.ledger.uncovered) ++
    (match s.supply.link.jobs.head? with
      | none => [0, 0, 0, 0, 0]
      | some j => jobBytes j) ++
    byte s.feed.roll.upper.state.code ++ byte s.feed.roll.lower.state.code ++
    byte s.feed.path.code ++ byte (rollOptCode s.feed.pathRoll) ++ byte (rollCode s.pins.actuator) ++
    byte s.feed.cause.code ++ opBytes s.feed.op ++
    byte s.station.state.code ++ byte (parkCode s.station.park) ++
    (s.station.exposure.toList.map (bytesBE 4)).flatten ++ byte s.station.cause.code ++
    activeBytes s.service.active ++ byte s.service.queue.length ++ byte (maskCode s.service.failed) ++
    byte s.service.sheetCount ++ bytesBE 2 s.nozzles.generation ++ byte (boolCode s.mode.lock)

/-- R170, R171: the port's status record. -/
def State.status (s : State) (p : Port) : List Byte :=
  s.statusCommon p ++
    match p with
    | .rp => s.statusRP
    | .cp => s.statusCP
    | .pp => s.statusPP

/-- R169. -/
def replyBytes (r : Reply) : List Byte :=
  byte r.seq ++ byte r.command ++ byte r.outcome.code ++ bytesBE 4 r.value

/-- R127: what GET_ORDER returns. -/
def orderBytes (o : Order) : List Byte := byte o.kind.code ++ byte (maskCode o.mask) ++ byte o.drops

/-! ### Table entries (10.4), after the tag -/

/-- R1. PRESUMED (notes/assumptions/11.md): the order of the fields, and the four bytes of L, Rs, Rv and the stroke volume, which
the entry length of 25 asks for. -/
def State.channelEntry (s : State) (c : Channel) : List Byte :=
  let r := s.ledger.chan.get c
  bytesBE 4 r.level ++ bytesBE 2 r.carry ++ bytesBE 4 r.rs ++ bytesBE 4 r.rv ++ byte r.dv ++ byte r.levelState.code ++
    byte (s.supply.supplyState c).code ++ byte (boolCode (s.session c).demand) ++ byte (s.session c).state.code ++
    match s.manifold.pump with
    | .stroke q =>
      if q.channel == c && (s.session c).state == .stroke then bytesBE 4 q.volume ++ byte q.source.toNat
      else [0, 0, 0, 0, 0]
    | .free => [0, 0, 0, 0, 0]
    | .suction _ => [0, 0, 0, 0, 0]

def identityBytes : Option Identity → List Byte
  | none => List.replicate 12 0
  | some i =>
    [i.kind, i.colour, i.capCode] ++ bytesBE 4 i.lot.toNat ++ bytesBE 5 i.serial.toNat

/-- R39, R40. PRESUMED (notes/assumptions/11.md): the order of the fields, with the map entry before and the remaining after the
fields of the record. -/
def State.slotEntry (s : State) (k : SlotId) : List Byte :=
  let r := s.supply.slot.get k
  byte ((s.supply.map.get k).elim 255 Channel.toNat) ++ byte r.state.code ++ identityBytes r.identity ++
    bytesBE 4 r.capacity ++ byte r.marks ++ bytesBE 4 r.drawn ++ byte (boolCode r.manual) ++ byte (reasonCode r.reason) ++
    byte (boolCode r.low) ++ bytesBE 4 r.remaining

/-- R61. -/
def ticketEntry (t : Ticket) : List Byte :=
  byte t.number ++ byte t.sheet ++ bytesBE 2 t.index ++ bytesBE 3 t.advance ++ byte t.adv.code ++ byte t.state.code ++
    sixBytes 3 t.need

/-- The dry time left in whole seconds; the rounding is a free value (notes/assumptions/8.md). -/
def dryShown (ms : Nat) : Nat :=
  if ms % 1000 = 0 then ms / 1000 else if Config.dryShownRoundsUp ms then ms / 1000 + 1 else ms / 1000

/-- R97. -/
def sheetEntry (h : Sheet) : List Byte :=
  byte h.id ++ byte h.pref.code ++ byte h.media ++ bytesBE 2 h.width ++ bytesBE 2 h.planned ++ bytesBE 2 h.top ++
    bytesBE 2 h.bottom ++ bytesBE 2 h.dry ++ byte h.cut.code ++ bytesBE 2 h.final ++ byte h.state.code ++
    byte (rollOptCode h.roll) ++ byte (loadStepCode h.loadStep) ++ byte (finishCode h.finish) ++
    bytesBE 2 (dryShown h.dryLeft) ++ bytesBE 4 h.printed ++ sixBytes 4 h.ink ++ byte h.outcome.code

/-- R116. -/
def outcomeEntry (e : OutcomeEntry) : List Byte :=
  byte e.id ++ byte e.outcome.code ++ bytesBE 3 e.printedMm ++ sixBytes 4 e.ink

/-- R80; a remaining that is UNKNOWN reads 0FFFFFFFFh (10.4). -/
def rollEntry (x : RollRec) : List Byte :=
  byte x.state.code ++ byte (boolCode x.described) ++ byte x.media ++ bytesBE 2 x.width ++
    bytesBE 4 (x.remaining.getD Config.max32)

/-- R117. PRESUMED (notes/assumptions/11.md): the move's kind is sent without its timer, for which the entry length of 31 leaves no
room. -/
def stationEntry (t : Station) : List Byte :=
  byte t.state.code ++ byte (parkCode t.park) ++ (t.exposure.toList.map (bytesBE 4)).flatten ++
    byte (maskCode t.spitSent) ++ byte (maskCode t.cleanSent) ++ bytesBE 3 t.capDelayLeft ++ byte (boolCode t.capDue) ++
    byte (t.move.elim 0 fun m => m.kind.code) ++
    (match t.suction with
      | none => [0, 0, 0]
      | some r => byte r.head.toNat ++ byte r.level ++ byte (if r.running then 2 else 1)) ++
    byte t.order.kind.code ++ byte (maskCode t.order.mask) ++ byte t.order.drops ++ byte (originCode t.order.origin) ++
    byte t.failures ++ byte t.cause.code

/-- R134: an item's fields, its last skip, and in the last byte its place or, for the active item, its stage; the head of
a CLEAN is sent as a mask of that head alone. PRESUMED (notes/assumptions/11.md). -/
def itemEntry (i : Item) (last : Nat) : List Byte :=
  byte i.work.kindCode ++ byte (maskCode i.work.heads) ++ byte i.work.level ++ byte i.work.originCode ++
    byte i.work.urgencyCode ++ byte i.work.attempt ++ byte i.skip.code ++ byte i.skip.channel ++ byte last

/-- R162. -/
def nozzleEntry (r : NozzleRec) : List Byte :=
  byte r.dead.length ++ byte r.retired.length ++ byte (boolCode r.overflow) ++ byte r.grade.code

/-- The fields of a place that holds an item, after the tag; none for an empty place. -/
def State.placeFields (s : State) (t : TableId) (n : Nat) : Option (List Byte) :=
  match t with
  | .channel => (Channel.ofNat? n).map s.channelEntry
  | .slot => (SlotId.ofNat? n).map s.slotEntry
  | .linkJob => s.supply.link.jobs[n]?.map jobBytes
  | .ticket => s.tickets.queue[n]?.map ticketEntry
  | .sheet => s.sheets.queue[n]?.map sheetEntry
  | .outcome => s.sheets.outcomes[n]?.map outcomeEntry
  | .roll => (roll? n).map fun r => rollEntry (s.feed.roll.get r)
  | .station => some (stationEntry s.station)
  | .service =>
    if n = 5 then
      s.service.active.map fun a => itemEntry a.item (a.stages.head?.elim 0 Stage.code)
    else s.service.queue[n]?.map fun i => itemEntry i n
  | .health =>
    if n = 0 then some (bytesBE 2 s.nozzles.generation ++ [0, 0])
    else (Channel.ofNat? (n - 1)).map fun c => nozzleEntry (s.nozzles.chan.get c)
  | .dead =>
    match Channel.ofNat? (n / 32) with
    | none => none
    | some c => (s.nozzles.chan.get c).dead[n % 32]?.map fun d => bytesBE 2 d.nozzle ++ byte d.misses
  | .retired =>
    match Channel.ofNat? (n / 16) with
    | none => none
    | some c => (s.nozzles.chan.get c).retired[n % 16]?.map fun x => bytesBE 2 x

/-- An entry with its tag: 01h for an item, 00h for an empty place, 0FFh for the end (10.4). -/
def State.tableEntry (s : State) (t : TableId) (n : Nat) : List Byte :=
  if t.places ≤ n then List.replicate t.entryLength 0xFF
  else
    match s.placeFields t n with
    | some fields => 1 :: fields
    | none => List.replicate t.entryLength 0

/-- R173: the entries a TABLE_READ of k entries streams from a cursor. -/
def State.stream (s : State) : Option Cursor → Nat → List Byte
  | none, k => List.replicate k 0xFF
  | some c, k => ((List.range k).map fun i => s.tableEntry c.table (c.place + i)).flatten

/-- R173: the cursor after `bits` bits of entries: one place for each entry sent whole, and no further than the end. -/
def Cursor.advance (c : Cursor) (bits : Nat) : Cursor :=
  { c with place := if c.table.places ≤ c.place then c.place
                    else min c.table.places (c.place + bits / (8 * c.table.entryLength)) }

end Sys2Proof.Machine
end

