-- ==== Sys2Proof/Machine/Ports.lean ====
section
/-!
DEFINITION. Transactions (10.1, 10.2): what the hub drives on data out, the three tests of R167, replies, and the frame in
which every port command is taken.
-/

namespace Sys2Proof.Machine

def State.modPort (s : State) (p : Port) (f : PortRec → PortRec) : State := s.setPorts (s.ports.set p (f (s.ports.get p)))

/-! ### Data out (R166) -/

/-- The first bits of a byte, most significant bit first. -/
def topBits (r : Nat) (b : Byte) : Byte := b &&& (0xFF : Byte) <<< (8 - r)

/-- Data as `bits` clocks send it: bytes past its end read 00h, and the last byte is cut to the bits clocked. -/
def clockOut : Nat → List Byte → List Byte
  | 0, _ => []
  | bits + 1, data =>
    let whole := (bits + 1) / 8
    let sent := data.take whole ++ List.replicate (whole - data.length) 0
    if (bits + 1) % 8 = 0 then sent else sent ++ [topBits ((bits + 1) % 8) (data[whole]?.getD 0)]

/-- A transaction of a port: during the command byte its reply sequence number is sent, then the data. -/
def PortRec.drove (r : PortRec) (data : List Byte) (bits : Nat) : PortRec :=
  { r with out := BitVec.ofNat 8 r.reply.seq :: clockOut bits data, outBits := 8 + bits }

/-- A part of a transaction that is under way already sends its data after what was sent before. -/
def PortRec.drives (r : PortRec) (opened : Bool) (data : List Byte) (bits : Nat) : PortRec :=
  if opened then { r with out := r.out ++ clockOut bits data, outBits := r.outBits + bits } else r.drove data bits

/-! ### Replies (R168) -/

/-- What a taken command leaves: the state it makes, the outcome and the value of its reply. -/
structure Answer where
  after : State
  code : ReplyCode
  value : Nat

/-- A refused command changes nothing and replies with value 0 (R168). -/
def Answer.refuse (s : State) (c : ReplyCode) : Answer := { after := s, code := c, value := 0 }

def Answer.accept (t : State) : Answer := { after := t, code := .accepted, value := 0 }

/-- The reply record after a write (R168): the sequence advances by one, wrapping from 255 to 1. -/
def Reply.next (r : Reply) (command : Nat) (code : ReplyCode) (value : Nat) : Reply :=
  { seq := nextByte r.seq, command := command, outcome := code, value := value }

/-- A port record whose transaction sent n bytes of 00h after the sequence number and ended with a reply. -/
def PortRec.answered (r old : PortRec) (command : Nat) (code : ReplyCode) (value n : Nat) : PortRec :=
  { r with
    reply := old.reply.next command code value
    out := BitVec.ofNat 8 old.reply.seq :: List.replicate n 0
    outBits := 8 + 8 * n }

/-- The state a command has made, with its reply on the port it was taken on. -/
def State.replied (t s : State) (p : Port) (command : Nat) (code : ReplyCode) (value n : Nat) : State :=
  t.modPort p fun r => r.answered (s.ports.get p) command code value n

/-! ### The frame of a transaction (R164 to R167) -/

/-- A write command with n operand bytes is taken: while the reset line is held nothing is; a command of another port is
answered NOT_THIS_PORT and any other in SLEEP ASLEEP, and both wake the hub; otherwise its owning rule decides. -/
def State.takeWrite (s : State) (p : Port) (cmd : Command) (n : Nat) (decide : State → Answer) : State :=
  if s.pins.resetLow then s
  else if !cmd.ports p then (s.replied s p cmd.code .notThisPort 0 n).wake
  else if s.inSleep then (s.replied s p cmd.code .asleep 0 n).wake
  else (decide s).after.replied s p cmd.code (decide s).code (decide s).value n

/-- A read command that clocks `bits` bits after the command byte. In SLEEP it is answered ASLEEP by the reply record,
sends 00h and wakes the hub; on a port it does not belong to it is taken at a byte boundary alone. DEDUCED
(notes/assumptions/23.md). -/
def State.takeRead (s : State) (p : Port) (cmd : Command) (bits : Nat) (data : List Byte) (act : State → State) : State :=
  if s.pins.resetLow then s
  else if !cmd.ports p then
    (s.modPort p fun r =>
      let r' := if bits % 8 = 0 then { r with reply := r.reply.next cmd.code .notThisPort 0 } else r
      { r' with out := (r.drove [] bits).out, outBits := 8 + bits }).wake
  else if s.inSleep then
    (s.modPort p fun r =>
      { r with
        reply := r.reply.next cmd.code .asleep 0, out := (r.drove [] bits).out, outBits := 8 + bits }).wake
  else (act s).modPort p fun r => r.drove data bits

/-- A read begins or goes on in SLEEP's way: it began while the hub slept (R167, test 3). -/
def State.readsAsleep (s : State) (p : Port) : Bool :=
  match (s.ports.get p).reading with
  | none => s.inSleep
  | some x => x == .asleep

/-- A part of a GET_EVENTS or a TABLE_READ, both commands of every port, with what it does to the port's record. DESIGN CHOICE
(notes/assumptions/6.md): the test of the mode is made as the read begins; one that began in SLEEP sends 00h to its end and is
answered ASLEEP at its rise. The rise wakes a hub that sleeps (R181). -/
def State.takePart (s : State) (p : Port) (cmd : Command) (c : Clocks) (data : List Byte) (act : PortRec → PortRec) :
    State :=
  let opened := (s.ports.get p).reading.isSome
  if s.pins.resetLow then s
  else if s.readsAsleep p then
    (s.modPort p fun r =>
      let r' := { r.drives opened [] c.bits with reading := if c.rises then none else some .asleep }
      if c.rises then { r' with reply := r.reply.next cmd.code .asleep 0 } else r').when c.rises State.wake
  else (s.modPort p fun r => act (r.drives opened data c.bits)).when c.rises State.wake

/-- R165: a discarded transaction of so many bits in all. No clock edge is no transaction. -/
def State.discard (s : State) (p : Port) (bits : Nat) : State :=
  if s.pins.resetLow || bits == 0 then s
  else
    ((s.modPort p fun r =>
      { r with out := clockOut bits [BitVec.ofNat 8 r.reply.seq], outBits := bits }).raiseOn p .frameError).wake

end Sys2Proof.Machine
end

