-- ==== Sys2Proof/Machine/Common.lean ====
section
/-!
DEFINITION. The meanings of the commands common to all ports and of transactions that are no command (10.1 to 10.5).
-/

namespace Sys2Proof.Machine

/-- FRAME_ERROR: a transaction is discarded (R165). -/
def execFrameError (p : Port) (bits : Nat) (s : State) : Host.Outcome State Fault Refusal := .next (s.discard p bits)

/-- R167, tests 1 and 2: a code outside the command table, and one of another port. -/
def strangeCode (code : Nat) : ReplyCode := if commandCodes.contains code then .notThisPort else .unknownCommand

/-- UNKNOWN_COMMAND (R167, tests 1 and 2): taken at any byte boundary after the command byte. DEDUCED
(notes/assumptions/24.md): each byte that follows is answered with 00h. -/
def execUnknownCommand (p : Port) (code : StrayCode) (s : State) : Host.Outcome State Fault Refusal :=
  .next (if s.pins.resetLow then s else (s.replied s p code.value (strangeCode code.value) 0 code.bytes).wake)

/-- GET_STATUS (R170, R171): answered in every mode; it changes nothing and does not wake the hub. -/
def execGetStatus (p : Port) (bits : Nat) (s : State) : Host.Outcome State Fault Refusal :=
  .next (if s.pins.resetLow then s else s.modPort p fun r => r.drove (s.status p) bits)

/-- GET_REPLY (R169). -/
def execGetReply (p : Port) (bits : Nat) (s : State) : Host.Outcome State Fault Refusal :=
  .next (s.takeRead p Cmd.getReply bits (replyBytes (s.ports.get p).reply) id)

/-- R175: what a GET_EVENTS under way has captured, the kinds latched since, and the bytes it has sent; one that begins
captures the set. -/
def PortRec.captured (r : PortRec) : BitVec 24 × BitVec 24 × Nat :=
  match r.reading with
  | some (.events returned newer sent) => (returned, newer, sent)
  | some (.table _) | some .asleep | none => (r.events, 0, 0)

/-- R175: at the rise the kinds that were returned, but for those latched since, are removed when all three bytes have been
sent; while select stays low the read goes on. -/
def PortRec.readEvents (r : PortRec) (returned newer : BitVec 24) (sent : Nat) (c : Clocks) : PortRec :=
  match c with
  | .rise bits =>
    { r with
      events := if 24 ≤ 8 * sent + bits then r.events &&& ~~~(returned &&& ~~~newer) else r.events, reading := none }
  | .hold bytes => { r with reading := some (.events returned newer (sent + bytes)) }

/-- GET_EVENTS (R175), whole or in parts. -/
def execGetEvents (p : Port) (c : Clocks) (s : State) : Host.Outcome State Fault Refusal :=
  let x := (s.ports.get p).captured
  .next (s.takePart p Cmd.getEvents c ((bytesBE 3 x.1.toNat).drop x.2.2) fun r => r.readEvents x.1 x.2.1 x.2.2 c)

/-- R176: position 23 is stored as 0. -/
def storedMask (m : BitVec 24) : BitVec 24 := m &&& 0x7FFFFF

def decideSetEventMask (p : Port) (m : BitVec 24) (s : State) : Answer :=
  { after := s.modPort p fun r => { r with mask := storedMask m }, code := .accepted, value := (storedMask m).toNat }

/-- SET_EVENT_MASK (R176). -/
def execSetEventMask (p : Port) (m : BitVec 24) (s : State) : Host.Outcome State Fault Refusal :=
  .next (s.takeWrite p Cmd.setEventMask 3 (decideSetEventMask p m))

/-- R172. DEDUCED (notes/assumptions/19.md): a table not given to the port is refused as such before the place is tested. -/
def decideTableSel (p : Port) (table place : Nat) (s : State) : Answer :=
  match table? table with
  | none => Answer.refuse s .badOperand
  | some t =>
    if !t.on p then Answer.refuse s .notThisPort
    else if t.places < place then Answer.refuse s .badOperand
    else
      { after := s.modPort p fun r => { r with cursor := some { table := t, place := place } }, code := .accepted,
        value := t.places }

/-- TABLE_SEL (R172). -/
def execTableSel (p : Port) (table place : Nat) (s : State) : Host.Outcome State Fault Refusal :=
  .next (s.takeWrite p Cmd.tableSel 3 (decideTableSel p table place))

/-- The bytes left of the entry that a TABLE_READ under way has begun; none where none has begun. -/
def PortRec.entryLeft (r : PortRec) : List Byte :=
  match r.reading with
  | some (.table rest) => rest
  | some (.events _ _ _) | some .asleep | none => []

/-- The length of the entries a cursor gives; with no table selected the end entries are of one byte (R173). -/
def entryLength (c : Option Cursor) : Nat := c.elim 1 fun x => x.table.entryLength

/-- How many bytes of the entry under way have been sent, given those left of it. -/
def entrySent (c : Option Cursor) (rest : List Byte) : Nat := if rest.isEmpty then 0 else entryLength c - rest.length

/-- R162, R173: what a part of a TABLE_READ sends: the rest of the entry that has begun, as it was captured, and then entries
as they stand now. -/
def State.entriesFrom (s : State) (c : Option Cursor) (rest : List Byte) (k : Nat) : List Byte :=
  if rest.isEmpty then s.stream c k else rest ++ s.stream (c.map fun x => { x with place := x.place + 1 }) k

/-- R173: the cursor moves by a place as the last bit of each entry is sent. At the rise an entry cut short is forgotten;
while select stays low the rest of it is kept as it was captured. -/
def PortRec.readTable (r : PortRec) (c : Option Cursor) (rest data : List Byte) (k : Clocks) : PortRec :=
  let sent := entrySent c rest
  { r with
    cursor := c.map fun x => x.advance (8 * sent + k.bits)
    reading := match k with
      | .rise _ => none
      | .hold bytes =>
        some (.table ((data.drop bytes).take ((entryLength c - (sent + bytes) % entryLength c) % entryLength c))) }

/-- TABLE_READ (R173), whole or in parts. -/
def execTableRead (p : Port) (k : Clocks) (s : State) : Host.Outcome State Fault Refusal :=
  let r := s.ports.get p
  let data := s.entriesFrom r.cursor r.entryLeft (k.bits / (8 * entryLength r.cursor) + 1)
  .next (s.takePart p Cmd.tableRead k data fun x => x.readTable r.cursor r.entryLeft data k)

end Sys2Proof.Machine
end

