-- ==== Sys2Proof/Machine/Raster.lean ====
section
/-!
DEFINITION. The meanings of the Raster Port's commands: sheets and swaths (chapters 4 and 6).
-/

namespace Sys2Proof.Machine

def between (lo n hi : Nat) : Bool := decide (lo ≤ n) && decide (n ≤ hi)

/-! ### SHEET_OPEN -/

/-- R100, test 3, but for the two enumerated operands. -/
def sheetOperandsLegal (media width planned top bottom : Nat) : Bool :=
  decide (media ≤ 15) && between 210 width 1120 && decide (planned ≤ 30000) && between 3 top 500 && between 3 bottom 500

/-- R100. -/
def decideSheetOpen (pref media width planned top bottom dry mode : Nat) (s : State) : Answer :=
  if s.inStart then Answer.refuse s .wrongState
  else
    match rollPref? pref, cutMode? mode with
    | some rp, some cm =>
      if !sheetOperandsLegal media width planned top bottom then Answer.refuse s .badOperand
      else if Config.sheetPlaces ≤ s.sheets.queue.length then Answer.refuse s .full
      else
        { after := (s.appendSheet rp media width planned top bottom (min dry 600) cm).settle,
          code := if 600 < dry then .clamped else .accepted, value := s.sheetId }
    | _, _ => Answer.refuse s .badOperand

/-- SHEET_OPEN (R100). -/
def execSheetOpen (p : Port) (pref media width planned top bottom dry mode : Nat) (s : State) :
    Host.Outcome State Fault Refusal :=
  .next (s.takeWrite p Cmd.sheetOpen 13 (decideSheetOpen pref media width planned top bottom dry mode))

/-! ### SHEET_CLOSE -/

/-- R106, test 7: a final length above 0 that is out of its bounds. -/
def State.finalOutOfBounds (s : State) (h : Sheet) (final : Nat) : Bool :=
  decide (final * 1000 < s.committed h) || decide (s.committed h + (500 - h.bottom) * 1000 < final * 1000) ||
    (h.planned != 0 && decide (h.planned * 1000 < final * 1000))

/-- R106. -/
def decideSheetClose (id final : Nat) (s : State) : Answer :=
  if s.inStart then Answer.refuse s .wrongState
  else if id = 0 ∨ 30000 < final then Answer.refuse s .badOperand
  else
    match s.findSheet id with
    | none => Answer.refuse s .noSuch
    | some h =>
      if h.state ≠ .printing then Answer.refuse s .wrongState
      else if 0 < final ∧ (h.cut = .noCut ∨ s.finalOutOfBounds h final = true) then Answer.refuse s .badOperand
      else Answer.accept (s.modSheet id fun x => { x with state := .closing, final := final }).settle

/-- SHEET_CLOSE (R106). -/
def execSheetClose (p : Port) (id final : Nat) (s : State) : Host.Outcome State Fault Refusal :=
  .next (s.takeWrite p Cmd.sheetClose 3 (decideSheetClose id final))

/-! ### SHEET_CANCEL -/

/-- R113. -/
def decideSheetCancel (id : Nat) (s : State) : Answer :=
  if s.inStart then Answer.refuse s .wrongState
  else if id = 0 then Answer.refuse s .badOperand
  else
    match s.findSheet id with
    | none => Answer.refuse s .noSuch
    | some h =>
      match h.state with
      | .drying | .cutting | .cancelling => Answer.refuse s .wrongState
      | .queued | .held => Answer.accept (s.removeSheet id .cancelled).settle
      | .loading | .printing | .closing => Answer.accept (s.cancelSheet id .cancelled).settle

/-- SHEET_CANCEL (R113), on the Raster Port and on the Panel Port. -/
def execSheetCancel (p : Port) (id : Nat) (s : State) : Host.Outcome State Fault Refusal :=
  .next (s.takeWrite p Cmd.sheetCancel 1 (decideSheetCancel id))

/-! ### SWATH_ASK -/

/-- R63, test 3. -/
def askLegal (sheet advance count : Nat) (pairs : List (Nat × Nat)) : Bool :=
  between 1 advance 100000 && pairsLegal count pairs && sheet != 0

/-- R22: a need above Cap − F − S. -/
def State.needTooLarge (s : State) (need : Six Nat) : Bool :=
  Channel.all.any fun c => decide (Config.cap - s.params.floor - s.params.reserve < need.get c)

/-- R63, test 8. -/
def State.overPlanned (s : State) (h : Sheet) (advance : Nat) : Bool :=
  h.planned != 0 && decide (h.planned * 1000 < s.committed h + advance)

/-- R63, test 9: a head of the set is FAILED. -/
def State.usesFailed (s : State) (need : Six Nat) : Bool :=
  Channel.all.any fun c => decide (0 < need.get c) && s.service.failed.get c.head

/-- LOADING or PRINTING (R63, test 5). -/
def SheetState.takesSwaths : SheetState → Bool
  | .loading | .printing => true
  | .queued | .held | .closing | .cancelling | .drying | .cutting => false

/-- R63. -/
def decideSwathAsk (sheet index advance count : Nat) (pairs : List (Nat × Nat)) (s : State) : Answer :=
  if s.inStart then Answer.refuse s .wrongState
  else if !askLegal sheet advance count pairs then Answer.refuse s .badOperand
  else
    match s.findSheet sheet with
    | none => Answer.refuse s .noSuch
    | some h =>
      let need := s.needs (pairCounts pairs)
      if !h.state.takesSwaths then Answer.refuse s .wrongState
      else if Config.ticketPlaces ≤ s.tickets.queue.length then Answer.refuse s .full
      else if s.needTooLarge need || s.overPlanned h advance then Answer.refuse s .badOperand
      else if s.usesFailed need then Answer.refuse s .wrongState
      else
        { after := (s.appendTicket sheet index advance (pairCounts pairs)).settle, code := .accepted,
          value := s.ticketNumber }

/-- SWATH_ASK (R63): 7 + 5k operand bytes; a count above 6 ends them. -/
def execSwathAsk (p : Port) (sheet index advance count : Nat) (pairs : List (Nat × Nat)) (s : State) :
    Host.Outcome State Fault Refusal :=
  .next (s.takeWrite p Cmd.swathAsk (7 + 5 * pairs.length) (decideSwathAsk sheet index advance count pairs))

/-! ### SWATH_WITHDRAW -/

/-- R74. -/
def decideSwathWithdraw (n : Nat) (s : State) : Answer :=
  if s.inStart then Answer.refuse s .wrongState
  else
    match s.findTicket n with
    | none => Answer.refuse s .noSuch
    | some t =>
      if t.state = .firing then Answer.refuse s .wrongState
      else Answer.accept (s.removeTickets fun x => x.number == n).settle

/-- SWATH_WITHDRAW (R74). -/
def execSwathWithdraw (p : Port) (n : Nat) (s : State) : Host.Outcome State Fault Refusal :=
  .next (s.takeWrite p Cmd.swathWithdraw 1 (decideSwathWithdraw n))

end Sys2Proof.Machine
end

