-- ==== Sys2Proof/Machine/Carriage.lean ====
section
/-!
DEFINITION. The meanings of the Carriage Port's commands: takes and reports of swaths, parking, orders (chapters 4 and 7).
-/

namespace Sys2Proof.Machine

/-- R71: a GRANTED ticket becomes FIRING and its swath timer starts. -/
def State.takeTicket (s : State) (n : Nat) : State :=
  let s1 := s.modTicket n fun t => { t with state := .firing }
  s1.setTickets { s1.tickets with swathLeft := some (s.params.swathTimeout * 1000) }

/-- R71. -/
def decideSwathTake (n : Nat) (s : State) : Answer :=
  if s.inStart then Answer.refuse s .wrongState
  else
    match s.findTicket n with
    | none => Answer.refuse s .noSuch
    | some t =>
      if n = 0 then Answer.refuse s .noSuch
      else if t.state = .granted then Answer.accept (s.takeTicket n).settle
      else Answer.refuse s .wrongState

/-- SWATH_TAKE (R71). -/
def execSwathTake (p : Port) (n : Nat) (s : State) : Host.Outcome State Fault Refusal :=
  .next (s.takeWrite p Cmd.swathTake 1 (decideSwathTake n))

/-- R78. -/
def decideSwathDone (n count : Nat) (pairs : List (Nat × Nat)) (s : State) : Answer :=
  if s.inStart then Answer.refuse s .wrongState
  else if !pairsLegal count pairs then Answer.refuse s .badOperand
  else
    match s.findTicket n with
    | none => Answer.refuse s .noSuch
    | some t =>
      if n = 0 then Answer.refuse s .noSuch
      else if t.state = .firing then Answer.accept (s.settleTicket t pairs).settle
      else Answer.refuse s .wrongState

/-- SWATH_DONE (R78): 2 + 5k operand bytes. -/
def execSwathDone (p : Port) (n count : Nat) (pairs : List (Nat × Nat)) (s : State) : Host.Outcome State Fault Refusal :=
  .next (s.takeWrite p Cmd.swathDone (2 + 5 * pairs.length) (decideSwathDone n count pairs))

/-! ### PARK_STATE -/

/-- R118, R127: PARKED satisfies a PARK order that stands. -/
def State.reportParked (s : State) : State :=
  let s1 := s.setStation { s.station with park := .parked }
  s1.when (s.station.order.kind == .park) State.finishOrder

/-- R118: AWAY in a state in which the carriage may not leave puts the station in FAULT. -/
def State.reportAway (s : State) : State :=
  let s1 := s.setStation { s.station with park := .away }
  match s.station.state with
  | .opened | .fault => s1
  | .capped | .uncapping | .capping | .wiping | .suction => s1.enterFault .awayReport

/-- R118. -/
def decideParkState (code : Nat) (s : State) : Answer :=
  match parkState? code with
  | none => Answer.refuse s .badOperand
  | some .parked => Answer.accept s.reportParked.settle
  | some .away => Answer.accept s.reportAway.settle

/-- PARK_STATE (R118). -/
def execParkState (p : Port) (code : Nat) (s : State) : Host.Outcome State Fault Refusal :=
  .next (s.takeWrite p Cmd.parkState 1 (decideParkState code))

/-! ### Orders -/

/-- GET_ORDER (R127). -/
def execGetOrder (p : Port) (bits : Nat) (s : State) : Host.Outcome State Fault Refusal :=
  .next (s.takeRead p Cmd.getOrder bits (orderBytes s.station.order) id)

/-- R129, test 3, of a SPIT's results. -/
def spitLegal (count : Nat) (pairs : List (Nat × Nat)) : Bool := pairsLegal count pairs

/-- R129, test 3, of a CHECK's results: at most six reports, channels 0..5, none named twice, an overflow flag that is a
code (DEDUCED, notes/assumptions/15.md), at most 64 nozzles each. -/
def checkLegal (count : Nat) (reports : List CheckReport) : Bool :=
  decide (count ≤ 6) &&
    (reports.all fun r => decide (r.channel ≤ 5) && decide (r.overflow ≤ 1) && decide (r.count ≤ 64)) &&
    !namedTwice (reports.map CheckReport.channel)

/-- A channel named that is not a channel of the order's heads (R129, test 5). -/
def namesOutside (m : Three Bool) (channels : List Nat) : Bool :=
  channels.any fun n => !(Channel.ofNat? n).any (maskHas m)

/-- R129, test 6: a channel of the order's heads is not named, or a nozzle index of 512 or above. -/
def checkIncomplete (m : Three Bool) (reports : List CheckReport) : Bool :=
  (Channel.all.any fun c => maskHas m c && (reportOf reports c).isNone) ||
    reports.any fun r => r.missing.any fun n => decide (Config.nozzles ≤ n)

/-- R129, R143: an accepted SPIT. -/
def State.spitDone (s : State) (pairs : List (Nat × Nat)) : State :=
  (((s.settleSpit s.station.order.mask pairs).resetExposures s.station.order.mask).finishOrder).endStage

/-- R129, R144: an accepted CHECK. -/
def State.checkDone (s : State) (reports : List CheckReport) : State := ((s.applyCheck reports).finishOrder).endStage

/-- R129 for a SPIT. -/
def decideSpitDone (count : Nat) (pairs : List (Nat × Nat)) (s : State) : Answer :=
  if !spitLegal count pairs then Answer.refuse s .badOperand
  else if s.station.order.kind ≠ .spit then Answer.refuse s .wrongState
  else if namesOutside s.station.order.mask (pairs.map Prod.fst) then Answer.refuse s .badOperand
  else Answer.accept (s.spitDone pairs).settle

/-- R129 for a CHECK. -/
def decideCheckDone (count : Nat) (reports : List CheckReport) (s : State) : Answer :=
  if !checkLegal count reports then Answer.refuse s .badOperand
  else if s.station.order.kind ≠ .check then Answer.refuse s .wrongState
  else if namesOutside s.station.order.mask (reports.map CheckReport.channel) then Answer.refuse s .badOperand
  else if checkIncomplete s.station.order.mask reports then Answer.refuse s .badOperand
  else Answer.accept (s.checkDone reports).settle

/-- R129. -/
def decideOrderDone (kind count : Nat) (pairs : List (Nat × Nat)) (reports : List CheckReport) (s : State) : Answer :=
  if s.inStart then Answer.refuse s .wrongState
  else if kind = 1 then decideSpitDone count pairs s
  else if kind = 2 then decideCheckDone count reports s
  else Answer.refuse s .badOperand

/-- The operand bytes of an ORDER_DONE: kind and count, then pairs, or reports with their lists; any other kind ends them
at the kind byte (R164). -/
def orderDoneBytes (kind : Nat) (pairs : List (Nat × Nat)) (reports : List CheckReport) : Nat :=
  if kind = 1 then 2 + 5 * pairs.length
  else if kind = 2 then 2 + (reports.map fun r => 3 + 2 * r.missing.length).sum
  else 1

/-- ORDER_DONE (R129). -/
def execOrderDone (p : Port) (kind count : Nat) (pairs : List (Nat × Nat)) (reports : List CheckReport) (s : State) :
    Host.Outcome State Fault Refusal :=
  .next (s.takeWrite p Cmd.orderDone (orderDoneBytes kind pairs reports) (decideOrderDone kind count pairs reports))

end Sys2Proof.Machine
end

