-- ==== Sys2Proof/Machine/Resets.lean ====
section
/-!
DEFINITION. Power-on, the reset line and the soft reset (11.1, 11.4, and the reset rules R18, R38, R60, R79, R95 to R97,
R133, R151, R163, R177 of the blocks).
-/

namespace Sys2Proof.Machine

/-! ### Power-on and the reset line (R178) -/

/-- R40, R49, R60: the slot and supply-link unit as the presence sensors show it. -/
def supplyAtPower (pins : Pins) : Supply :=
  let here : List LinkPos := (SlotId.all.filter pins.slotPresent.get).map LinkPos.slot ++
    (if pins.wastePresent then [LinkPos.waste] else [])
  { map := defaultMap
    slot := Eight.tab fun k =>
      if pins.slotPresent.get k then { SlotRec.cleared with state := .identifying } else SlotRec.cleared
    waste := if pins.wastePresent then { WasteRec.cleared with state := .identifying } else WasteRec.cleared
    link := { jobs := here.map LinkJob.identify, run := none, draining := false } }

/-- R80, R84, R95: the feed unit as its sensors show it. -/
def feedAtPower (pins : Pins) : Feed :=
  survey pins { Feed.reset with
    roll := Two.tab fun r => if pins.rollPresent.get r then { RollRec.absent with state := .loaded } else RollRec.absent }

/-- R133: the station as its sensors show it, from the record that the kind of reset leaves. -/
def stationAtReset (pins : Pins) (delay : Nat) (t : Station) : Station :=
  let t1 : Station :=
    { t with
      park := pins.parkSwitch, spitSent := Three.const false, cleanSent := Three.const false
      capDelayLeft := delay * 1000, capDue := false, move := none, suction := none, order := Order.empty, failures := 0 }
  match sensedStation pins.cap pins.parkSwitch with
  | some x => { t1 with state := x, cause := .none }
  | none => { t1 with state := .fault, cause := .sensor }

/-- The hub as power-on or the release of the reset line sets it, before any reaction. What waits at its pins stays: the
commands not yet taken, the sensors, the chips. -/
def State.powered (s : State) (why : ResetCause) (pins : Pins) : State :=
  { State.reset with
    pending := s.pending
    pins := pins
    chips := s.chips
    mode := { ModeUnit.reset with cause := why }
    supply := supplyAtPower pins
    feed := feedAtPower pins
    station := stationAtReset pins Params.default.capDelay Station.reset }

/-- The events the surveys of a reset raise, after RESET_SEEN (R84, R133, R177). -/
def State.raiseSurveys (s : State) (feedToo : Bool) : State :=
  ((s.raiseIf (feedToo && s.feed.cause == .cutterAway) .cutFault).raiseIf
    (feedToo && s.feed.cause == .sensorMismatch) .feedFault).raiseIf (s.station.state == .fault) .stationFault

def State.powerUp (s : State) (why : ResetCause) (park : ParkState) : State :=
  ((s.powered why { s.pins with resetLow := false, parkSwitch := park }).raiseSurveys true).settle

/-- R13, R18, R86, R95, R119, R60: the reset line stops every running operation at once. -/
def State.stopAll (s : State) : State :=
  let s1 := s.setManifold { s.manifold with pump := .free, request := none }
  let s2 := s1.setFeed { s1.feed with op := none }
  let s3 := s2.setStation { s2.station with move := none, suction := none, order := Order.empty }
  let s4 := s3.setLink { s3.supply.link with run := none }
  s4.setTickets { s4.tickets with swathLeft := none }

/-- POWER_ON (R178). DESIGN CHOICE (notes/assumptions/7.md): the park switch is read as an operand. -/
def execPowerOn (park : ParkState) (s : State) : Host.Outcome State Fault Refusal := .next (s.powerUp .powerOn park)

/-- RESET_LINE_ASSERT (R178): the line is held low. DEDUCED (notes/assumptions/22.md): what the release sets afresh stands
until then. -/
def execResetLineAssert (s : State) : Host.Outcome State Fault Refusal :=
  .next (s.stopAll.setPins { s.pins with resetLow := true })

/-- RESET_LINE_RELEASE (R178): a line that is not held is not released. -/
def execResetLineRelease (park : ParkState) (s : State) : Host.Outcome State Fault Refusal :=
  .next (if s.pins.resetLow then s.powerUp .resetLine park else s)

/-! ### The soft reset (R185) -/

/-- The head and level of a suction stage that runs. -/
def State.runningSuction (s : State) : Option (Head × Nat) :=
  match s.manifold.pump with
  | .suction r => some (r.head, r.level)
  | .free => none
  | .stroke _ => none

/-- The need of the FIRING ticket on a channel (R38, R79). -/
def State.firingNeed (s : State) (c : Channel) : Nat :=
  (s.tickets.queue.find? fun t => t.state == .firing).elim 0 fun t => t.need.get c

/-- The suction volume a soft reset debits from a channel (R38). -/
def State.suctionDebit (s : State) (c : Channel) : Nat :=
  s.runningSuction.elim 0 fun x => if c.head == x.1 then Config.suctionVolume x.2 else 0

/-- R38: debits and releases of the ledger in one operation, then every level state and the waste tests. -/
def State.softLedger (s : State) : State :=
  let s1 := s.ledgerOp fun c r => { r with level := r.level - (s.firingNeed c + s.suctionDebit c), rs := 0, rv := 0 }
  let waste := s.runningSuction.elim 0 fun x => 2 * Config.suctionVolume x.2
  (s1.setLedger { s1.ledger with
    wa := s1.ledger.wa + waste, wr := 0, spitPart := Six.const 0, suctionPart := Six.const 0 }).recomputeLevels.refreshWaste

/-- R18: sessions, demands, the suction and its request; a running stroke runs on. -/
def Manifold.softReset (m : Manifold) : Manifold :=
  { m with
    session := Six.const Session.reset
    pump := match m.pump with
      | .stroke r => .stroke r
      | .free => .free
      | .suction _ => .free
    request := none }

/-- R185: every block's soft-reset rule, and the entry to RUN. -/
def State.softReset (s : State) (park : ParkState) : State :=
  let s1 := (s.setPorts (PerPort.const PortRec.reset)).setPins { s.pins with parkSwitch := park }
  let s2 := s1.softLedger
  let s3 := s2.setManifold s2.manifold.softReset
  let s4 := s3.setTickets { s3.tickets with queue := [], swathLeft := none }
  let s5 := s4.setSheets { s4.sheets with queue := [] }
  let s6 := s5.setFeed { s5.feed with op := s5.feed.op.map fun o => { o with orphan := true } }
  let s7 := s6.setStation (stationAtReset s6.pins s6.params.capDelay s6.station)
  let s8 := s7.setService { s7.service with queue := [], active := none }
  let s9 := (s8.resetLink).raiseSurveys false
  (s9.setMode { s9.mode with cause := .soft }).enterRun

/-- HUB_RESET is taken: on the Panel Port, in RUN (R185). -/
def State.softResets (s : State) (p : Port) : Bool := !s.pins.resetLow && p == .pp && s.inRun

/-- HUB_RESET (R185). The reply it would write is replaced by the cleared record (R177). DEDUCED (notes/assumptions/33.md):
the data driven in its transaction is the sequence number. -/
def execHubReset (p : Port) (park : ParkState) (s : State) : Host.Outcome State Fault Refusal :=
  .next (if s.softResets p then
      (s.softReset park).settle.modPort p fun r =>
        { r with out := [BitVec.ofNat 8 (s.ports.get p).reply.seq], outBits := 8 }
    else s.takeWrite p Cmd.hubReset 0 fun t => Answer.refuse t .wrongState)

end Sys2Proof.Machine
end

