-- ==== Sys2Proof/Machine/Panel.lean ====
section
/-!
DEFINITION. The meanings of the Panel Port's commands: modes and configuration (chapter 11), slots (chapter 3), rolls and
the path (chapter 5), levels and retired lists, cleanings, and clears.
-/

namespace Sys2Proof.Machine

/-! ### GO and SLEEP_NOW -/

/-- R179: START becomes RUN. -/
def State.goRun (s : State) : State :=
  let s1 := s.enterRun
  let s2 := s1.when (s1.station.state == .opened) State.enterOpen
  s2.when (s2.station.state != .capped) fun t => t.cleanAll .start

/-- R179. -/
def decideGo (s : State) : Answer :=
  if s.inStart then Answer.accept s.goRun.settle else Answer.refuse s .wrongState

/-- GO (R179). -/
def execGo (p : Port) (s : State) : Host.Outcome State Fault Refusal := .next (s.takeWrite p Cmd.go 0 decideGo)

/-- R180. -/
def decideSleepNow (s : State) : Answer :=
  if s.inRun && s.sleepReady then Answer.accept s.enterSleep else Answer.refuse s .wrongState

/-- SLEEP_NOW (R180). -/
def execSleepNow (p : Port) (s : State) : Host.Outcome State Fault Refusal :=
  .next (s.takeWrite p Cmd.sleepNow 0 decideSleepNow)

/-! ### Configuration (11.3) -/

/-- The parameter of a number with a new value; number 1, dv, stands in the channel records. -/
def Params.put (p : Params) (n v : Nat) : Params :=
  match n with
  | 2 => { p with floor := v }
  | 3 => { p with reserve := v }
  | 4 => { p with refillLow := v }
  | 5 => { p with refillHigh := v }
  | 6 => { p with margin := v }
  | 7 => { p with spitInterval := v }
  | 8 => { p with spitDrops := v }
  | 9 => { p with capDelay := v }
  | 10 => { p with swathTimeout := v }
  | 11 => { p with orderTimeout := v }
  | 12 => { p with checkEvery := v }
  | 13 => { p with idleService := v }
  | 14 => { p with idleSleep := v }
  | 15 => { p with inkLow := v }
  | 16 => { p with nearFull := v }
  | 17 => { p with minOpen := v }
  | _ => p

/-- The range of a clamped parameter (11.3); none for the refused ones. -/
def clampRange : Nat → Option (Nat × Nat)
  | 1 => some (10, 255)
  | 6 => some (0, 50)
  | 7 => some (2, 60)
  | 8 => some (4, 64)
  | 9 => some (5, 300)
  | 10 => some (5, 120)
  | 11 => some (2, 30)
  | 12 => some (0, 50)
  | 13 => some (1, 168)
  | 14 => some (0, 240)
  | 15 => some (0, 50)
  | 16 => some (50, 99)
  | 17 => some (100, 5000)
  | _ => none

/-- F + S < refill-low < refill-high ≤ Cap (11.3). -/
def Params.ordered (p : Params) : Bool :=
  decide (p.floor + p.reserve < p.refillLow) && decide (p.refillLow < p.refillHigh) && decide (p.refillHigh ≤ Config.cap)

/-- R182, test 4: a refused parameter out of its range, or out of order. -/
def Params.refuses (p : Params) (n v : Nat) : Bool :=
  match n with
  | 2 => !between 500000 v 4000000 || !(p.put n v).ordered
  | 3 => !between 0 v 4000000 || !(p.put n v).ordered
  | 4 => !(p.put n v).ordered
  | 5 => !(p.put n v).ordered
  | _ => false

/-- R182, test 5: the new F or S leaves too little for the need of a QUEUED ticket (R22). -/
def State.blocksQueued (s : State) (n v : Nat) : Bool :=
  (n == 2 || n == 3) &&
    s.tickets.queue.any fun t => t.state == .queued &&
      Channel.all.any fun c =>
        decide (Config.cap < t.need.get c + (s.params.put n v).floor + (s.params.put n v).reserve)

/-- R182, test 6: a channel of the mask holds reservations. -/
def State.dvHeld (s : State) (m : Six Bool) : Bool :=
  Channel.all.any fun c => m.get c && decide (0 < (s.ledger.chan.get c).rs + (s.ledger.chan.get c).rv)

def State.setParams (s : State) (p : Params) : State := s.setMode { s.mode with params := p }

/-- R20: a new dv on the channels of the mask. -/
def State.setDv (s : State) (m : Six Bool) (v : Nat) : State :=
  s.setChan (Six.tab fun c => if m.get c then { s.ledger.chan.get c with dv := v } else s.ledger.chan.get c)

/-- R183: what an applied parameter brings about at once. The minimum open length has a HELD head sheet examined again and
a LOADING sheet in NO_MEDIA choose again, and no QUEUED sheet that waits by R112 (R101). -/
def State.paramActs (s : State) (n : Nat) : State :=
  match n with
  | 2 => s.recomputeLevels.duePass.settle
  | 3 => s.recomputeLevels.duePass.settle
  | 4 => s.settle
  | 7 => s.settle
  | 12 => s.when (s.params.checkEvery == 0) fun t => t.setService { t.service with sheetCount := 0 }
  | 14 => s.when s.inRun State.loadIdleSleep
  | 15 => s.recomputeLow
  | 16 => s.refreshFull
  | 17 => (s.when (s.headSheet.any fun h => h.state == .held) State.dueExamine).settle
  | _ => s

/-- R182: a value is applied; the present value changes nothing. -/
def State.applyParam (s : State) (n v : Nat) : State :=
  if s.params.put n v = s.params then s else (s.setParams (s.params.put n v)).paramActs n

/-- R182: the value as applied, after clamping. -/
def clampParam (n v : Nat) : Nat :=
  match clampRange n with
  | none => v
  | some (lo, hi) => max lo (min v hi)

/-- CLAMPED where clamping changed the value. -/
def clampCode (n v : Nat) : ReplyCode := if clampParam n v = v then .accepted else .clamped

/-- R182 for dv. -/
def decideDv (mask v : Nat) (s : State) : Answer :=
  match channelMask? mask with
  | none => Answer.refuse s .badOperand
  | some m =>
    if s.dvHeld m then Answer.refuse s .wrongState
    else { after := s.setDv m (clampParam 1 v), code := clampCode 1 v, value := clampParam 1 v }

/-- R182. -/
def decideConfigSet (n mask v : Nat) (s : State) : Answer :=
  if s.mode.lock then Answer.refuse s .locked
  else if n < 1 ∨ 17 < n then Answer.refuse s .badOperand
  else if n = 1 then decideDv mask v s
  else if s.params.refuses n v then Answer.refuse s .badOperand
  else if s.blocksQueued n v then Answer.refuse s .wrongState
  else { after := s.applyParam n (clampParam n v), code := clampCode n v, value := clampParam n v }

/-- CONFIG_SET (R182, R183). -/
def execConfigSet (p : Port) (n mask v : Nat) (s : State) : Host.Outcome State Fault Refusal :=
  .next (s.takeWrite p Cmd.configSet 6 (decideConfigSet n mask v))

def decideConfigLock (s : State) : Answer := Answer.accept (s.setMode { s.mode with lock := true })

/-- CONFIG_LOCK (R184). -/
def execConfigLock (p : Port) (s : State) : Host.Outcome State Fault Refusal :=
  .next (s.takeWrite p Cmd.configLock 0 decideConfigLock)

/-! ### Slots -/

/-- A refill session that is not IDLE. -/
def State.sessionsBusy (s : State) : Bool := Channel.all.any fun c => (s.session c).state != .idle

/-- R48. -/
def decideSlotMapSet (entries : Eight Nat) (s : State) : Answer :=
  if s.mode.lock then Answer.refuse s .locked
  else
    match mapOf? entries with
    | none => Answer.refuse s .badOperand
    | some m =>
      if !mapLegal m then Answer.refuse s .badOperand
      else if s.activeSheet.isSome || s.sessionsBusy then Answer.refuse s .wrongState
      else if m = s.supply.map then Answer.accept s
      else Answer.accept (s.takeMap m).settle

/-- SLOT_MAP_SET (R48). -/
def execSlotMapSet (p : Port) (entries : Eight Nat) (s : State) : Host.Outcome State Fault Refusal :=
  .next (s.takeWrite p Cmd.slotMapSet 8 (decideSlotMapSet entries))

/-- R46. -/
def decideTankAccept (slot ml : Nat) (s : State) : Answer :=
  match SlotId.ofNat? slot with
  | none => Answer.refuse s .badOperand
  | some k =>
    if !between 1 ml 1000 then Answer.refuse s .badOperand
    else
      match (s.supply.slot.get k).state, s.supply.map.get k with
      | .unidentified, some c => Answer.accept (s.acceptTank k c ml).settle
      | _, _ => Answer.refuse s .wrongState

/-- TANK_ACCEPT (R46). -/
def execTankAccept (p : Port) (slot ml : Nat) (s : State) : Host.Outcome State Fault Refusal :=
  .next (s.takeWrite p Cmd.tankAccept 3 (decideTankAccept slot ml))

/-! ### Levels and retired lists -/

/-- R4. -/
def decideLevelRestore (channel level : Nat) (s : State) : Answer :=
  if !s.inStart then Answer.refuse s .wrongState
  else
    match Channel.ofNat? channel with
    | none => Answer.refuse s .badOperand
    | some c =>
      { after := (s.setLevel c (min level Config.cap)).settle,
        code := if Config.cap < level then .clamped else .accepted, value := min level Config.cap }

/-- LEVEL_RESTORE (R4). -/
def execLevelRestore (p : Port) (channel level : Nat) (s : State) : Host.Outcome State Fault Refusal :=
  .next (s.takeWrite p Cmd.levelRestore 5 (decideLevelRestore channel level))

/-- R161. -/
def decideRetiredRestore (channel count : Nat) (indices : List Nat) (s : State) : Answer :=
  if !s.inStart then Answer.refuse s .wrongState
  else
    match Channel.ofNat? channel with
    | none => Answer.refuse s .badOperand
    | some c =>
      if Config.retiredMax < count ∨ Config.retiredMax < indices.length ∨
          (indices.any fun n => decide (Config.nozzles ≤ n)) = true then
        Answer.refuse s .badOperand
      else Answer.accept (s.putNozzles (s.nozzles.chan.set c ((s.nozzles.chan.get c).restore indices)))

/-- RETIRED_RESTORE (R161): 2 + 2k operand bytes. -/
def execRetiredRestore (p : Port) (channel count : Nat) (indices : List Nat) (s : State) :
    Host.Outcome State Fault Refusal :=
  .next (s.takeWrite p Cmd.retiredRestore (2 + 2 * indices.length) (decideRetiredRestore channel count indices))

/-! ### Rolls and the feed path -/

/-- R82, test 1, but for the roll. -/
def rollOperandsLegal (media width length : Nat) : Bool :=
  between 1 media 15 && between 210 width 1120 && decide (length ≤ 200000)

/-- ADVANCING, SWAPPING or CUTTING. -/
def PathState.busy : PathState → Bool
  | .advancing | .swapping | .cutting => true
  | .idle | .fault | .unthreaded => false

/-- R82, tests 2 to 4. DEDUCED (notes/assumptions/41.md): in a swap begun in UNTHREADED, which has no former path roll, the
roll that is not its target may be described, as test 3 gives and R90's "either roll" does not. -/
def State.rollBusy (s : State) (r : Roll) : Bool :=
  (s.feed.roll.get r).state == .absent || (s.feed.roll.get r).state == .empty ||
    (s.feed.path.busy && (s.feed.pathRoll == some r || s.feed.op.any fun o => o.target == some r)) ||
    (s.feed.pathRoll == some r && s.activeSheet.isSome)

/-- R82: an accepted description. -/
def State.describeRoll (s : State) (r : Roll) (media width length : Nat) : State :=
  (s.setRoll r { s.feed.roll.get r with
    described := true, media := media, width := width,
    remaining := if length = 0 then none else some (length * 1000) }).reportRolls s.feed.roll

/-- R82. -/
def decideRollLoad (roll media width length : Nat) (s : State) : Answer :=
  match roll? roll with
  | none => Answer.refuse s .badOperand
  | some r =>
    if !rollOperandsLegal media width length then Answer.refuse s .badOperand
    else if s.rollBusy r then Answer.refuse s .wrongState
    else Answer.accept (s.describeRoll r media width length).settle

/-- ROLL_LOAD (R82). -/
def execRollLoad (p : Port) (roll media width length : Nat) (s : State) : Host.Outcome State Fault Refusal :=
  .next (s.takeWrite p Cmd.rollLoad 7 (decideRollLoad roll media width length))

/-- R94: a refused clear leaves the path in FAULT with the cause the survey found. DEDUCED (notes/assumptions/18.md): it
leaves the path roll and the roll records as they stood. DEDUCED (notes/assumptions/39.md): no clear changes a roll's
remaining, whatever R84's fourth row gives. -/
def decideFeedClear (s : State) : Answer :=
  if s.feed.path ≠ .fault then Answer.refuse s .wrongState
  else
    let f := (survey s.pins s.feed).keepRemaining s.feed
    if f.path = .fault then Answer.refuse (s.setFeed { s.feed with cause := f.cause }) .wrongState
    else Answer.accept ((s.setFeed f).reportRolls s.feed.roll).settle

/-- FEED_CLEAR (R94). -/
def execFeedClear (p : Port) (s : State) : Host.Outcome State Fault Refusal :=
  .next (s.takeWrite p Cmd.feedClear 0 decideFeedClear)

/-! ### Service -/

/-- R138: one CLEAN request of origin PANEL for each head of the mask. DESIGN CHOICE (notes/assumptions/43.md): H0 first. -/
def State.panelCleans (s : State) (m : Three Bool) (level : Nat) (u : Urgency) : State :=
  Head.all.foldl (fun t h => t.when (m.get h) fun v => v.requestClean h level .panel u 1) s

/-- R138. -/
def decideCleanAsk (mask level urgency : Nat) (s : State) : Answer :=
  match headMask? mask with
  | none => Answer.refuse s .badOperand
  | some m =>
    if 3 < level then Answer.refuse s .badOperand
    else if level = 0 then Answer.accept (s.requestCheck m).settle
    else
      match urgency? urgency with
      | none => Answer.refuse s .badOperand
      | some u => Answer.accept (s.panelCleans m level u).settle

/-- CLEAN_ASK (R138). -/
def execCleanAsk (p : Port) (mask level urgency : Nat) (s : State) : Host.Outcome State Fault Refusal :=
  .next (s.takeWrite p Cmd.cleanAsk 3 (decideCleanAsk mask level urgency))

/-- R131: an accepted clear. -/
def State.stationCleared (s : State) (x : StationState) : State :=
  let s1 := s.setStation { s.station with state := x, cause := .none, failures := 0 }
  (s1.when (x == .opened) State.enterOpen).dueArbiter

/-- R131: the cap sensor and the park switch are read. A refused clear leaves FAULT with cause SENSOR.
DEDUCED (notes/assumptions/18.md). -/
def decideStationClear (park : ParkState) (s : State) : Answer :=
  if s.station.state ≠ .fault then Answer.refuse s .wrongState
  else
    let s1 := (s.setPins { s.pins with parkSwitch := park }).setStation { s.station with park := park }
    match sensedStation s.pins.cap park with
    | some x => Answer.accept (s1.stationCleared x).settle
    | none => Answer.refuse (s1.setStation { s1.station with cause := .sensor }) .wrongState

/-- STATION_CLEAR (R131). -/
def execStationClear (p : Port) (park : ParkState) (s : State) : Host.Outcome State Fault Refusal :=
  .next (s.takeWrite p Cmd.stationClear 0 (decideStationClear park))

end Sys2Proof.Machine
end

