-- ==== Sys2Proof/Machine/Sensors.lean ====
section
/-!
DEFINITION. The meanings of the sensor changes and of the supply link's answers. Every report sets the pin it reports;
while the reset line is held it does nothing else (R178).
-/

namespace Sys2Proof.Machine

/-- What a sensor change does once its pin is set: nothing while the reset line is held. -/
def State.sensed (s : State) (act : State → State) : State := if s.pins.resetLow then s else act s

/-- What an arrival does that may find nothing to act on: then nothing changes beyond its pin. -/
def State.sensedSome (s : State) (act : State → Option State) : State :=
  s.sensed fun t => (act t).elim t State.settle

/-- What a change of a presence sensor does: it wakes the hub and is then acted on in RUN (R181). -/
def State.sensedAwake (s : State) (act : State → State) : State := s.sensed fun t => (act t.wake).settle

/-! ### Probes -/

/-- R7: the stroke a probe trip of the channel ends. -/
def State.tripped (s : State) (c : Channel) : Option StrokeRun :=
  match s.manifold.pump with
  | .stroke r => if r.channel == c then some r else none
  | .free => none
  | .suction _ => none

/-- PROBE_TRIP (R7, R14), and the probe turning dry again, which changes no state (R7). DESIGN CHOICE
(notes/assumptions/13.md): the command carries the reading. -/
def execProbeTrip (c : Channel) (wet : Bool) (s : State) : Host.Outcome State Fault Refusal :=
  .next ((s.setPins { s.pins with probeWet := s.pins.probeWet.set c wet }).sensedSome fun t =>
    if wet then (t.tripped c).map fun r => t.completeStroke r true else none)

/-! ### Tanks and the waste cartridge -/

/-- SLOT_TANK_ARRIVAL (R41). The chip has stood without power (R51). A report of what the sensor already reads is no change. -/
def execSlotTankArrival (k : SlotId) (chip : Chip) (s : State) : Host.Outcome State Fault Refusal :=
  .next (if s.pins.slotPresent.get k then s
    else
      (((s.setPins { s.pins with slotPresent := s.pins.slotPresent.set k true }).setChips
        (s.chips.put (.slot k) (some (powerUpChip chip)))).sensedAwake fun t => t.tankArrives k))

/-- SLOT_TANK_REMOVAL (R42). -/
def execSlotTankRemoval (k : SlotId) (s : State) : Host.Outcome State Fault Refusal :=
  .next (if s.pins.slotPresent.get k then
      ((s.setPins { s.pins with slotPresent := s.pins.slotPresent.set k false }).setChips
        (s.chips.put (.slot k) none)).sensedAwake fun t => t.tankLeaves k
    else s)

/-- WASTE_CARTRIDGE_ARRIVAL (R49). -/
def execWasteCartridgeArrival (chip : Chip) (s : State) : Host.Outcome State Fault Refusal :=
  .next (if s.pins.wastePresent then s
    else
      (((s.setPins { s.pins with wastePresent := true }).setChips (s.chips.put .waste (some (powerUpChip chip)))).sensedAwake
        State.wasteArrives))

/-- WASTE_CARTRIDGE_REMOVAL (R49, R36). -/
def execWasteCartridgeRemoval (s : State) : Host.Outcome State Fault Refusal :=
  .next (if s.pins.wastePresent then
      ((s.setPins { s.pins with wastePresent := false }).setChips (s.chips.put .waste none)).sensedAwake State.wasteLeaves
    else s)

/-- LINK_ANSWER (R51, R52, R54, R55). -/
def execLinkAnswer (d : LinkDelivery) (s : State) : Host.Outcome State Fault Refusal :=
  .next (s.sensedSome fun t => t.linkAnswers d)

/-! ### Media -/

/-- ROLL_ARRIVAL (R81). -/
def execRollArrival (r : Roll) (s : State) : Host.Outcome State Fault Refusal :=
  .next (if s.pins.rollPresent.get r then s
    else
      (s.setPins { s.pins with rollPresent := s.pins.rollPresent.set r true }).sensedAwake fun t => t.rollArrives r)

/-- ROLL_REMOVAL (R81, R89, R91 to R93). -/
def execRollRemoval (r : Roll) (s : State) : Host.Outcome State Fault Refusal :=
  .next (if s.pins.rollPresent.get r then
      (s.setPins { s.pins with rollPresent := s.pins.rollPresent.set r false }).sensedAwake fun t => t.rollLeaves r
    else s)

/-- PAPER_END (R88), and the sensor reporting media present again, which changes nothing (R88). -/
def execPaperEnd (present : Bool) (s : State) : Host.Outcome State Fault Refusal :=
  .next ((s.setPins { s.pins with paper := present }).sensedSome fun t =>
    if present then none else t.paperEnds)

/-- THREAD_SENSOR_CHANGE (R89, R90, R93). -/
def execThreadSensorChange (present : Bool) (s : State) : Host.Outcome State Fault Refusal :=
  .next ((s.setPins { s.pins with thread := present }).sensedSome fun t => t.threadChanges present)

/-- R90: a running swap sees what the actuator reports. -/
def State.actuatorReports (s : State) : Option State :=
  match s.feed.path, s.feed.op with
  | .swapping, some o => some (s.proceedSwap o)
  | _, _ => none

/-- ACTUATOR_POSITION_REPORT (R90). -/
def execActuatorPositionReport (r : Roll) (s : State) : Host.Outcome State Fault Refusal :=
  .next ((s.setPins { s.pins with actuator := r }).sensedSome State.actuatorReports)

/-- CUTTER_HOME_SWITCH_CHANGE (R92). -/
def execCutterHomeSwitchChange (home : Bool) (s : State) : Host.Outcome State Fault Refusal :=
  .next ((s.setPins { s.pins with cutterHome := home }).sensedSome fun t => t.cutterReports home)

/-- R87: an end-of-move report outside an advance is ignored. -/
def State.moveEnds (s : State) : Option State :=
  match s.feed.path, s.feed.op with
  | .advancing, some o => some (s.completeAdvance o)
  | _, _ => none

/-- END_OF_MOVE (R87). -/
def execEndOfMove (s : State) : Host.Outcome State Fault Refusal := .next (s.sensedSome State.moveEnds)

/-! ### Station -/

/-- R119: the cap sensor reports the end a cap move drives toward. -/
def State.capReports (s : State) (x : CapReading) : Option State :=
  match s.station.move, x with
  | some m, .capped => if m.kind == .cap then some s.enterCapped else none
  | some m, .opened => if m.kind == .uncap then some s.enterOpen else none
  | _, _ => none

/-- CAP_SENSOR_REPORT (R117, R119). -/
def execCapSensorReport (x : CapReading) (s : State) : Host.Outcome State Fault Refusal :=
  .next ((s.setPins { s.pins with cap := x }).sensedSome fun t => t.capReports x)

end Sys2Proof.Machine
end

