-- ==== Sys2Proof/Machine/Timers.lean ====
section
/-!
DEFINITION. The meanings of the timer expiries and thresholds, each of which acts while its timer runs and does nothing
otherwise (DESIGN CHOICE, notes/assumptions/16.md), and the millisecond in which every running timer counts
(notes/assumptions/1.md).
-/

namespace Sys2Proof.Machine

/-! ### Pump and link -/

/-- R13: the stroke timer of a running stroke. -/
def State.strokeExpires (s : State) : Option State :=
  match s.manifold.pump with
  | .stroke r => some (s.completeStroke r false)
  | .free => none
  | .suction _ => none

/-- STROKE_TIMER_EXPIRY (R13, R14). -/
def execStrokeTimerExpiry (s : State) : Host.Outcome State Fault Refusal := .next (s.sensedSome State.strokeExpires)

/-- R17: the stage timer of a running suction stage. -/
def State.suctionExpires (s : State) : Option State :=
  match s.manifold.pump with
  | .suction r => some (s.endSuction r)
  | .free => none
  | .stroke _ => none

/-- SUCTION_STAGE_END (R17, R34). -/
def execSuctionStageEnd (s : State) : Host.Outcome State Fault Refusal := .next (s.sensedSome State.suctionExpires)

/-- LINK_ANSWER_TIMEOUT (R52). -/
def execLinkAnswerTimeout (s : State) : Host.Outcome State Fault Refusal := .next (s.sensedSome State.answerTimesOut)

/-- BUSY_TIMEOUT (R52, R56). -/
def execBusyTimeout (s : State) : Host.Outcome State Fault Refusal := .next (s.sensedSome State.waitTimesOut)

/-! ### Feed -/

/-- R89: the watchdog of a running advance. -/
def State.watchdogExpires (s : State) : Option State :=
  match s.feed.path, s.feed.op with
  | .advancing, some o => some (s.faultAdvance o .jam)
  | _, _ => none

/-- ADVANCE_WATCHDOG_EXPIRY (R89). -/
def execAdvanceWatchdogExpiry (s : State) : Host.Outcome State Fault Refusal :=
  .next (s.sensedSome State.watchdogExpires)

/-- R91: the swap timer of a running swap. -/
def State.swapExpires (s : State) : Option State :=
  match s.feed.path, s.feed.op with
  | .swapping, some o => some (s.faultSwap o .swapTimeout)
  | _, _ => none

/-- SWAP_TIMER_EXPIRY (R91). -/
def execSwapTimerExpiry (s : State) : Host.Outcome State Fault Refusal := .next (s.sensedSome State.swapExpires)

/-- R92: the cut timer of a running cut. -/
def State.cutExpires (s : State) : Option State :=
  match s.feed.path with
  | .cutting => some (s.pathFaults .cutTimeout .cutFault)
  | .idle | .advancing | .swapping | .fault | .unthreaded => none

/-- CUT_TIMER_EXPIRY (R92, R110). -/
def execCutTimerExpiry (s : State) : Host.Outcome State Fault Refusal := .next (s.sensedSome State.cutExpires)

/-! ### Station -/

/-- R119: the cap move timer. -/
def State.capMoveExpires (s : State) : Option State :=
  match s.station.move with
  | some m => if m.kind == .wipe then none else some (s.enterFault .capTimeout)
  | none => none

/-- CAP_MOVE_TIMER_EXPIRY (R119, R130). -/
def execCapMoveTimerExpiry (s : State) : Host.Outcome State Fault Refusal := .next (s.sensedSome State.capMoveExpires)

/-- R120: the wipe timer: the station returns to OPEN and the WIPE stage ends. -/
def State.wipeExpires (s : State) : Option State :=
  match s.station.move with
  | some m => if m.kind == .wipe then some s.enterOpen.endStage else none
  | none => none

/-- WIPE_TIMER_EXPIRY (R120). -/
def execWipeTimerExpiry (s : State) : Host.Outcome State Fault Refusal := .next (s.sensedSome State.wipeExpires)

/-- R122: the cap-delay timer expires while it counts. -/
def State.capDelayExpires (s : State) : Option State :=
  if s.capDelayRuns then some (s.setStation { s.station with capDelayLeft := 0 }) else none

/-- CAP_DELAY_EXPIRY (R122). -/
def execCapDelayExpiry (s : State) : Host.Outcome State Fault Refusal := .next (s.sensedSome State.capDelayExpires)

/-- A head's counting exposure reaches a value (R126). -/
def State.exposureReaches (s : State) (h : Head) (ms : Nat) : Option State :=
  if s.exposureRuns then
    some (s.setStation { s.station with exposure := s.station.exposure.set h (max ms (s.station.exposure.get h)) })
  else none

/-- EXPOSURE_SPIT_THRESHOLD (R126). -/
def execExposureSpitThreshold (h : Head) (s : State) : Host.Outcome State Fault Refusal :=
  .next (s.sensedSome fun t => t.exposureReaches h t.interval)

/-- EXPOSURE_CLEAN_THRESHOLD (R126). -/
def execExposureCleanThreshold (h : Head) (s : State) : Host.Outcome State Fault Refusal :=
  .next (s.sensedSome fun t => t.exposureReaches h (4 * t.interval))

/-- R128: the timer of an order that stands. -/
def State.orderExpires (s : State) : Option State :=
  if s.station.order.kind != .none then some s.orderTimesOut else none

/-- ORDER_TIMER_EXPIRY (R128). -/
def execOrderTimerExpiry (s : State) : Host.Outcome State Fault Refusal :=
  .next (s.sensedSome State.orderExpires)

/-! ### Tickets and sheets -/

/-- R73: the swath timer of the FIRING ticket. -/
def State.swathExpires (s : State) : Option State :=
  (s.tickets.queue.find? fun t => t.state == .firing).map s.loseTicket

/-- SWATH_TIMER_EXPIRY (R73). -/
def execSwathTimerExpiry (s : State) : Host.Outcome State Fault Refusal := .next (s.sensedSome State.swathExpires)

/-- R108: the dry timer of a DRYING sheet. -/
def State.dryExpires (s : State) (id : Nat) : Option State :=
  if s.inRun && (s.findSheet id).any (fun h => h.state == .drying) then
    some (s.modSheet id fun h => { h with dryLeft := 0 })
  else none

/-- DRY_TIMER_EXPIRY (R108). -/
def execDryTimerExpiry (id : Nat) (s : State) : Host.Outcome State Fault Refusal :=
  .next (s.sensedSome fun t => t.dryExpires id)

/-! ### Modes -/

/-- R180: the idle-sleep timer runs. -/
def State.idleSleepRuns (s : State) : Bool := s.inRun && s.sleepReady && s.mode.idleSleepLeft.isSome

/-- IDLE_SLEEP_EXPIRY (R180). -/
def execIdleSleepExpiry (s : State) : Host.Outcome State Fault Refusal :=
  .next (s.sensed fun t => if t.idleSleepRuns then t.enterSleep else t)

/-- IDLE_SERVICE_EXPIRY (R181). -/
def execIdleServiceExpiry (s : State) : Host.Outcome State Fault Refusal :=
  .next (s.sensed fun t => if t.inSleep then (t.cleanAll .idle).enterRun.settle else t)

/-! ### One millisecond (notes/assumptions/1.md) -/

/-- The expiry of a running timer that stands at 0, in a fixed order. -/
def State.expired (s : State) : Option Instr :=
  let pump : Option Instr :=
    match s.manifold.pump with
    | .free => none
    | .stroke r => if r.left = 0 then some .strokeTimerExpiry else none
    | .suction r => if r.left = 0 then some .suctionStageEnd else none
  let link : Option Instr :=
    match s.supply.link.run with
    | none => none
    | some r => if r.left = 0 then some (if r.waiting then .busyTimeout else .linkAnswerTimeout) else none
  let feed : Option Instr :=
    match s.feed.op with
    | none => none
    | some o =>
      if o.left = 0 then
        some (match o.kind with
          | .advance => .advanceWatchdogExpiry
          | .swap => .swapTimerExpiry
          | .cut => .cutTimerExpiry)
      else none
  let move : Option Instr :=
    match s.station.move with
    | none => none
    | some m => if m.left = 0 then some (if m.kind == .wipe then .wipeTimerExpiry else .capMoveTimerExpiry) else none
  let order : Option Instr :=
    if s.station.order.kind != .none && s.station.order.left == 0 then some .orderTimerExpiry else none
  let swath : Option Instr := if s.tickets.swathLeft = some 0 then some .swathTimerExpiry else none
  let sleep : Option Instr := if s.idleSleepRuns && s.mode.idleSleepLeft == some 0 then some .idleSleepExpiry else none
  pump.or (link.or (feed.or (move.or (order.or (swath.or sleep)))))

/-- R125: one ms of exposure. -/
def Station.expose (t : Station) : Station := { t with exposure := t.exposure.map fun n => addCapped n 1 }

def Pump.count : Pump → Pump
  | .free => .free
  | .stroke r => .stroke { r with left := r.left - 1 }
  | .suction r => .suction { r with left := r.left - 1 }

/-- One ms of the station: its move, its order, the exposures and the cap delay while they count. -/
def State.countStation (s : State) : State :=
  let t := s.station
  let t1 : Station :=
    { t with
      move := t.move.map fun m => { m with left := m.left - 1 }
      order := { t.order with left := t.order.left - 1 }
      capDelayLeft := if s.capDelayRuns then t.capDelayLeft - 1 else t.capDelayLeft }
  s.setStation (if s.exposureRuns then t1.expose else t1)

/-- One ms of every other timer that runs. -/
def State.countTimers (s : State) : State :=
  let s1 := s.setManifold { s.manifold with pump := s.manifold.pump.count }
  let s2 := s1.setLink { s1.supply.link with run := s1.supply.link.run.map fun r => { r with left := r.left - 1 } }
  let s3 := s2.setFeed { s2.feed with op := s2.feed.op.map fun o => { o with left := o.left - 1 } }
  let s4 := s3.setTickets { s3.tickets with swathLeft := s3.tickets.swathLeft.map fun n => n - 1 }
  let s5 := s4.setSheets { s4.sheets with queue := s4.sheets.queue.map fun h =>
    if s.inRun && h.state == .drying then { h with dryLeft := h.dryLeft - 1 } else h }
  s5.setMode { s5.mode with
    idleSleepLeft := if s.idleSleepRuns then s.mode.idleSleepLeft.map fun n => n - 1 else s.mode.idleSleepLeft }

/-- The chips' write cycles run on their own (R51, R60). -/
def State.countChips (s : State) : State :=
  s.setChips { slot := Eight.tab fun k => (s.chips.slot.get k).map chipTick, waste := s.chips.waste.map chipTick }

/-- R181: in SLEEP the idle-service timer alone counts. -/
def State.countSleep (s : State) : State :=
  s.setMode { s.mode with idleServiceLeft := s.mode.idleServiceLeft.map fun n => n - 1 }

/-- What a step does while no command waits: the expiry of a timer that stands at 0 is put into the queue; where none
does, one millisecond passes. DESIGN CHOICE (notes/assumptions/1.md). -/
def State.tick (s : State) : State :=
  if s.pins.resetLow then s.countChips
  else if s.inSleep then
    if s.mode.idleServiceLeft = some 0 then s.setPending [.idleServiceExpiry] else s.countChips.countSleep
  else
    match s.expired with
    | some c => s.setPending [c]
    | none => (s.countChips.countStation.countTimers).settle

end Sys2Proof.Machine
end

