-- ==== Sys2Proof/Machine/Outputs.lean ====
section
/-!
DEFINITION. The mechanism outputs (00_scope.md, "Pins and electrical notes") as the state drives them. While the reset line
is held low every one is off (R178).
-/

namespace Sys2Proof.Machine

/-- Which way a motor is driven. -/
inductive Drive
  | off | forward | back
deriving DecidableEq, Repr

/-- The pump (R6, R15). -/
def State.pumpOn (s : State) : Bool := !s.pins.resetLow && s.manifold.pump != .free

/-- A channel's valve is open while a stroke of the channel runs (R6). -/
def State.valveOpen (s : State) (c : Channel) : Bool :=
  !s.pins.resetLow &&
    match s.manifold.pump with
    | .stroke r => r.channel == c
    | .free => false
    | .suction _ => false

/-- A head's suction valve is open while a suction stage of the head runs (R6, R124). -/
def State.suctionValveOpen (s : State) (h : Head) : Bool :=
  !s.pins.resetLow &&
    match s.manifold.pump with
    | .suction r => r.head == h
    | .free => false
    | .stroke _ => false

/-- The cap motor: forward toward the capped end (R119). -/
def State.capMotor (s : State) : Drive :=
  if s.pins.resetLow then .off
  else
    match s.station.move with
    | none => .off
    | some m =>
      match m.kind with
      | .cap => .forward
      | .uncap => .back
      | .wipe => .off

/-- The wiper motor (R120). -/
def State.wiperOn (s : State) : Bool := !s.pins.resetLow && s.station.move.any fun m => m.kind == .wipe

/-- The feed motor: forward in an advance and in THREAD, back in UNTHREAD (R86, R90). -/
def State.feedMotor (s : State) : Drive :=
  if s.pins.resetLow then .off
  else
    match s.feed.op with
    | none => .off
    | some o =>
      match o.kind, o.stage with
      | .advance, _ => .forward
      | .swap, some .unthread => .back
      | .swap, some .thread => .forward
      | _, _ => .off

/-- The roll-swap actuator's target while it is driven, in SELECT (R90). -/
def State.actuatorDrive (s : State) : Option Roll :=
  if s.pins.resetLow then none
  else
    match s.feed.op with
    | none => none
    | some o => if o.stage == some .select then o.target else none

/-- The cutter (R92). -/
def State.cutterOn (s : State) : Bool := !s.pins.resetLow && s.feed.path == .cutting

end Sys2Proof.Machine
end

