-- ==== Sys2Proof/Machine/Dispatch.lean ====
section
/-! DEFINITION. The dispatch: one arm per command, each a direct call of its meaning. -/

namespace Sys2Proof.Machine

def exec (i : Instr) (s : State) : Host.Outcome State Fault Refusal :=
  match i with
  | .powerOn parkSwitch => Sys2Proof.Machine.execPowerOn parkSwitch s
  | .resetLineAssert => Sys2Proof.Machine.execResetLineAssert s
  | .resetLineRelease parkSwitch => Sys2Proof.Machine.execResetLineRelease parkSwitch s
  | .frameError port bits => Sys2Proof.Machine.execFrameError port bits s
  | .unknownCommand port code => Sys2Proof.Machine.execUnknownCommand port code s
  | .getStatus port bits => Sys2Proof.Machine.execGetStatus port bits s
  | .getReply port bits => Sys2Proof.Machine.execGetReply port bits s
  | .getEvents port bits => Sys2Proof.Machine.execGetEvents port bits s
  | .setEventMask port mask => Sys2Proof.Machine.execSetEventMask port mask s
  | .tableSel port table place => Sys2Proof.Machine.execTableSel port table place s
  | .tableRead port bits => Sys2Proof.Machine.execTableRead port bits s
  | .sheetOpen port pref media width planned top bottom dry mode => Sys2Proof.Machine.execSheetOpen port pref media width planned top bottom dry mode s
  | .sheetClose port sheet final => Sys2Proof.Machine.execSheetClose port sheet final s
  | .sheetCancel port sheet => Sys2Proof.Machine.execSheetCancel port sheet s
  | .swathAsk port sheet index advance count pairs => Sys2Proof.Machine.execSwathAsk port sheet index advance count pairs s
  | .swathWithdraw port ticket => Sys2Proof.Machine.execSwathWithdraw port ticket s
  | .swathTake port ticket => Sys2Proof.Machine.execSwathTake port ticket s
  | .swathDone port ticket count pairs => Sys2Proof.Machine.execSwathDone port ticket count pairs s
  | .parkState port code => Sys2Proof.Machine.execParkState port code s
  | .getOrder port bits => Sys2Proof.Machine.execGetOrder port bits s
  | .orderDone port kind count pairs reports => Sys2Proof.Machine.execOrderDone port kind count pairs reports s
  | .go port => Sys2Proof.Machine.execGo port s
  | .configSet port param mask value => Sys2Proof.Machine.execConfigSet port param mask value s
  | .configLock port => Sys2Proof.Machine.execConfigLock port s
  | .slotMapSet port entries => Sys2Proof.Machine.execSlotMapSet port entries s
  | .tankAccept port slot capacity => Sys2Proof.Machine.execTankAccept port slot capacity s
  | .levelRestore port channel level => Sys2Proof.Machine.execLevelRestore port channel level s
  | .retiredRestore port channel count indices => Sys2Proof.Machine.execRetiredRestore port channel count indices s
  | .rollLoad port roll media width length => Sys2Proof.Machine.execRollLoad port roll media width length s
  | .cleanAsk port mask level urgency => Sys2Proof.Machine.execCleanAsk port mask level urgency s
  | .feedClear port => Sys2Proof.Machine.execFeedClear port s
  | .stationClear port parkSwitch => Sys2Proof.Machine.execStationClear port parkSwitch s
  | .sleepNow port => Sys2Proof.Machine.execSleepNow port s
  | .hubReset port parkSwitch => Sys2Proof.Machine.execHubReset port parkSwitch s
  | .probeTrip channel wet => Sys2Proof.Machine.execProbeTrip channel wet s
  | .strokeTimerExpiry => Sys2Proof.Machine.execStrokeTimerExpiry s
  | .suctionStageEnd => Sys2Proof.Machine.execSuctionStageEnd s
  | .slotTankArrival slot chip => Sys2Proof.Machine.execSlotTankArrival slot chip s
  | .slotTankRemoval slot => Sys2Proof.Machine.execSlotTankRemoval slot s
  | .wasteCartridgeArrival chip => Sys2Proof.Machine.execWasteCartridgeArrival chip s
  | .wasteCartridgeRemoval => Sys2Proof.Machine.execWasteCartridgeRemoval s
  | .linkAnswer delivery => Sys2Proof.Machine.execLinkAnswer delivery s
  | .linkAnswerTimeout => Sys2Proof.Machine.execLinkAnswerTimeout s
  | .busyTimeout => Sys2Proof.Machine.execBusyTimeout s
  | .rollArrival roll => Sys2Proof.Machine.execRollArrival roll s
  | .rollRemoval roll => Sys2Proof.Machine.execRollRemoval roll s
  | .paperEnd mediaPresent => Sys2Proof.Machine.execPaperEnd mediaPresent s
  | .threadSensorChange mediaPresent => Sys2Proof.Machine.execThreadSensorChange mediaPresent s
  | .actuatorPositionReport position => Sys2Proof.Machine.execActuatorPositionReport position s
  | .cutterHomeSwitchChange home => Sys2Proof.Machine.execCutterHomeSwitchChange home s
  | .endOfMove => Sys2Proof.Machine.execEndOfMove s
  | .advanceWatchdogExpiry => Sys2Proof.Machine.execAdvanceWatchdogExpiry s
  | .swapTimerExpiry => Sys2Proof.Machine.execSwapTimerExpiry s
  | .cutTimerExpiry => Sys2Proof.Machine.execCutTimerExpiry s
  | .capSensorReport reading => Sys2Proof.Machine.execCapSensorReport reading s
  | .capMoveTimerExpiry => Sys2Proof.Machine.execCapMoveTimerExpiry s
  | .wipeTimerExpiry => Sys2Proof.Machine.execWipeTimerExpiry s
  | .capDelayExpiry => Sys2Proof.Machine.execCapDelayExpiry s
  | .exposureSpitThreshold head => Sys2Proof.Machine.execExposureSpitThreshold head s
  | .exposureCleanThreshold head => Sys2Proof.Machine.execExposureCleanThreshold head s
  | .orderTimerExpiry => Sys2Proof.Machine.execOrderTimerExpiry s
  | .swathTimerExpiry => Sys2Proof.Machine.execSwathTimerExpiry s
  | .dryTimerExpiry sheet => Sys2Proof.Machine.execDryTimerExpiry sheet s
  | .idleSleepExpiry => Sys2Proof.Machine.execIdleSleepExpiry s
  | .idleServiceExpiry => Sys2Proof.Machine.execIdleServiceExpiry s

end Sys2Proof.Machine
end

