-- ==== Sys2Proof/Safety.lean ====
section
/-!
DEFINITION. The terms in which statements about the hub are made: when a command is taken, which blocks an operation leaves
alone, and the invariants of the records (the ordering of the parameters in 11.3, R1, R19, R29, R39, R51, R53, R61, R134,
R142, R152).
-/

namespace Sys2Proof.Machine

/-! ### Blocks and frames -/

/-- The blocks of the state. `due` and `pending` are the model's own. -/
inductive Block
  | pending | pins | chips | mode | ports | ledger | manifold | supply | tickets | feed | sheets | station | service
  | nozzles | due
deriving DecidableEq, Repr

/-- The block is the same in both states. -/
def Block.same (s t : State) : Block → Prop
  | .pending => t.pending = s.pending
  | .pins => t.pins = s.pins
  | .chips => t.chips = s.chips
  | .mode => t.mode = s.mode
  | .ports => t.ports = s.ports
  | .ledger => t.ledger = s.ledger
  | .manifold => t.manifold = s.manifold
  | .supply => t.supply = s.supply
  | .tickets => t.tickets = s.tickets
  | .feed => t.feed = s.feed
  | .sheets => t.sheets = s.sheets
  | .station => t.station = s.station
  | .service => t.service = s.service
  | .nozzles => t.nozzles = s.nozzles
  | .due => t.due = s.due

/-- Every block but the named ones is as it was. -/
def Frame (bs : List Block) (s t : State) : Prop := ∀ b, b ∉ bs → b.same s t

/-- Every port but p is as it was. -/
def OtherPorts (p : Port) (s t : State) : Prop := ∀ q, q ≠ p → t.ports.get q = s.ports.get q

/-! ### Commands of the ports -/

end Sys2Proof.Machine

namespace Sys2Proof

open Machine

/-- A command that comes in on a port, with the port. -/
def Instr.port? : Instr → Option Port
  | .frameError p _ => some p
  | .unknownCommand p _ => some p
  | .getStatus p _ => some p
  | .getReply p _ => some p
  | .getEvents p _ => some p
  | .setEventMask p _ => some p
  | .tableSel p _ _ => some p
  | .tableRead p _ => some p
  | .sheetOpen p _ _ _ _ _ _ _ _ => some p
  | .sheetClose p _ _ => some p
  | .sheetCancel p _ => some p
  | .swathAsk p _ _ _ _ _ => some p
  | .swathWithdraw p _ => some p
  | .swathTake p _ => some p
  | .swathDone p _ _ _ => some p
  | .parkState p _ => some p
  | .getOrder p _ => some p
  | .orderDone p _ _ _ _ => some p
  | .go p => some p
  | .configSet p _ _ _ => some p
  | .configLock p => some p
  | .slotMapSet p _ => some p
  | .tankAccept p _ _ => some p
  | .levelRestore p _ _ => some p
  | .retiredRestore p _ _ _ => some p
  | .rollLoad p _ _ _ _ => some p
  | .cleanAsk p _ _ _ => some p
  | .feedClear p => some p
  | .stationClear p _ => some p
  | .sleepNow p => some p
  | .hubReset p _ => some p
  | _ => none

/-- A write command of the command table, with its port and its row (10.7). -/
def Instr.write? : Instr → Option (Port × Command)
  | .setEventMask p _ => some (p, Cmd.setEventMask)
  | .tableSel p _ _ => some (p, Cmd.tableSel)
  | .sheetOpen p _ _ _ _ _ _ _ _ => some (p, Cmd.sheetOpen)
  | .sheetClose p _ _ => some (p, Cmd.sheetClose)
  | .sheetCancel p _ => some (p, Cmd.sheetCancel)
  | .swathAsk p _ _ _ _ _ => some (p, Cmd.swathAsk)
  | .swathWithdraw p _ => some (p, Cmd.swathWithdraw)
  | .swathTake p _ => some (p, Cmd.swathTake)
  | .swathDone p _ _ _ => some (p, Cmd.swathDone)
  | .parkState p _ => some (p, Cmd.parkState)
  | .orderDone p _ _ _ _ => some (p, Cmd.orderDone)
  | .go p => some (p, Cmd.go)
  | .configSet p _ _ _ => some (p, Cmd.configSet)
  | .configLock p => some (p, Cmd.configLock)
  | .slotMapSet p _ => some (p, Cmd.slotMapSet)
  | .tankAccept p _ _ => some (p, Cmd.tankAccept)
  | .levelRestore p _ _ => some (p, Cmd.levelRestore)
  | .retiredRestore p _ _ _ => some (p, Cmd.retiredRestore)
  | .rollLoad p _ _ _ _ => some (p, Cmd.rollLoad)
  | .cleanAsk p _ _ _ => some (p, Cmd.cleanAsk)
  | .feedClear p => some (p, Cmd.feedClear)
  | .stationClear p _ => some (p, Cmd.stationClear)
  | .sleepNow p => some (p, Cmd.sleepNow)
  | .hubReset p _ => some (p, Cmd.hubReset)
  | _ => none

end Sys2Proof

namespace Sys2Proof.Machine

/-- The reset line is high, the command belongs to the port, and the hub is not asleep: its owning rule decides (R167). -/
abbrev State.Takes (s : State) (p : Port) (cmd : Command) : Prop :=
  s.pins.resetLow = false ∧ cmd.ports p = true ∧ s.inSleep = false

/-- The reset line is high and the mode is START or RUN. -/
abbrev State.Awake (s : State) : Prop := s.pins.resetLow = false ∧ s.inSleep = false

/-- A refusal by an owning rule or by the first two tests of R167. -/
def ReplyCode.refuses : ReplyCode → Bool
  | .unknownCommand | .notThisPort | .badOperand | .full | .noSuch | .wrongState | .locked => true
  | .none | .accepted | .clamped | .asleep => false

/-- The event is latched on every port the routing table gives it (R174). -/
def State.Latched (s : State) (e : Event) : Prop :=
  ∀ p, e.routed p = true → (s.ports.get p).events &&& e.bit = e.bit

/-- A read under way but for the kinds latched since it captured the event set. -/
def OpenRead.asBegun : OpenRead → OpenRead
  | .events returned _ sent => .events returned 0 sent
  | .table rest => .table rest
  | .asleep => .asleep

/-- What one port holds but for its latched events. -/
def PortRec.SameRecord (r r' : PortRec) : Prop :=
  r'.reply = r.reply ∧ r'.mask = r.mask ∧ r'.cursor = r.cursor ∧ r'.out = r.out ∧ r'.outBits = r.outBits ∧
    r'.reading.map OpenRead.asBegun = r.reading.map OpenRead.asBegun

/-! ### Invariants of the records -/

/-- The parameters are in range and in order (11.3). -/
def Params.Legal (p : Params) : Prop :=
  500000 ≤ p.floor ∧ p.floor ≤ 4000000 ∧ p.reserve ≤ 4000000 ∧ p.floor + p.reserve < p.refillLow ∧
    p.refillLow < p.refillHigh ∧ p.refillHigh ≤ Config.cap ∧ p.margin ≤ 50 ∧ 2 ≤ p.spitInterval ∧ p.spitInterval ≤ 60 ∧
    4 ≤ p.spitDrops ∧ p.spitDrops ≤ 64 ∧ 5 ≤ p.capDelay ∧ p.capDelay ≤ 300 ∧ 5 ≤ p.swathTimeout ∧
    p.swathTimeout ≤ 120 ∧ 2 ≤ p.orderTimeout ∧ p.orderTimeout ≤ 30 ∧ p.checkEvery ≤ 50 ∧ 1 ≤ p.idleService ∧
    p.idleService ≤ 168 ∧ p.idleSleep ≤ 240 ∧ p.inkLow ≤ 50 ∧ 50 ≤ p.nearFull ∧ p.nearFull ≤ 99 ∧ 100 ≤ p.minOpen ∧
    p.minOpen ≤ 5000

/-- Every carry is a remainder, 0..9,999 (R19), and every drop volume in 10..255 (11.3). -/
def State.ChannelsLegal (s : State) : Prop :=
  ∀ c, (s.ledger.chan.get c).carry < Config.tenths ∧ 10 ≤ (s.ledger.chan.get c).dv ∧ (s.ledger.chan.get c).dv ≤ 255

/-- Every level state is the one R2 computes from the record and the parameters. -/
def State.LevelsCurrent (s : State) : Prop :=
  ∀ c, (s.ledger.chan.get c).levelState = levelStateOf s.params (s.ledger.chan.get c)

/-- The queues and the outcome list within their places (R61, R97, R116), and the numbers next assigned in 1..255 (R62,
R98). -/
def State.QueuesFit (s : State) : Prop :=
  s.tickets.queue.length ≤ Config.ticketPlaces ∧ s.sheets.queue.length ≤ Config.sheetPlaces ∧
    s.sheets.outcomes.length ≤ Config.sheetPlaces ∧ 1 ≤ s.tickets.nextNumber ∧ s.tickets.nextNumber ≤ 255 ∧
    1 ≤ s.sheets.nextId ∧ s.sheets.nextId ≤ 255

/-- No channel is named more than twice (R39). -/
def State.MapLegal (s : State) : Prop := mapLegal s.supply.map = true

/-- The tables of one channel (R152). -/
def NozzleRec.Legal (r : NozzleRec) : Prop :=
  (r.dead.map DeadEntry.nozzle).Pairwise (· < ·) ∧ r.dead.length ≤ Config.deadMax ∧
    (∀ d ∈ r.dead, d.nozzle < Config.nozzles ∧ 1 ≤ d.misses ∧ d.misses ≤ 3) ∧
    r.retired.Pairwise (· < ·) ∧ r.retired.length ≤ Config.retiredMax ∧ (∀ n ∈ r.retired, n < Config.nozzles) ∧
    ∀ d ∈ r.dead, d.nozzle ∉ r.retired

/-- The nozzle health tables as R152 gives them, and the generation counter within its two bytes (9.1). -/
def State.NozzlesLegal (s : State) : Prop := (∀ c, (s.nozzles.chan.get c).Legal) ∧ s.nozzles.generation < 65536

/-- The ledger and what it is reserved for: Rs of a channel is the sum of the needs of the tickets that hold reservations
(R1, R23), Rv its parts and Wr all parts (R27, R28), and L is at most Cap (R1); ticket numbers are distinct (R62) and none
but the oldest ticket is GRANTED or FIRING (R61, R68). -/
structure State.Reservations (s : State) : Prop where
  swath : ∀ c, (s.ledger.chan.get c).rs = heldNeeds s.tickets.queue c
  service : ∀ c, (s.ledger.chan.get c).rv = s.ledger.spitPart.get c + s.ledger.suctionPart.get c
  waste : s.ledger.wr = (Channel.all.map fun c => s.ledger.spitPart.get c + s.ledger.suctionPart.get c).sum
  level : ∀ c, (s.ledger.chan.get c).level ≤ Config.cap
  numbers : (s.tickets.queue.map Ticket.number).Nodup
  oldest : ∀ t ∈ s.tickets.queue.tail, t.state = .queued ∨ t.state = .reserved

/-- The uncovered flag is the one R35 computes, the near-full flag the one R50 computes, and a cartridge that has taken its
whole volume is not READY (R50). -/
structure State.WasteCurrent (s : State) : Prop where
  uncovered : s.ledger.uncovered = decide (s.supply.waste.coverage < s.ledger.wa + s.ledger.wr)
  nearFull : s.supply.waste.nearFull =
    (s.supply.waste.identified && decide (s.params.nearFull * s.supply.waste.wcap ≤ s.ledger.wa * 100))
  full : s.supply.waste.state = .ready → s.ledger.wa < s.supply.waste.wcap

/-- The active item stands at a stage. -/
def State.AtStage (s : State) (g : Stage) : Prop := ∃ a, s.service.active = some a ∧ a.stages.head? = some g

/-- The active item is a CLEAN of the head and level at its SUCTION stage, and no order stands. -/
def State.AtSuction (s : State) (h : Head) (level : Nat) : Prop :=
  s.station.order.kind = .none ∧ s.station.state = .suction ∧
    ∃ a o u n, s.service.active = some a ∧ a.stages.head? = some .suction ∧ a.item.work = .clean h level o u n

/-- A move of cap or wiper and the station state it runs in (R119, R120). -/
def MoveKind.state : MoveKind → StationState
  | .cap => .capping
  | .uncap => .uncapping
  | .wipe => .wiping

/-- The station, the pump and the parts of the ledger serve the active item alone. Parts stand for the stages that the
active item has yet to end and for no others (R27, R29, R142); a SPIT or CHECK order, a wipe and a suction belong to the
stage that the item stands at (R120, R123, R124, R127); and the carriage is away only where the station is OPEN or in FAULT
(R118). -/
structure State.ServiceHolds (s : State) : Prop where
  idle : s.service.active = none → ∀ c, s.ledger.spitPart.get c = 0 ∧ s.ledger.suctionPart.get c = 0
  stages : ∀ a, s.service.active = some a → a.stages ≠ [] ∧ a.stages <:+ a.item.work.stages
  channels : ∀ a, s.service.active = some a → ∀ c, a.item.work.onChannel c = false →
    s.ledger.spitPart.get c = 0 ∧ s.ledger.suctionPart.get c = 0
  spits : ∀ a, s.service.active = some a → .spit ∉ a.stages → ∀ c, s.ledger.spitPart.get c = 0
  suctions : ∀ a, s.service.active = some a → .suction ∉ a.stages → ∀ c, s.ledger.suctionPart.get c = 0
  spitOrder : s.station.order.kind = .spit → s.AtStage .spit
  checkOrder : s.station.order.kind = .check → s.AtStage .check
  orderHeads : s.station.order.kind = .spit ∨ s.station.order.kind = .check →
    ∀ a, s.service.active = some a → s.station.order.mask = a.item.work.heads
  parkOrder : s.station.order.kind = .park → s.station.park = .away
  moves : ∀ m, s.station.move = some m → s.station.state = m.kind.state
  wipe : ∀ m, s.station.move = some m → m.kind = .wipe → s.AtStage .wipe ∧ s.station.order.kind = .none
  request : ∀ q, s.manifold.request = some q → s.AtSuction q.head q.level ∧
    s.station.suction = some { head := q.head, level := q.level, running := false }
  suction : ∀ r, s.manifold.pump = .suction r →
    s.station.suction = some { head := r.head, level := r.level, running := true } ∧
      (r.orphan = false → s.AtSuction r.head r.level)
  parked : s.station.park = .away → s.station.state = .opened ∨ s.station.state = .fault
  fault : s.station.state = .fault → s.station.order.kind = .none ∧ s.station.move = none

/-- The service queue within its places: no two items that merge wait, so one SPIT, one CHECK and one CLEAN of each head
(R134). -/
def State.ServiceQueueFits (s : State) : Prop :=
  s.service.queue.Pairwise (fun i j => i.work.mergesWith j.work = false) ∧ s.service.queue.length ≤ 5

/-- The link job queue within its places: one job of a position (R53). While the reset line is high, a job stands and a
record is held for what is inserted alone (R40, R41, R42, R49); and a stroke whose source's record stands draws from an
occupied slot (R42, R47). -/
structure State.LinkQueueFits (s : State) : Prop where
  once : (s.supply.link.jobs.map LinkJob.pos).Nodup
  length : s.supply.link.jobs.length ≤ 9
  slotJobs : s.pins.resetLow = false → ∀ j ∈ s.supply.link.jobs, ∀ k, j.pos = .slot k → s.pins.slotPresent.get k = true
  wasteJobs : s.pins.resetLow = false → ∀ j ∈ s.supply.link.jobs, j.pos = .waste → s.pins.wastePresent = true
  slots : s.pins.resetLow = false → ∀ k, (s.supply.slot.get k).state ≠ .empty → s.pins.slotPresent.get k = true
  cartridge : s.pins.resetLow = false → s.supply.waste.state ≠ .absent → s.pins.wastePresent = true
  source : ∀ r, s.manifold.pump = .stroke r → r.stands = true → (s.supply.slot.get r.source).state ≠ .empty

/-- The marks that stand at a link position. -/
def State.marksAt (s : State) (pos : LinkPos) : Option (BitVec 128) := (s.chips.at pos).map Chip.marks

end Sys2Proof.Machine

namespace Sys2Proof

/-- The command brings a new chip to the position. -/
def Instr.brings : Instr → LinkPos → Bool
  | .slotTankArrival k _, .slot k' => k == k'
  | .wasteCartridgeArrival _, .waste => true
  | _, _ => false

end Sys2Proof
end

