-- ==== Sys2Proof/Certificates/Slice0/Obligations.lean ====
section
/-!
DEFINITION. The statements for the provers, from the numbered rules of the manual. In a statement about a command, `u` is
the state that the command's own effect makes, `u.settle` what the reactions of the blocks make of it (R24, R68, R101, and
so on), and `.replied` writes the reply of R168 on the port.
-/

section
open Sys2Proof Sys2Proof.Machine

/-! ### The machine -/

/-- A step runs the command at the front of the queue on the state with the queue's rest. -/
def Obligations.StepTakesFront : Prop :=
  ∀ (s : State) (c : Instr) (rest : List Instr), s.pending = c :: rest → step s = exec c { s with pending := rest }

/-! ### Ports -/

/-- R167, R168: every write command that is taken writes its port's reply once, with the sequence advanced, wrapping from
255 to 1; a refusal's value is 0. -/
def Obligations.TakenWriteReplies : Prop :=
  ∀ (c : Instr) (s : State) (p : Port) (cmd : Command), c.write? = some (p, cmd) → s.Takes p cmd →
    ((∃ park, c = .hubReset p park) → s.inStart = true) →
    ∃ t code value, exec c s = .next t ∧
      (t.ports.get p).reply = { seq := nextByte (s.ports.get p).reply.seq, command := cmd.code, outcome := code, value := value } ∧
      (code = .accepted ∨ code = .clamped ∨ code.refuses = true) ∧ (code.refuses = true → value = 0)

/-- R168: a write command refused in START or RUN changes nothing but its port's reply and what that port drove. FEED_CLEAR
and STATION_CLEAR, whose refusals record what the survey or the sensors show, are stated by their own rules (R94, R131). -/
def Obligations.RefusedWriteChangesNothing : Prop :=
  ∀ (c : Instr) (s t : State) (p : Port) (cmd : Command), c.write? = some (p, cmd) → s.Awake → exec c s = .next t →
    (t.ports.get p).reply.outcome.refuses = true → c ≠ .feedClear p → (∀ park, c ≠ .stationClear p park) →
    Frame [.ports] s t ∧ OtherPorts p s t ∧ (t.ports.get p).events = (s.ports.get p).events ∧
      (t.ports.get p).mask = (s.ports.get p).mask ∧ (t.ports.get p).cursor = (s.ports.get p).cursor

/-- R165, R167, R168, R181: a discarded transaction leaves the reply record as it was and raises FRAME_ERROR on its port
alone; and the tests made before the owning rule. A code outside the table and a command of another port, whole or cut short
at any byte boundary, and a write in SLEEP are answered in the reply record with value 0; the reads that SLEEP answers ASLEEP
wake the hub too, and GET_STATUS is answered and does not. That each byte after such a code is answered with 00h is DEDUCED
(notes/assumptions/24.md). That a read given in parts is tested as it begins, and answered at its rise, is the model's choice
(DESIGN CHOICE, notes/assumptions/6.md). That TABLE_SEL tests whether the table is given to the port before the place is
DEDUCED (R172, notes/assumptions/19.md). -/
def Obligations.TestsBeforeTheOwningRule : Prop :=
  (∀ (s : State) (p : Port), s.pins.resetLow = false →
    (∀ code bytes, ∃ t, exec (.unknownCommand p ⟨code, bytes⟩) s = .next t ∧
      (t.ports.get p).reply = { seq := nextByte (s.ports.get p).reply.seq, command := code,
                                outcome := if code ∈ commandCodes then .notThisPort else .unknownCommand, value := 0 } ∧
      (t.ports.get p).out = BitVec.ofNat 8 (s.ports.get p).reply.seq :: List.replicate bytes 0 ∧
      (s.inSleep = false → Frame [.ports] s t ∧ OtherPorts p s t)) ∧
    (∀ c cmd, c.write? = some (p, cmd) → cmd.ports p = false → ∃ t, exec c s = .next t ∧
      (t.ports.get p).reply = { seq := nextByte (s.ports.get p).reply.seq, command := cmd.code, outcome := .notThisPort, value := 0 } ∧
      (s.inSleep = false → Frame [.ports] s t ∧ OtherPorts p s t)) ∧
    (∀ c cmd, c.write? = some (p, cmd) → cmd.ports p = true → s.inSleep = true → ∃ t, exec c s = .next t ∧
      (t.ports.get p).reply = { seq := nextByte (s.ports.get p).reply.seq, command := cmd.code, outcome := .asleep, value := 0 } ∧
      t.mode.mode = .run ∧ t.mode.idleServiceLeft = none) ∧
    (s.inSleep = false → ∀ n place x, table? n = some x → x.on p = false → ∃ t, exec (.tableSel p n place) s = .next t ∧
      (t.ports.get p).reply =
        { seq := nextByte (s.ports.get p).reply.seq, command := 0x05, outcome := .notThisPort, value := 0 } ∧
      (t.ports.get p).cursor = (s.ports.get p).cursor ∧ Frame [.ports] s t ∧ OtherPorts p s t)) ∧
  (∀ (s : State) (p : Port) (bits : Nat), s.pins.resetLow = false → s.inSleep = true →
    (∀ c cmd, (c, cmd) ∈ [(Instr.getReply p bits, Cmd.getReply), (.getOrder .cp bits, Cmd.getOrder)] ∨
        ((s.ports.get p).reading = none ∧
          (c, cmd) ∈ [(.getEvents p (.rise bits), Cmd.getEvents), (.tableRead p (.rise bits), Cmd.tableRead)]) →
      ∃ t, exec c s = .next t ∧ t.mode.mode = .run ∧
        ((t.ports.get (c.port?.getD p)).reply =
          { seq := nextByte (s.ports.get (c.port?.getD p)).reply.seq, command := cmd.code, outcome := .asleep, value := 0 })) ∧
    ((s.ports.get p).reading = none → ∀ c ∈ [Instr.getEvents p (.hold bits), .tableRead p (.hold bits)],
      ∃ t, exec c s = .next t ∧ (t.ports.get p).reading = some .asleep ∧ (t.ports.get p).reply = (s.ports.get p).reply ∧
        (t.ports.get p).events = (s.ports.get p).events ∧ Frame [.ports] s t ∧ OtherPorts p s t) ∧
    ∃ t, exec (.getStatus p bits) s = .next t ∧ t.mode = s.mode ∧ Frame [.ports] s t) ∧
  (∀ (s : State) (p : Port) (bits : Nat), s.pins.resetLow = false → (s.ports.get p).reading = some .asleep →
    ∀ c cmd, (c, cmd) ∈ [(Instr.getEvents p (.rise bits), Cmd.getEvents), (.tableRead p (.rise bits), Cmd.tableRead)] →
      ∃ t, exec c s = .next t ∧ t.inSleep = false ∧ (t.ports.get p).reply =
        { seq := nextByte (s.ports.get p).reply.seq, command := cmd.code, outcome := .asleep, value := 0 } ∧
        (t.ports.get p).reading = none ∧ (t.ports.get p).cursor = (s.ports.get p).cursor ∧
        (s.inSleep = false → (t.ports.get p).events = (s.ports.get p).events ∧ Frame [.ports] s t ∧ OtherPorts p s t)) ∧
  (∀ (s : State) (p : Port) (bits : Nat), s.Awake → 0 < bits →
    ∃ t, exec (.frameError p bits) s = .next t ∧ (t.ports.get p).reply = (s.ports.get p).reply ∧
      (t.ports.get p).events = (s.ports.get p).events ||| 2 ∧ (t.ports.get p).mask = (s.ports.get p).mask ∧
      (t.ports.get p).cursor = (s.ports.get p).cursor ∧ Frame [.ports] s t ∧ OtherPorts p s t)

/-- R170, R171, R127, R166: GET_STATUS sends the sequence number and then the status record, in every mode, and GET_ORDER
the carriage order's kind, head mask and drops; neither changes anything else. The status records have 18, 15 and 84 bytes,
and every table entry its table's length, whatever stands at the place (10.4). -/
def Obligations.StatusAndOrderAreSent : Prop :=
  (∀ (s : State) (p : Port), s.pins.resetLow = false →
    exec (.getStatus p (8 * (s.status p).length)) s =
      .next { s with ports := s.ports.set p { s.ports.get p with
        out := BitVec.ofNat 8 (s.ports.get p).reply.seq :: s.status p, outBits := 8 + 8 * (s.status p).length } }) ∧
  (∀ s : State, s.Takes .cp Cmd.getOrder →
    exec (.getOrder .cp 24) s = .next { s with ports := s.ports.set .cp { s.ports.get .cp with
      out := [BitVec.ofNat 8 (s.ports.get .cp).reply.seq, BitVec.ofNat 8 s.station.order.kind.code,
        BitVec.ofNat 8 (maskCode s.station.order.mask), BitVec.ofNat 8 s.station.order.drops]
      outBits := 32 } }) ∧
  (∀ s : State, (s.status .rp).length = 18 ∧ (s.status .cp).length = 15 ∧ (s.status .pp).length = 84) ∧
  (∀ (s : State) (x : TableId) (n : Nat), (s.tableEntry x n).length = x.entryLength)

/-- R169, stated whole: seven bytes, sequence, command, outcome and value with its most significant byte first; nothing
else changes, so the same reply is read again. -/
def Obligations.GetReplySendsRecord : Prop :=
  ∀ (s : State) (p : Port), s.Takes p Cmd.getReply →
    let r := (s.ports.get p).reply
    ∃ t, exec (.getReply p 56) s = .next t ∧
      (t.ports.get p).out = [BitVec.ofNat 8 r.seq, BitVec.ofNat 8 r.seq, BitVec.ofNat 8 r.command,
        BitVec.ofNat 8 r.outcome.code, BitVec.ofNat 8 (r.value / 256 / 256 / 256), BitVec.ofNat 8 (r.value / 256 / 256),
        BitVec.ofNat 8 (r.value / 256), BitVec.ofNat 8 r.value] ∧
      (t.ports.get p).outBits = 64 ∧ (t.ports.get p).reply = r ∧ (t.ports.get p).events = (s.ports.get p).events ∧
      (t.ports.get p).mask = (s.ports.get p).mask ∧ (t.ports.get p).cursor = (s.ports.get p).cursor ∧
      Frame [.ports] s t ∧ OtherPorts p s t

/-- R174, R175, R176: GET_EVENTS sends the set as it stood at the command byte, whole or in parts between which other things
happen; once all three bytes have been sent the kinds returned leave the set at the rise, but for those latched since the
capture, and a read cut shorter removes nothing. A kind latched while a read is under way joins the set and the newer kinds.
SET_EVENT_MASK stores the mask with position 23 as 0 and answers it; the attention line is asserted exactly while the set and
the mask have a kind in common. How a read is given in parts is the model's form (notes/assumptions/6.md). -/
def Obligations.EventsAreReadAndMasked : Prop :=
  (∀ (s : State) (p : Port), s.Takes p Cmd.getEvents →
    let r := s.ports.get p
    let bytes (m : BitVec 24) : List Byte := [m.extractLsb' 16 8, m.extractLsb' 8 8, m.extractLsb' 0 8]
    let reads (c : Clocks) (events : BitVec 24) (out : List Byte) (outBits : Nat) (reading : Option OpenRead) : Prop :=
      exec (.getEvents p c) s = .next { s with ports := s.ports.set p { r with
        events := events, out := out, outBits := outBits, reading := reading } }
    (r.reading = none →
      reads (.rise 24) 0 (BitVec.ofNat 8 r.reply.seq :: bytes r.events) 32 none ∧
      (∀ bits, ∃ out, reads (.rise bits) (if 24 ≤ bits then 0 else r.events) out (8 + bits) none) ∧
      (∀ n, n ≤ 3 → reads (.hold n) r.events (BitVec.ofNat 8 r.reply.seq :: (bytes r.events).take n) (8 + 8 * n)
        (some (.events r.events 0 n)))) ∧
    (∀ returned newer sent, r.reading = some (.events returned newer sent) →
      (∀ bits, ∃ out, reads (.rise bits)
        (if 24 ≤ 8 * sent + bits then r.events &&& ~~~(returned &&& ~~~newer) else r.events)
        (r.out ++ out) (r.outBits + bits) none ∧
        (sent ≤ 3 → bits = 8 * (3 - sent) → out = (bytes returned).drop sent)) ∧
      (∀ n, sent + n ≤ 3 → reads (.hold n) r.events (r.out ++ ((bytes returned).drop sent).take n) (r.outBits + 8 * n)
        (some (.events returned newer (sent + n)))) ∧
      (∀ e, e.routed p = true → ((s.raise e).ports.get p).events = r.events ||| e.bit ∧
        ((s.raise e).ports.get p).reading = some (.events returned (newer ||| e.bit) sent)))) ∧
  (∀ (s : State) (p : Port) (m : BitVec 24), s.Takes p Cmd.setEventMask →
    ∃ t, exec (.setEventMask p m) s = .next t ∧ (∀ i, i < 23 → (t.ports.get p).mask.getLsbD i = m.getLsbD i) ∧
      (t.ports.get p).mask.getLsbD 23 = false ∧
      (t.ports.get p).reply =
          { seq := nextByte (s.ports.get p).reply.seq, command := 0x04, outcome := .accepted, value := (t.ports.get p).mask.toNat } ∧
      (t.ports.get p).events = (s.ports.get p).events ∧ (t.ports.get p).cursor = (s.ports.get p).cursor ∧
      (t.attention p = true ↔ ∃ i, i < 23 ∧ (s.ports.get p).events.getLsbD i = true ∧ m.getLsbD i = true) ∧
      Frame [.ports] s t ∧ OtherPorts p s t)

/-- R172, stated whole. The tables, their places and their ports are those of the table list (10.4). Where a table is not
given to the port and the place lies beyond it, R172 names two refusals and no order: the statement has one of them
(TestsBeforeTheOwningRule says which the model takes). -/
def Obligations.TableSelSetsCursor : Prop :=
  ∀ (s : State) (p : Port) (n place : Nat), s.Takes p Cmd.tableSel →
    ∃ t, exec (.tableSel p n place) s = .next t ∧ Frame [.ports] s t ∧ OtherPorts p s t ∧
      (n = 0 ∨ 12 < n → (t.ports.get p).reply.outcome = .badOperand ∧ (t.ports.get p).cursor = (s.ports.get p).cursor) ∧
      (∀ x, table? n = some x → x.on p = false →
        (t.ports.get p).cursor = (s.ports.get p).cursor ∧
        (place ≤ x.places → (t.ports.get p).reply.outcome = .notThisPort) ∧
        (x.places < place → (t.ports.get p).reply.outcome = .notThisPort ∨ (t.ports.get p).reply.outcome = .badOperand)) ∧
      (∀ x, table? n = some x → x.on p = true → x.places < place →
        (t.ports.get p).reply.outcome = .badOperand ∧ (t.ports.get p).cursor = (s.ports.get p).cursor) ∧
      (∀ x, table? n = some x → x.on p = true → place ≤ x.places →
        (t.ports.get p).cursor = some { table := x, place := place } ∧
        (t.ports.get p).reply =
          { seq := nextByte (s.ports.get p).reply.seq, command := 0x05, outcome := .accepted, value := x.places })

/-- R162, R166, R173: a read of k whole entries and r bits of the next sends the entries one after another and advances the
cursor by k places, no further than the end; an entry cut short does not advance it. At the end place every entry is 0FFh
bytes, and with no table selected the bytes are 0FFh. In a read given in parts (`rest` holds what the parts before left of the
entry that had begun) each byte is that of its entry as the table stood when the entry's tag byte began: the rest of a begun
entry as it was captured, and the entries that begin in this part as they stand now; the cursor counts the entries sent whole
in all, and what is left of the entry that has begun is kept for the next part. How a read is given in parts is the model's
form (notes/assumptions/6.md). -/
def Obligations.TableReadStreamsEntries : Prop :=
  (∀ (s : State) (p : Port) (k r : Nat), s.Takes p Cmd.tableRead → (s.ports.get p).reading = none →
    (∀ cur, (s.ports.get p).cursor = some cur → r < 8 * cur.table.entryLength →
      ∃ t, exec (.tableRead p (.rise (8 * (cur.table.entryLength * k) + r))) s = .next t ∧
        (t.ports.get p).cursor = some { cur with place :=
          if cur.table.places ≤ cur.place then cur.place else min cur.table.places (cur.place + k) } ∧
        (t.ports.get p).outBits = 8 + (8 * (cur.table.entryLength * k) + r) ∧
        (t.ports.get p).out.length = 1 + cur.table.entryLength * k + (r + 7) / 8 ∧
        (t.ports.get p).out.take (1 + cur.table.entryLength * k) = BitVec.ofNat 8 (s.ports.get p).reply.seq ::
          ((List.range k).map fun i => s.tableEntry cur.table (cur.place + i)).flatten ∧
        ((t.ports.get p).out.drop (1 + cur.table.entryLength * k)).take (r / 8) =
          (s.tableEntry cur.table (cur.place + k)).take (r / 8) ∧
        (t.ports.get p).reply = (s.ports.get p).reply ∧ (t.ports.get p).events = (s.ports.get p).events ∧
        (t.ports.get p).mask = (s.ports.get p).mask ∧ (t.ports.get p).reading = none ∧ Frame [.ports] s t ∧
        OtherPorts p s t) ∧
    ((s.ports.get p).cursor = none →
      exec (.tableRead p (.rise (8 * k))) s =
        .next { s with ports := s.ports.set p { s.ports.get p with
          out := BitVec.ofNat 8 (s.ports.get p).reply.seq :: List.replicate k 0xFF, outBits := 8 + 8 * k } })) ∧
  (∀ (s : State) (p : Port) (cur : Cursor) (rest : List Byte) (n : Nat) (c : Clocks), s.Takes p Cmd.tableRead →
    (s.ports.get p).cursor = some cur → rest.length < cur.table.entryLength →
    ((s.ports.get p).reading = none ∧ rest = [] ∨ (s.ports.get p).reading = some (.table rest)) →
    c = .rise (8 * n) ∨ c = .hold n →
    let len := cur.table.entryLength
    let sent := if rest = [] then 0 else len - rest.length
    let next := if rest = [] then cur.place else cur.place + 1
    let byteAt (i : Nat) : Option Byte := if i < rest.length then rest[i]?
      else (s.tableEntry cur.table (next + (i - rest.length) / len))[(i - rest.length) % len]?
    let old := if (s.ports.get p).reading = none then [BitVec.ofNat 8 (s.ports.get p).reply.seq] else (s.ports.get p).out
    ∃ t, exec (.tableRead p c) s = .next t ∧ (t.ports.get p).out.length = old.length + n ∧
      (t.ports.get p).out.take old.length = old ∧ (∀ i, i < n → (t.ports.get p).out[old.length + i]? = byteAt i) ∧
      (t.ports.get p).cursor = some { cur with place :=
        if cur.table.places ≤ cur.place then cur.place else min cur.table.places (cur.place + (sent + n) / len) } ∧
      (c = .rise (8 * n) → (t.ports.get p).reading = none) ∧
      (c = .hold n → ∃ left, (t.ports.get p).reading = some (.table left) ∧
        left.length = (len - (sent + n) % len) % len ∧ ∀ i, i < left.length → left[i]? = byteAt (n + i)) ∧
      (t.ports.get p).reply = (s.ports.get p).reply ∧ (t.ports.get p).events = (s.ports.get p).events ∧
      (t.ports.get p).mask = (s.ports.get p).mask ∧ Frame [.ports] s t ∧ OtherPorts p s t) ∧
  (∀ (s : State) (x : TableId) (n : Nat), x.places ≤ n → s.tableEntry x n = List.replicate x.entryLength 0xFF)

/-- R168, R172, R175, R176: what a port holds but for its latched events, those newer than the capture of a GET_EVENTS under
way among them, is changed by that port's own transactions and by the resets alone. -/
def Obligations.PortRecordsArePrivate : Prop :=
  ∀ (c : Instr) (s t : State) (q : Port), exec c s = .next t → c.port? ≠ some q → (∀ park, c ≠ .powerOn park) →
    (∀ park, c ≠ .resetLineRelease park) → (∀ p park, c ≠ .hubReset p park) →
    (s.ports.get q).SameRecord (t.ports.get q)

/-! ### Sheets -/

/-- R62, R98: a ticket number and a sheet id are the first free ones from the number next assigned, counting upward and
wrapping from 255 to 1. -/
def Obligations.NumbersAreFirstFree : Prop :=
  ∀ s : State, s.QueuesFit →
    (s.ticketNumber ∉ s.tickets.queue.map Ticket.number ∧ 1 ≤ s.ticketNumber ∧ s.ticketNumber ≤ 255 ∧
      ∃ k, nextByte^[k] s.tickets.nextNumber = s.ticketNumber ∧
        ∀ j, j < k → nextByte^[j] s.tickets.nextNumber ∈ s.tickets.queue.map Ticket.number) ∧
    (s.sheetId ∉ s.sheets.queue.map Sheet.id ++ s.sheets.outcomes.map OutcomeEntry.id ∧ 1 ≤ s.sheetId ∧ s.sheetId ≤ 255 ∧
      ∃ k, nextByte^[k] s.sheets.nextId = s.sheetId ∧
        ∀ j, j < k → nextByte^[j] s.sheets.nextId ∈
          s.sheets.queue.map Sheet.id ++ s.sheets.outcomes.map OutcomeEntry.id)

/-- R100: a SHEET_OPEN that no test refuses appends a QUEUED sheet with its operands, the dry time clamped to 600 s, and
answers its id; next-id becomes the id after it. -/
def Obligations.SheetOpenAppends : Prop :=
  ∀ (s : State) (p : Port) (pref media width planned top bottom dry mode : Nat) (rp : RollPref) (cm : CutMode),
    s.Takes p Cmd.sheetOpen → s.inRun = true → rollPref? pref = some rp → cutMode? mode = some cm → media ≤ 15 →
    210 ≤ width → width ≤ 1120 → planned ≤ 30000 → 3 ≤ top → top ≤ 500 → 3 ≤ bottom → bottom ≤ 500 →
    s.sheets.queue.length < 4 →
    ∃ u, exec (.sheetOpen p pref media width planned top bottom dry mode) s =
        .next (u.settle.replied s p 0x20 (if 600 < dry then .clamped else .accepted) s.sheetId 13) ∧
      u.sheets.queue = s.sheets.queue ++
        [{ id := s.sheetId, pref := rp, media := media, width := width, planned := planned, top := top, bottom := bottom,
           dry := min dry 600, cut := cm, final := 0, state := .queued, roll := none, loadStep := none, finish := none,
           dryLeft := 0, printed := 0, ink := Six.const 0, outcome := .none }] ∧
      u.sheets.nextId = nextByte s.sheetId ∧ u.sheets.outcomes = s.sheets.outcomes ∧
      u.due = { s.due with examine := true } ∧ Frame [.sheets, .due] s u

/-- R101, R102, R103, R104, R112: where its conditions hold, the head sheet is examined: the THREADED roll is chosen if it
qualifies, then the preferred one, then UPPER and LOWER; the sheet becomes LOADING on it in step SWAP, or HELD with
MEDIA_NEEDED where none qualifies; while an older sheet is DRYING the THREADED roll alone is considered and the sheet stays as
it is without it. With no examination due nothing is examined. A LOADING sheet asks for its swap, which begins at UNTHREAD or,
with no media at the thread sensor, past it, and for its margin; before its swap is taken it chooses again where a change of
its roll's record has the roll fail a test that it passed, or has shortened a roll that is too short. That in NO_MEDIA its roll
field stays is the model's choice (DESIGN CHOICE, notes/assumptions/27.md); that a roll which a raised minimum open length has
made too short is kept at a change that leaves it as long as it was is DEDUCED (notes/assumptions/50.md). -/
def Obligations.HeadSheetLoads : Prop :=
  ∀ (s : State) (h : Sheet) (older younger : List Sheet), s.sheets.queue = older ++ h :: younger →
    let takes (x : RollRec) : Prop := (x.state = .loaded ∨ x.state = .threaded) ∧ (h.media = 0 ∨ x.media = h.media) ∧
      h.width ≤ x.width
    let covers (x : RollRec) : Prop := ∀ n, x.remaining = some n →
      (h.top + (if h.planned = 0 then s.params.minOpen else h.planned) + h.bottom + 60) * 1000 ≤ n
    let qualifies (r : Roll) : Prop := takes (s.feed.roll.get r) ∧ covers (s.feed.roll.get r)
    let lost (x y : RollRec) : Prop := (takes x ∧ ¬takes y) ∨
      (¬covers y ∧ ∃ n, y.remaining = some n ∧ ∀ m, x.remaining = some m → n < m)
    let threaded (r : Roll) : Prop := (s.feed.roll.get r).state = .threaded ∧ (s.feed.roll.get r.other).state ≠ .threaded
    let preferred (r : Roll) : Prop := h.pref = .lower ∧ r = .lower ∨ h.pref ≠ .lower ∧ r = .upper
    let chosen (r : Roll) : Prop := qualifies r ∧ (threaded r ∨ ((∀ r', threaded r' → ¬qualifies r') ∧
      (s.feed.roll.get .upper).state ≠ .threaded ∧ (s.feed.roll.get .lower).state ≠ .threaded ∧
      (preferred r ∨ ¬qualifies r.other)) ∨ (threaded r.other ∧ ¬qualifies r.other))
    let loads (r : Roll) (u : State) : Prop := u.sheets.outcomes = s.sheets.outcomes ∧ u.sheets.nextId = s.sheets.nextId ∧
      u.sheets.queue = s.sheets.queue.map (fun x =>
        if x.id = h.id then { x with state := .loading, roll := some r, loadStep := some .swap } else x)
    (s.due.examine = false → s.examine = none) ∧
    (s.due.examine = true → (h.state = .queued ∨ h.state = .held) → (∀ x ∈ older, x.state ≠ .queued ∧ x.state ≠ .held) →
      (((∃ x ∈ s.sheets.queue, x.state.isActive = true) ∨
          ∃ x ∈ older, x.cut = .cut ∧ (x.state = .drying ∨ x.state = .cutting)) →
        s.examine = some { s with due := { s.due with examine := false } }) ∧
      ((∀ x ∈ s.sheets.queue, x.state.isActive = false) →
        (∀ x ∈ older, x.cut = .cut → x.state ≠ .drying ∧ x.state ≠ .cutting) →
        ((∀ x ∈ older, x.state ≠ .drying) →
          (∀ r, chosen r → ∃ u, s.examine = some u ∧ loads r u ∧ Frame [.sheets, .due] s u) ∧
          ((∀ r, ¬qualifies r) → h.state = .queued → ∃ u, s.examine = some u ∧ u.Latched .mediaNeeded ∧
            u.sheets.queue = s.sheets.queue.map (fun x => if x.id = h.id then { x with state := .held } else x) ∧
            Frame [.ports, .sheets, .due] s u) ∧
          ((∀ r, ¬qualifies r) → h.state = .held → s.examine = some { s with due := { s.due with examine := false } })) ∧
        ((∃ x ∈ older, x.state = .drying) →
          (∀ r, threaded r → qualifies r → ∃ u, s.examine = some u ∧ loads r u ∧ Frame [.sheets, .due] s u) ∧
          ((∀ r, (s.feed.roll.get r).state = .threaded → ¬qualifies r) →
            s.examine = some { s with due := { s.due with examine := false } })))) ∧
    (h.state = .loading → s.activeSheet = some h → (∀ x ∈ s.sheets.queue, x.state ≠ .cutting) → ∀ r, h.roll = some r →
      (h.loadStep = some .swap → s.feed.path = .idle → s.feed.pathRoll = some r → (s.feed.roll.get r).state = .threaded →
        ∃ u, s.sheetAsks = some u ∧ Frame [.sheets] s u ∧ u.sheets.queue =
          s.sheets.queue.map (fun x => if x.id = h.id then { x with loadStep := some .margin } else x)) ∧
      (h.loadStep = some .swap → (s.feed.path = .idle ∨ s.feed.path = .unthreaded) → s.feed.pathRoll ≠ some r →
        (s.feed.roll.get r).state = .loaded →
        ∃ u o, s.sheetAsks = some u ∧ Frame [.feed] s u ∧ u.feed = { s.feed with path := .swapping, op := some o } ∧
          o.kind = .swap ∧ o.purpose = .load ∧ o.sheet = h.id ∧ o.target = some r ∧
          o.stage = some (if s.pins.thread then .unthread else if s.pins.actuator = r then .thread else .select) ∧
          o.left = 30000 ∧ o.orphan = false) ∧
      (h.loadStep = some .margin → s.feed.path = .idle → s.feed.pathRoll = some r → (s.feed.roll.get r).state = .threaded →
        ∃ u o, s.sheetAsks = some u ∧ Frame [.feed] s u ∧ u.feed = { s.feed with path := .advancing, op := some o } ∧
          o.kind = .advance ∧ o.purpose = .margin ∧ o.length = h.top * 1000 ∧ o.sheet = h.id ∧ o.orphan = false) ∧
      (s.due.rolls = none → s.rollsChanged = none) ∧
      (∀ old, s.due.rolls = some old →
        (h.loadStep ≠ some .swap ∨ s.feedRunsFor h.id = true ∨ ¬lost (old.get r) (s.feed.roll.get r)) →
        s.rollsChanged = some { s with due := { s.due with rolls := none } }) ∧
      (∀ old, s.due.rolls = some old → h.loadStep = some .swap → s.feedRunsFor h.id = false →
        lost (old.get r) (s.feed.roll.get r) →
        (∀ r', chosen r' → ∃ u, s.rollsChanged = some u ∧ Frame [.sheets, .due] s u ∧ u.sheets.queue =
          s.sheets.queue.map (fun x => if x.id = h.id then { x with roll := some r', loadStep := some .swap } else x)) ∧
        ((∀ r', ¬qualifies r') → ∃ u, s.rollsChanged = some u ∧ u.Latched .mediaNeeded ∧ Frame [.ports, .sheets, .due] s u ∧
          u.sheets.queue =
            s.sheets.queue.map (fun x => if x.id = h.id then { x with loadStep := some .noMedia } else x))))

/-- R106: a SHEET_CLOSE that no test refuses makes the PRINTING sheet CLOSING with its final length.
R113, R115, R116, R75: a QUEUED or HELD sheet that is cancelled leaves with outcome CANCELLED at the young end of the
outcome list, which keeps its last four entries. An active sheet loses every ticket that is not FIRING, and leaves at once
or is CANCELLING as long as a FIRING ticket or a feed operation of the sheet stands. -/
def Obligations.SheetCloseAndCancelApply : Prop :=
  (∀ (s : State) (p : Port) (id final : Nat) (h : Sheet), s.Takes p Cmd.sheetClose → s.inRun = true → 0 < id →
    final ≤ 30000 → s.findSheet id = some h → h.state = .printing →
    (final = 0 ∨ (h.cut = .cut ∧ s.committed h ≤ final * 1000 ∧
      final * 1000 ≤ s.committed h + (500 - h.bottom) * 1000 ∧ (h.planned = 0 ∨ final ≤ h.planned))) →
    ∃ u, exec (.sheetClose p id final) s = .next (u.settle.replied s p 0x21 .accepted 0 3) ∧
      u.sheets.queue = s.sheets.queue.map (fun x => if x.id = id then { x with state := .closing, final := final } else x) ∧
      u.sheets.nextId = s.sheets.nextId ∧ u.sheets.outcomes = s.sheets.outcomes ∧ Frame [.sheets] s u) ∧
  (∀ (s : State) (p : Port) (id : Nat) (h : Sheet), s.Takes p Cmd.sheetCancel → s.inRun = true → 0 < id →
    s.findSheet id = some h → (h.state = .queued ∨ h.state = .held) →
    ∃ u, exec (.sheetCancel p id) s = .next (u.settle.replied s p 0x22 .accepted 0 1) ∧
      u.sheets.queue = s.sheets.queue.filter (fun x => x.id != id) ∧
      u.sheets.outcomes = (s.sheets.outcomes ++
        [({ id := id, outcome := .cancelled, printedMm := h.printed / 1000, ink := h.ink } : OutcomeEntry)]).drop
          (s.sheets.outcomes.length + 1 - 4) ∧
      u.sheets.nextId = s.sheets.nextId ∧ u.Latched .sheetDone ∧ u.due = { s.due with examine := true } ∧
      Frame [.sheets, .ports, .due] s u) ∧
  (∀ (s : State) (p : Port) (id : Nat) (h : Sheet), s.Takes p Cmd.sheetCancel → s.inRun = true → 0 < id →
    s.findSheet id = some h → (h.state = .loading ∨ h.state = .printing ∨ h.state = .closing) →
    ∃ u, exec (.sheetCancel p id) s = .next (u.settle.replied s p 0x22 .accepted 0 1) ∧
      u.tickets.queue = s.tickets.queue.filter (fun t => t.sheet != id || t.state == .firing) ∧
      (if (s.tickets.queue.any fun t => t.sheet == id && t.state == .firing) || s.feedRunsFor id then
          u.sheets.queue = s.sheets.queue.map (fun x =>
            if x.id = id then { x with state := .cancelling, outcome := .cancelled, loadStep := none } else x) ∧
          u.sheets.outcomes = s.sheets.outcomes
        else
          u.sheets.queue = s.sheets.queue.filter (fun x => x.id != id) ∧
          u.sheets.outcomes.getLast? =
            some { id := id, outcome := .cancelled, printedMm := h.printed / 1000, ink := h.ink }) ∧
      Frame [.ports, .ledger, .tickets, .sheets, .due] s u)

/-- R108, R111: at the end of its drying a NO_CUT sheet leaves with outcome DONE and a CUT sheet goes on to its TAIL advance,
wherever in the queue it stands; the expiry itself takes the dry timer to 0. No other sheet is to act in the same moment. -/
def Obligations.DryTimerEnds : Prop :=
  ∀ (s : State) (h : Sheet) (older younger : List Sheet), s.pins.resetLow = false → s.inRun = true →
    s.sheets.queue = older ++ h :: younger → h.state = .drying →
    (∀ x ∈ older ++ younger, x.id ≠ h.id ∧ s.closingDone x = false ∧ (x.state = .cancelling → s.cancelWaits x.id = true) ∧
      (x.state = .drying → x.dryLeft ≠ 0)) →
    ∃ u v, exec (.dryTimerExpiry h.id) s = .next u.settle ∧
      u.sheets.queue = older ++ { h with dryLeft := 0 } :: younger ∧ u.sheets.outcomes = s.sheets.outcomes ∧
      u.sheets.nextId = s.sheets.nextId ∧ Frame [.sheets] s u ∧ u.sheetStep = some v ∧
      (match h.cut with
        | .noCut => v.sheets.queue = older ++ younger ∧ v.sheets.outcomes.getLast? =
            some { id := h.id, outcome := .done, printedMm := h.printed / 1000, ink := h.ink } ∧
            v.Latched .sheetDone ∧ v.due.examine = true
        | .cut => v.sheets.queue = older ++ { h with dryLeft := 0, state := .cutting, finish := some .tail } :: younger)

/-! ### Tickets and the ledger -/

/-- R19, R21: the debit and the new carry of a drop count are quotient and remainder of its exact volume; base is the least
volume that covers the predicted drops, and the need the least that covers base with the margin. R26, R27, R28: an item's
reservation passes exactly where every channel it works on is established with room for its need above Rs, Rv and F, and the
waste it makes is covered and fits. -/
def Obligations.NeedsAndRoom : Prop :=
  (∀ n dv q : Nat, q < 10000 → (convert n dv q).2 < 10000 ∧ (convert n dv q).1 * 10000 + (convert n dv q).2 = n * dv + q ∧
    (n = 0 → convert n dv q = (0, q))) ∧
  (∀ p dv m : Nat, ∃ base, p * dv ≤ base * 10000 ∧ (∀ b, p * dv ≤ b * 10000 → base ≤ b) ∧
    base * (100 + m) ≤ needOf p dv m * 100 ∧ (∀ n, base * (100 + m) ≤ n * 100 → needOf p dv m ≤ n) ∧
    (p = 0 → needOf p dv m = 0) ∧ (1 ≤ p → 10 ≤ dv → 1 ≤ needOf p dv m)) ∧
  (∀ (s : State) (w : Work),
    (s.serviceFits w = true ↔
      (∀ c, w.reservesInk = true → w.heads.get c.head = true →
        (s.ledger.chan.get c).established = true ∧
        (s.ledger.chan.get c).rs + (s.ledger.chan.get c).rv + s.serviceNeed w c + s.params.floor ≤
          (s.ledger.chan.get c).level) ∧
      (s.wasteNeed w = 0 ∨
        (s.supply.waste.state = .ready ∧ s.ledger.uncovered = false ∧
          s.ledger.wa + s.ledger.wr + s.wasteNeed w ≤ s.supply.waste.marks * s.supply.waste.wcap / 128 ∧
          s.ledger.wa + s.ledger.wr + s.wasteNeed w ≤ s.supply.waste.wcap))) ∧
    (∀ c, w.reservesInk = true → w.heads.get c.head = true → ∃ spit,
      s.serviceNeed w c = spit + (if w.level = 2 then 300000 else if w.level = 3 then 1500000 else 0) ∧
      512 * s.params.spitDrops * (s.ledger.chan.get c).dv ≤ spit * 10000 ∧
      ∀ x, 512 * s.params.spitDrops * (s.ledger.chan.get c).dv ≤ x * 10000 → spit ≤ x))

/-- R63, R64: a SWATH_ASK that no test refuses appends a QUEUED ticket with its needs fixed, and answers its number. -/
def Obligations.SwathAskAppends : Prop :=
  ∀ (s : State) (p : Port) (sheet index advance count : Nat) (pairs : List (Nat × Nat)) (h : Sheet),
    s.Takes p Cmd.swathAsk → s.inRun = true → 1 ≤ advance → advance ≤ 100000 → pairsLegal count pairs = true →
    0 < sheet → s.findSheet sheet = some h → (h.state = .loading ∨ h.state = .printing) → s.tickets.queue.length < 8 →
    (∀ c, needOf ((pairCounts pairs).get c) (s.ledger.chan.get c).dv s.params.margin ≤
      12000000 - s.params.floor - s.params.reserve) →
    (h.planned = 0 ∨ s.committed h + advance ≤ h.planned * 1000) →
    (∀ c, 0 < needOf ((pairCounts pairs).get c) (s.ledger.chan.get c).dv s.params.margin →
      s.service.failed.get c.head = false) →
    ∃ u, exec (.swathAsk p sheet index advance count pairs) s =
        .next (u.settle.replied s p 0x23 .accepted s.ticketNumber (7 + 5 * pairs.length)) ∧
      u.tickets.queue = s.tickets.queue ++
        [{ number := s.ticketNumber, sheet := sheet, index := index, advance := advance, predicted := pairCounts pairs,
           need := Six.tab fun c => needOf ((pairCounts pairs).get c) (s.ledger.chan.get c).dv s.params.margin,
           adv := .pending, state := .queued }] ∧
      u.tickets.nextNumber = nextByte s.ticketNumber ∧ u.tickets.swathLeft = s.tickets.swathLeft ∧
      u.due.pass = true ∧ Frame [.tickets, .due] s u

/-- R23, R24: while a reservation pass is due, its oldest QUEUED ticket becomes RESERVED with its needs added to Rs exactly
where every channel of its set is NORMAL and has the room; otherwise the pass ends and the failing channels' demands are
set. -/
def Obligations.PassReservesOldestQueued : Prop :=
  ∀ (s : State) (t : Ticket), s.due.pass = true → s.tickets.queue.find? (fun x => x.state == .queued) = some t →
    ((∀ c, 0 < t.need.get c → (s.ledger.chan.get c).levelState = .normal ∧
        (s.ledger.chan.get c).rs + t.need.get c + s.params.floor + s.params.reserve ≤ (s.ledger.chan.get c).volume) →
      ∃ u, s.passStep = some u ∧ u.due.pass = true ∧
        (∀ c, (u.ledger.chan.get c).rs = (s.ledger.chan.get c).rs + t.need.get c ∧
          (u.ledger.chan.get c).level = (s.ledger.chan.get c).level ∧
          (u.ledger.chan.get c).rv = (s.ledger.chan.get c).rv ∧
          (u.ledger.chan.get c).carry = (s.ledger.chan.get c).carry) ∧
        u.tickets.queue = s.tickets.queue.map (fun x => if x.number = t.number then { x with state := .reserved } else x) ∧
        Frame [.ports, .ledger, .tickets, .station, .due] s u) ∧
    (∀ c, 0 < t.need.get c → ((s.ledger.chan.get c).levelState ≠ .normal ∨
        (s.ledger.chan.get c).volume <
          (s.ledger.chan.get c).rs + t.need.get c + s.params.floor + s.params.reserve) →
      ∃ u, s.passStep = some u ∧ u.due.pass = false ∧ (u.manifold.session.get c).demand = true ∧
        Frame [.manifold, .due] s u)

/-- R68, R69: the oldest ticket becomes GRANTED, with TICKET_GRANTED, exactly where it is RESERVED, its advance is DONE, its
sheet prints, the station is OPEN with no item active and no SPIT or NOW cleaning waiting, and every channel and head of its
set is ready. A GRANTED ticket returns to RESERVED, with GRANT_WITHDRAWN, exactly where a NOW cleaning waits or a channel or
head of its set is no longer ready; a FIRING one keeps its state. -/
def Obligations.GrantsAreGivenAndWithdrawn : Prop :=
  (∀ s u : State, s.grantStep = some u →
    ∃ t rest, s.tickets.queue = t :: rest ∧ t.state = .reserved ∧ t.adv = .done ∧
      (∃ h, s.findSheet t.sheet = some h ∧ (h.state = .printing ∨ h.state = .closing)) ∧ s.station.state = .opened ∧
      s.service.active = none ∧
      (∀ i ∈ s.service.queue, (∀ m, i.work ≠ .spit m) ∧ ∀ h l o a, i.work ≠ .clean h l o .now a) ∧
      (∀ c, 0 < t.need.get c → s.params.floor < (s.ledger.chan.get c).volume ∧ s.service.failed.get c.head = false ∧
        s.station.exposure.get c.head < s.params.spitInterval * 1000) ∧
      u.tickets.queue = s.tickets.queue.map (fun x => if x.number = t.number then { x with state := .granted } else x) ∧
      u.Latched .ticketGranted ∧ Frame [.tickets, .ports] s u) ∧
  (∀ (s : State) (t : Ticket) (rest : List Ticket) (h : Sheet), s.tickets.queue = t :: rest → t.state = .reserved →
    t.adv = .done → s.findSheet t.sheet = some h → (h.state = .printing ∨ h.state = .closing) →
    s.station.state = .opened → s.service.active = none →
    (∀ i ∈ s.service.queue, (∀ m, i.work ≠ .spit m) ∧ ∀ h l o a, i.work ≠ .clean h l o .now a) →
    (∀ c, 0 < t.need.get c → s.params.floor < (s.ledger.chan.get c).volume ∧ s.service.failed.get c.head = false ∧
      s.station.exposure.get c.head < s.params.spitInterval * 1000) →
    ∃ u, s.grantStep = some u) ∧
  (∀ (s : State) (t : Ticket) (rest : List Ticket), s.tickets.queue = t :: rest →
    (t.state = .granted →
      ((∃ i ∈ s.service.queue, ∃ h l o a, i.work = .clean h l o .now a) ∨
        ∃ c, 0 < t.need.get c ∧ ((s.ledger.chan.get c).volume ≤ s.params.floor ∨ s.service.failed.get c.head = true ∨
          s.params.spitInterval * 1000 ≤ s.station.exposure.get c.head)) →
      ∃ u, s.withdrawStep = some u ∧
        u.tickets.queue = s.tickets.queue.map (fun x => if x.number = t.number then { x with state := .reserved } else x) ∧
        u.tickets.nextNumber = s.tickets.nextNumber ∧ u.Latched .grantWithdrawn ∧ u.due.arbiter = true ∧
        Frame [.ports, .tickets, .due] s u) ∧
    (t.state = .granted → (∀ i ∈ s.service.queue, ∀ h l o a, i.work ≠ .clean h l o .now a) →
      (∀ c, 0 < t.need.get c → s.params.floor < (s.ledger.chan.get c).volume ∧ s.service.failed.get c.head = false ∧
        s.station.exposure.get c.head < s.params.spitInterval * 1000) → s.withdrawStep = none) ∧
    (t.state ≠ .granted → s.withdrawStep = none))

/-- R74, R25, R63, R105: a withdrawn ticket leaves the queue, its reservation is released without debit, and a grant it held
is withdrawn. The committed length of a sheet is its printed length and the advances of its tickets that are PENDING or
RUNNING; a withdrawn ticket's PENDING advance leaves it, one that is DONE stays in the printed length, and one that runs stays
counted, so that the length it adds when it completes is never beyond the planned length: DEDUCED (notes/assumptions/38.md). -/
def Obligations.SwathWithdrawReleases : Prop :=
  (∀ (s : State) (h : Sheet), (∀ o, s.feed.op = some o → o.purpose = .ticket → o.sheet = h.id → o.orphan = false →
      ∃ t ∈ s.tickets.queue, t.number = o.ticket ∧ t.adv = .running) →
    s.committed h = h.printed +
      ((s.tickets.queue.filter fun t => t.sheet == h.id && (t.adv == .pending || t.adv == .running)).map Ticket.advance).sum) ∧
  ∀ (s : State) (p : Port) (n : Nat) (t : Ticket), s.Takes p Cmd.swathWithdraw → s.inRun = true →
    s.tickets.queue.filter (fun x => x.number == n) = [t] → t.state ≠ .firing →
    ∃ u, exec (.swathWithdraw p n) s = .next (u.settle.replied s p 0x24 .accepted 0 1) ∧
      u.tickets.queue = s.tickets.queue.filter (fun x => x.number != n) ∧
      (∀ c, (u.ledger.chan.get c).rs =
          (s.ledger.chan.get c).rs - (if t.state = .queued then 0 else t.need.get c) ∧
        (u.ledger.chan.get c).level = (s.ledger.chan.get c).level ∧
        (u.ledger.chan.get c).rv = (s.ledger.chan.get c).rv ∧
        (u.ledger.chan.get c).carry = (s.ledger.chan.get c).carry) ∧
      (t.state = .granted → u.Latched .grantWithdrawn) ∧ u.due.pass = true ∧
      (∀ h : Sheet,
        (t.adv = .pending → s.committed h = u.committed h + (if t.sheet = h.id then t.advance else 0)) ∧
        (t.adv = .done → u.committed h = s.committed h) ∧
        (∀ o, t.adv = .running → s.feed.op = some o → o.purpose = .ticket → o.sheet = t.sheet → o.ticket = n →
          o.length = t.advance → o.orphan = false → u.committed h = s.committed h)) ∧
      Frame [.ports, .ledger, .tickets, .due] s u

/-- R71, R72: a GRANTED ticket that is taken is FIRING, and its swath timer starts with the configured timeout.
R78, R30, R37, R73, R32: the report of a FIRING ticket debits each named channel by R19, releases every need, adds the
unclamped debits to the sheet's ink used and removes the ticket, with TICKET_SETTLED; at the expiry of the swath timer the
full need is debited and released instead, with CARRIAGE_TIMEOUT. -/
def Obligations.SwathsFireAndSettle : Prop :=
  (∀ (s : State) (p : Port) (n : Nat) (t : Ticket), s.Takes p Cmd.swathTake → s.inRun = true → 0 < n →
    s.findTicket n = some t → t.state = .granted →
    exec (.swathTake p n) s = .next (State.replied (State.settle { s with tickets :=
      { queue := s.tickets.queue.map (fun x => if x.number = n then { x with state := .firing } else x)
        nextNumber := s.tickets.nextNumber, swathLeft := some (s.params.swathTimeout * 1000) } }) s p 0x40 .accepted 0 1)) ∧
  (∀ (s : State) (p : Port) (n count : Nat) (pairs : List (Nat × Nat)) (t : Ticket), s.Takes p Cmd.swathDone →
    s.inRun = true → pairsLegal count pairs = true → 0 < n → s.findTicket n = some t → t.state = .firing →
    ∃ u, exec (.swathDone p n count pairs) s = .next (u.settle.replied s p 0x41 .accepted 0 (2 + 5 * pairs.length)) ∧
      (∀ c, let r := s.ledger.chan.get c
        let d := convert ((pairCount pairs c).getD 0) r.dv r.carry
        (u.ledger.chan.get c).rs = r.rs - t.need.get c ∧ (u.ledger.chan.get c).level = r.level - d.1 ∧
        (u.ledger.chan.get c).carry = d.2 ∧ (u.ledger.chan.get c).rv = r.rv ∧ (u.ledger.chan.get c).dv = r.dv) ∧
      u.sheets.queue = s.sheets.queue.map (fun h => if h.id = t.sheet then
        { h with ink := Six.tab fun c => min (h.ink.get c +
            (convert ((pairCount pairs c).getD 0) (s.ledger.chan.get c).dv (s.ledger.chan.get c).carry).1) 4294967295 }
        else h) ∧
      u.tickets.queue = s.tickets.queue.filter (fun x => x.number != n) ∧ u.tickets.swathLeft = none ∧
      u.Latched .ticketSettled ∧ u.ledger.wa = s.ledger.wa ∧ Frame [.ports, .ledger, .tickets, .sheets, .due] s u) ∧
  (∀ (s : State) (t : Ticket), s.pins.resetLow = false → s.tickets.queue.find? (fun x => x.state == .firing) = some t →
    ∃ u, exec .swathTimerExpiry s = .next u.settle ∧
      (∀ c, let r := s.ledger.chan.get c
        (u.ledger.chan.get c).rs = r.rs - t.need.get c ∧ (u.ledger.chan.get c).level = r.level - t.need.get c ∧
        (u.ledger.chan.get c).carry = r.carry ∧ (u.ledger.chan.get c).rv = r.rv) ∧
      u.sheets.queue = s.sheets.queue.map (fun h => if h.id = t.sheet then
        { h with ink := Six.tab fun c => min (h.ink.get c + t.need.get c) 4294967295 } else h) ∧
      u.tickets.queue = s.tickets.queue.filter (fun x => x.number != t.number) ∧ u.tickets.swathLeft = none ∧
      u.Latched .carriageTimeout ∧ Frame [.ports, .ledger, .tickets, .sheets, .due] s u)

/-! ### The service station -/

/-- R118, R127: PARK_STATE(PARKED) sets the park state and satisfies a PARK order that stands; AWAY in OPEN or FAULT sets
it; AWAY in any other state puts the station in FAULT with cause AWAY_REPORT and raises STATION_FAULT.
R131: STATION_CLEAR in FAULT reads the cap sensor and the park switch: a state they admit is taken, with cause NONE and
no failures counted, and OPEN reloads the cap delay; readings that admit none leave FAULT with cause SENSOR, which a refused
clear records: DEDUCED (notes/assumptions/18.md). -/
def Obligations.ParkStateAndStationClearAct : Prop :=
  (∀ (s : State) (p : Port), s.Takes p Cmd.parkState →
    (∃ u, exec (.parkState p 0) s = .next (u.settle.replied s p 0x42 .accepted 0 1) ∧ u.station.park = .parked ∧
      u.station.order = (if s.station.order.kind = .park then Order.empty else s.station.order) ∧
      u.station.failures = (if s.station.order.kind = .park then 0 else s.station.failures) ∧
      u.station.state = s.station.state ∧ Frame [.station] s u) ∧
    (s.station.state = .opened ∨ s.station.state = .fault →
      ∃ u, exec (.parkState p 1) s = .next (u.settle.replied s p 0x42 .accepted 0 1) ∧
        u.station = { s.station with park := .away } ∧ Frame [.station] s u) ∧
    (s.station.state ≠ .opened → s.station.state ≠ .fault →
      ∃ u, exec (.parkState p 1) s = .next (u.settle.replied s p 0x42 .accepted 0 1) ∧ u.station.park = .away ∧
        u.station.state = .fault ∧ u.station.cause = .awayReport ∧ u.station.move = none ∧
        u.station.order = Order.empty ∧ u.service.active = none ∧ u.Latched .stationFault ∧
        Frame [.ports, .ledger, .manifold, .supply, .station, .service, .due] s u)) ∧
  (∀ (s : State) (p : Port) (park : ParkState), s.Takes p Cmd.stationClear → s.station.state = .fault →
    (s.pins.cap = .capped → park = .parked →
      ∃ u, exec (.stationClear p park) s = .next (u.settle.replied s p 0x6A .accepted 0 0) ∧
        u.station = { s.station with park := .parked, state := .capped, cause := .none, failures := 0 } ∧
        u.due.arbiter = true ∧ u.pins = { s.pins with parkSwitch := park } ∧ Frame [.pins, .station, .due] s u) ∧
    (s.pins.cap = .opened →
      ∃ u, exec (.stationClear p park) s = .next (u.settle.replied s p 0x6A .accepted 0 0) ∧
        u.station = { s.station with
          park := park, state := .opened, cause := .none, failures := 0, move := none
          capDelayLeft := s.params.capDelay * 1000 } ∧
        u.due.arbiter = true ∧ u.pins = { s.pins with parkSwitch := park } ∧ Frame [.pins, .station, .due] s u) ∧
    (s.pins.cap = .between ∨ (s.pins.cap = .capped ∧ park = .away) →
      ∃ t, exec (.stationClear p park) s = .next t ∧ t.station = { s.station with park := park, cause := .sensor } ∧
        (t.ports.get p).reply =
          { seq := nextByte (s.ports.get p).reply.seq, command := 0x6A, outcome := .wrongState, value := 0 } ∧
        t.pins = { s.pins with parkSwitch := park } ∧ Frame [.pins, .station, .ports] s t ∧ OtherPorts p s t))

/-- R119, R120, R125, R130: the cap sensor ends the move that drives toward what it reports; CAPPED resets every exposure,
OPEN reloads the cap delay, and with no move the reading is the only change. A cap move that times out puts the station in
FAULT with cause CAP_TIMEOUT; a wipe that ends returns it to OPEN and hands over the next stage. -/
def Obligations.MovesEnd : Prop :=
  (∀ s : State, s.pins.resetLow = false →
    (∀ m, s.station.move = some m → m.kind = .cap →
      ∃ u, exec (.capSensorReport .capped) s = .next u.settle ∧ u.station.state = .capped ∧ u.station.move = none ∧
        u.station.exposure = Three.const 0 ∧ u.pins = { s.pins with cap := .capped } ∧
        Frame [.pins, .station, .service] s u) ∧
    (∀ m, s.station.move = some m → m.kind = .uncap →
      ∃ u, exec (.capSensorReport .opened) s = .next u.settle ∧
        u.station = { s.station with
          state := .opened, move := none, capDelayLeft := s.params.capDelay * 1000 } ∧
        u.pins = { s.pins with cap := .opened } ∧ Frame [.pins, .station] s u) ∧
    (s.station.move = none → ∀ x, exec (.capSensorReport x) s = .next { s with pins := { s.pins with cap := x } })) ∧
  (∀ (s : State) (m : Move), s.pins.resetLow = false → s.station.move = some m →
    (m.kind ≠ .wipe → ∃ u, exec .capMoveTimerExpiry s = .next u.settle ∧ u.station.state = .fault ∧
      u.station.cause = .capTimeout ∧ u.station.move = none ∧ u.station.order = Order.empty ∧
      u.service.active = none ∧ u.Latched .stationFault ∧
      Frame [.ports, .ledger, .manifold, .supply, .station, .service, .due] s u) ∧
    (m.kind = .wipe → ∃ u, exec .wipeTimerExpiry s = .next u.settle ∧ u.station.state = .opened ∧
      u.station.move = none ∧ u.station.capDelayLeft = s.params.capDelay * 1000 ∧
      (∀ a g rest, s.service.active = some a → a.stages = .wipe :: g :: rest →
        u.service.active = some { a with stages := g :: rest }) ∧
      Frame [.ports, .station, .service, .due] s u))

/-- R126, R135, R122: a counting exposure that reaches the spit interval sets the head's spit-sent flag and has the head in
the waiting SPIT; at four times the interval its clean-sent flag, and a CLEAN of at least level 2 waits, NOW. The cap delay
that expires while it counts makes cap due. The model's choices: that the thresholds are the first reaction to act
(DESIGN CHOICE, notes/assumptions/5.md), and that the arrival takes an exposure that has not yet grown so far to the
threshold (DESIGN CHOICE, notes/assumptions/16.md). -/
def Obligations.ExposureAndCapDelayAct : Prop :=
  (∀ (s : State) (h : Head), s.pins.resetLow = false → s.inRun = true →
    (s.station.state = .uncapping ∨ s.station.state = .opened ∨ s.station.state = .wiping ∨ s.station.state = .fault) →
    (∃ u, exec (.exposureSpitThreshold h) s = .next u.settle ∧
      u.station = { s.station with
        exposure := s.station.exposure.set h (max (s.params.spitInterval * 1000) (s.station.exposure.get h)) } ∧ Frame [.station] s u ∧
      (s.station.spitSent.get h = false → (∀ h', h' ≠ h → s.spitDueHead h' = false) →
        ∃ v, u.react = some v ∧ v.station.spitSent.get h = true ∧
          ∃ i ∈ v.service.queue, ∃ m, i.work = .spit m ∧ m.get h = true)) ∧
    (∃ u, exec (.exposureCleanThreshold h) s = .next u.settle ∧
      u.station = { s.station with
        exposure := s.station.exposure.set h (max (4 * (s.params.spitInterval * 1000)) (s.station.exposure.get h)) } ∧ Frame [.station] s u ∧
      (s.station.spitSent.get h = true → s.station.cleanSent.get h = false → s.service.failed.get h = false →
        (∀ h', h' ≠ h → s.spitDueHead h' = false ∧ s.cleanDueHead h' = false) →
        ∃ v, u.react = some v ∧ v.station.cleanSent.get h = true ∧
          ∃ i ∈ v.service.queue, ∃ l o a, i.work = .clean h l o .now a ∧ 2 ≤ l))) ∧
  (∀ s : State, s.pins.resetLow = false → s.inRun = true → s.station.state = .opened → s.service.active = none →
    (∀ t ∈ s.tickets.queue, t.state = .queued) → (∀ i ∈ s.service.queue, ∃ h l o u a, i.work = .clean h l o u a) →
    ∃ u, exec .capDelayExpiry s = .next u.settle ∧ u.station = { s.station with capDelayLeft := 0 } ∧
      Frame [.station] s u ∧
      (s.station.capDue = false → ∃ v, u.capDueActs = some v ∧ v.station = { u.station with capDue := true }))

/-- R128, R130: an order that times out leaves the record, counts one failure and raises CARRIAGE_TIMEOUT; an item's order
gives the item back, and the third failure in a row puts the station in FAULT. -/
def Obligations.OrderTimerCountsFailure : Prop :=
  ∀ s : State, s.pins.resetLow = false → s.station.order.kind ≠ .none →
    ∃ u, exec .orderTimerExpiry s = .next u.settle ∧ u.station.order = Order.empty ∧
      u.station.failures = s.station.failures + 1 ∧ u.Latched .carriageTimeout ∧
      (s.station.order.origin = some .item → u.service.active = none) ∧
      (s.station.failures + 1 < 3 → u.station.state = s.station.state ∧ u.station.cause = s.station.cause) ∧
      (3 ≤ s.station.failures + 1 → u.station.state = .fault ∧ u.station.cause = .orderTimeout ∧ u.Latched .stationFault) ∧
      Frame [.ports, .ledger, .manifold, .supply, .station, .service, .due] s u

/-- R129, R33, R125: an accepted ORDER_DONE for a SPIT debits each channel of the order's heads by R19, releases its spit
part from Rv, adds the unclamped debits to the waste accounted, resets the exposures of the heads and ends the order.
R17, R34: a suction stage that ends frees the pump, debits its volume from both channels of the head, releases their
suction parts, adds both volumes to the waste accounted, and leaves the station CAPPED with the suction over. -/
def Obligations.SpitsAndSuctionsSettle : Prop :=
  (∀ (s : State) (p : Port) (count : Nat) (pairs : List (Nat × Nat)), s.Takes p Cmd.orderDone → s.inRun = true →
    pairsLegal count pairs = true → s.station.order.kind = .spit →
    namesOutside s.station.order.mask (pairs.map Prod.fst) = false →
    ∃ u, exec (.orderDone p 1 count pairs []) s = .next (u.settle.replied s p 0x44 .accepted 0 (2 + 5 * pairs.length)) ∧
      (∀ c, let r := s.ledger.chan.get c
        let d := convert ((pairCount pairs c).getD 0) r.dv r.carry
        if s.station.order.mask.get c.head then
          (u.ledger.chan.get c).level = r.level - d.1 ∧ (u.ledger.chan.get c).carry = d.2 ∧
          (u.ledger.chan.get c).rv = r.rv - s.ledger.spitPart.get c ∧ (u.ledger.chan.get c).rs = r.rs
        else u.ledger.chan.get c = r) ∧
      u.ledger.wa = s.ledger.wa + (Channel.all.map fun c => if s.station.order.mask.get c.head then
        (convert ((pairCount pairs c).getD 0) (s.ledger.chan.get c).dv (s.ledger.chan.get c).carry).1 else 0).sum ∧
      (∀ h, s.station.order.mask.get h = true → u.station.exposure.get h = 0 ∧ u.station.spitSent.get h = false) ∧
      u.station.order = Order.empty ∧ u.station.failures = 0 ∧
      Frame [.ports, .ledger, .supply, .station, .service, .due] s u) ∧
  (∀ (s : State) (r : SuctionRun), s.pins.resetLow = false → s.manifold.pump = .suction r → r.orphan = false →
    ∃ u, exec .suctionStageEnd s = .next u.settle ∧ u.manifold = { s.manifold with pump := .free } ∧
      (∀ c, let x := s.ledger.chan.get c
        if c.head = r.head then
          (u.ledger.chan.get c).level = x.level - Config.suctionVolume r.level ∧
          (u.ledger.chan.get c).rv = x.rv - s.ledger.suctionPart.get c ∧ (u.ledger.chan.get c).rs = x.rs ∧
          (u.ledger.chan.get c).carry = x.carry
        else u.ledger.chan.get c = x) ∧
      u.ledger.wa = s.ledger.wa + 2 * Config.suctionVolume r.level ∧ u.station.state = .capped ∧
      u.station.suction = none ∧ u.station.park = s.station.park ∧
      Frame [.ports, .ledger, .manifold, .supply, .station, .service, .due] s u)

/-- R129, R144, R153, R160: an accepted ORDER_DONE for a CHECK (each overflow flag a code, notes/assumptions/15.md) makes one
change of the nozzle tables on the channels it reports, retiring after a level-3 cleaning, and ends the order; the generation
advances where a list or flag changed. -/
def Obligations.OrderDoneAppliesCheck : Prop :=
  ∀ (s : State) (p : Port) (count : Nat) (reports : List CheckReport), s.Takes p Cmd.orderDone → s.inRun = true →
    checkLegal count reports = true → s.station.order.kind = .check →
    namesOutside s.station.order.mask (reports.map CheckReport.channel) = false →
    checkIncomplete s.station.order.mask reports = false →
    ∃ u, exec (.orderDone p 2 count [] reports) s = .next (u.settle.replied s p 0x44 .accepted 0
        (2 + (reports.map fun r => 3 + 2 * r.missing.length).sum)) ∧
      (∀ c, (∀ r ∈ reports, r.channel ≠ c.toNat) → u.nozzles.chan.get c = s.nozzles.chan.get c) ∧
      (∀ c r, reports.find? (fun r => r.channel == c.toNat) = some r → u.nozzles.chan.get c =
        (let x := (s.nozzles.chan.get c).applyReport r.missing (r.overflow == 1)
         if s.checkContext.any (fun k => k.1 == 3) then x.retire.regrade else x.regrade)) ∧
      u.nozzles.generation = (if nozzlesChanged s.nozzles.chan u.nozzles.chan
        then (s.nozzles.generation + 1) % 65536 else s.nozzles.generation) ∧
      (nozzlesChanged s.nozzles.chan u.nozzles.chan = true → u.Latched .nozzleTableChanged) ∧
      u.station.order = Order.empty ∧ u.station.failures = 0 ∧ u.station.park = s.station.park ∧
      Frame [.ports, .station, .service, .nozzles, .due] s u

/-! ### The service queue -/

/-- R138, R136, R137: CLEAN_ASK at level 0 has a CHECK of the mask waiting; at levels 1 to 3 a CLEAN of origin PANEL of at
least the level waits for each head of the mask, even a FAILED one. -/
def Obligations.CleanAskQueues : Prop :=
  ∀ (s : State) (p : Port) (mask level urgency : Nat) (m : Three Bool), s.Takes p Cmd.cleanAsk →
    headMask? mask = some m → level ≤ 3 → (level = 0 ∨ urgency ≤ 1) →
    ∃ u, exec (.cleanAsk p mask level urgency) s = .next (u.settle.replied s p 0x68 .accepted 0 3) ∧
      u.due.arbiter = true ∧ Frame [.service, .due] s u ∧ u.service.active = s.service.active ∧
      u.service.failed = s.service.failed ∧
      (level = 0 → ∃ i ∈ u.service.queue, ∃ m', i.work = .check m' ∧ ∀ h, m.get h = true → m'.get h = true) ∧
      (0 < level → ∀ h, m.get h = true → ∃ i ∈ u.service.queue, ∃ l x a,
        i.work = .clean h l .panel x a ∧ level ≤ l ∧ (urgency = 0 → x = .now))

/-- R139, R140, R142: a selection that is due starts nothing outside RUN, with an item active, a ticket GRANTED or FIRING, or
the station in FAULT. Otherwise it takes the candidates in rank: the SPIT, the NOW cleanings, and in a sheet gap the CHECK and
the GAP cleanings. The first that needs no reservation or passes it starts, its needs reserved and its stages before it; each
one passed over before it keeps its place, with its last skip recorded and its demands set. -/
def Obligations.ServiceArbiterSelects : Prop :=
  ∀ s : State, s.due.arbiter = true →
    ((s.inRun = false ∨ s.service.active ≠ none ∨ s.carriageHolds = true ∨ s.station.state = .fault) →
      s.serviceArbiter = some { s with due := { s.due with arbiter := false } }) ∧
    (s.inRun = true → s.service.active = none → (∀ t ∈ s.tickets.queue, t.state = .queued ∨ t.state = .reserved) →
      s.station.state ≠ .fault → (s.service.queue.map Item.born).Nodup →
      let q := s.service.queue
      let now := q.filter (fun i => match i.work with | .clean _ _ _ .now _ => true | _ => false)
      let gap := q.filter (fun i => match i.work with | .clean _ _ _ .gap _ => true | _ => false)
      let spit := q.filter (fun i => match i.work with | .spit _ => true | _ => false)
      let check := q.filter (fun i => match i.work with | .check _ => true | _ => false)
      let candidates := spit ++ now ++ (if s.activeSheet = none then check ++ gap else [])
      let passedOver (l : List Item) (u : State) : Prop := ∀ i ∈ l, ∃ x, { i with skip := x } ∈ u.service.queue ∧
        ((∀ c, s.serviceFails i.work c = false) → x = .waste) ∧
        (∀ c, s.serviceFails i.work c = true → (u.session c).demand = true ∧
          (s.wasteFits i.work = true → (∀ c', c'.toNat < c.toNat → s.serviceFails i.work c' = false) → x = .ink c))
      (∀ pre i post, candidates = pre ++ i :: post → (∀ j ∈ pre, j.work.reservesInk = true ∧ s.serviceFits j.work = false) →
        (i.work.reservesInk = false ∨ s.serviceFits i.work = true) →
        ∃ u, s.serviceArbiter = some u ∧ u.service.active = some { item := i, stages := i.work.stages } ∧
          (u.service.queue.map fun j => (j.born, j.work)) =
            ((q.filter fun j => j.born ≠ i.born).map fun j => (j.born, j.work)) ∧
          passedOver pre u ∧ u.station.capDue = false ∧ u.ledger.wr = s.ledger.wr + s.wasteNeed i.work ∧
          (∀ c, (u.ledger.chan.get c).rv = (s.ledger.chan.get c).rv + s.serviceNeed i.work c ∧
            (u.ledger.chan.get c).level = (s.ledger.chan.get c).level ∧
            (u.ledger.chan.get c).rs = (s.ledger.chan.get c).rs ∧
            (u.ledger.chan.get c).carry = (s.ledger.chan.get c).carry) ∧
          Frame [.ports, .ledger, .manifold, .supply, .station, .service, .due] s u) ∧
      ((∀ j ∈ candidates, j.work.reservesInk = true ∧ s.serviceFits j.work = false) →
        ∃ u, s.serviceArbiter = some u ∧ u.service.active = none ∧
          (u.service.queue.map fun j => (j.born, j.work)) = (q.map fun j => (j.born, j.work)) ∧
          passedOver candidates u ∧ u.due.arbiter = false ∧ Frame [.manifold, .supply, .service, .due] s u))

/-- R123, R124, R127, R142: what the station does for the stage the active item stands at, in RUN with no move running: a
stage whose need holds is performed or ends at once, and one whose need does not hold is brought to it, PARK before a move and
the move before an order. The end of a stage hands over the next. Outside RUN, in FAULT and while a move runs nothing is
done. -/
def Obligations.StagesAreDriven : Prop :=
  ∀ (s : State) (a : ActiveItem) (g : Stage) (rest : List Stage), s.service.active = some a → a.stages = g :: rest →
    let ended (u : State) : Prop := u = s.endStage
    let ordered (k : OrderKind) (m : Three Bool) (drops : Nat) (u : State) : Prop :=
      u.station = { s.station with
        order := { kind := k, mask := m, drops := drops, origin := some .item, left := s.params.orderTimeout * 1000 } } ∧
      u.Latched .orderReady ∧ Frame [.ports, .station] s u
    let moving (k : MoveKind) (x : StationState) (ms : Nat) (u : State) : Prop :=
      u = { s with station := { s.station with state := x, move := some { kind := k, left := ms } } }
    ((s.inRun = false ∨ s.station.move ≠ none ∨ s.station.state = .fault) → s.driveStage = none) ∧
    (s.inRun = true → s.station.move = none → s.station.state ≠ .fault →
      (g = .park → s.station.park = .parked → ∃ u, s.driveStage = some u ∧ ended u) ∧
      (g = .cap → s.station.state = .capped → ∃ u, s.driveStage = some u ∧ ended u) ∧
      (g = .uncap → s.station.state = .opened → ∃ u, s.driveStage = some u ∧ ended u) ∧
      ((g = .park ∨ ((g = .cap ∨ g = .wipe ∨ g = .suction) ∧ s.station.state = .opened)) → s.station.park = .away →
        s.station.order.kind = .none →
        ∃ u, s.driveStage = some u ∧ ordered .park (Three.const false) 0 u) ∧
      ((g = .cap ∨ g = .suction) → s.station.state = .opened → s.station.park = .parked → s.pins.cap ≠ .capped →
        ∃ u, s.driveStage = some u ∧ moving .cap .capping 3000 u) ∧
      ((g = .uncap ∨ g = .wipe ∨ g = .spit ∨ g = .check) → s.station.state = .capped → s.station.park = .parked →
        s.pins.cap ≠ .opened → ∃ u, s.driveStage = some u ∧ moving .uncap .uncapping 3000 u) ∧
      (g = .wipe → s.station.state = .opened → s.station.park = .parked →
        ∃ u, s.driveStage = some u ∧ moving .wipe .wiping 1500 u) ∧
      (g = .suction → s.station.state = .capped → s.station.suction = none → ∀ h l o x n, a.item.work = .clean h l o x n →
        ∃ u, s.driveStage = some u ∧ u.station = { s.station with
            state := .suction, suction := some { head := h, level := l, running := false } } ∧
          u.manifold.request = some { head := h, level := l } ∧ u.manifold.pump = s.manifold.pump ∧
          Frame [.manifold, .station] s u) ∧
      (g = .spit → s.station.state = .opened → s.station.order.kind = .none →
        ∃ u, s.driveStage = some u ∧ ordered .spit a.item.work.heads s.params.spitDrops u) ∧
      (g = .check → s.station.state = .opened → s.station.order.kind = .none →
        ∃ u, s.driveStage = some u ∧ ordered .check a.item.work.heads 0 u)) ∧
    (rest ≠ [] → s.endStage = { s with service := { s.service with active := some { a with stages := rest } } })

/-- R143 to R148: the last stage's end ends the item. A cleaning that leaves a channel of its head POOR and is not the panel's
asks for the next one a level higher, NOW and at the next attempt, and after the third attempt the head is FAILED, with
HEAD_FAILED, and no automatic CLEAN of it waits; a panel's cleaning that leaves none POOR clears the mark. The exposure of the
cleaned head is reset. An item given back releases its parts without debit and returns, unchanged, to the place its first
queuing gives it. -/
def Obligations.ItemsEndOrAreGivenBack : Prop :=
  ∀ (s : State) (a : ActiveItem) (g : Stage), s.service.active = some a →
    (a.stages = [g] → (∀ h l o x n, a.item.work ≠ .clean h l o x n) →
      s.endStage = { s with service := { s.service with active := none }, due := { s.due with arbiter := true } }) ∧
    (∀ h l o x n, a.stages = [g] → a.item.work = .clean h l o x n →
      let u := s.endStage
      let poor : Prop := ∃ c, c.head = h ∧ (s.nozzles.chan.get c).grade = .poor
      u.service.active = none ∧ u.due.arbiter = true ∧ Frame [.ports, .station, .service, .due] s u ∧
        u.station = { s.station with
          exposure := s.station.exposure.set h 0, spitSent := s.station.spitSent.set h false
          cleanSent := s.station.cleanSent.set h false } ∧
        (∀ i ∈ u.service.queue, ∀ m, i.work = .spit m → m.get h = false) ∧
        (∀ h', h' ≠ h → u.service.failed.get h' = s.service.failed.get h') ∧
        (o ≠ .panel → poor → n < 3 → s.service.failed.get h = false →
          u.service.failed.get h = false ∧ ∃ i ∈ u.service.queue, ∃ l' o' n', i.work = .clean h l' o' .now n' ∧
            min (l + 1) 3 ≤ l' ∧ n + 1 ≤ n') ∧
        (o ≠ .panel → poor → n < 3 → s.service.failed.get h = true → u.service.failed.get h = true ∧
          ∀ i ∈ u.service.queue, ∃ j ∈ s.service.queue, j.born = i.born) ∧
        (o ≠ .panel → poor → 3 ≤ n → u.service.failed.get h = true ∧
          (s.service.failed.get h = false → u.Latched .headFailed) ∧
          ∀ i ∈ u.service.queue, ∀ l' o' x' n', i.work = .clean h l' o' x' n' → o' = .panel) ∧
        (¬poor → u.service.failed.get h = (if o = .panel then false else s.service.failed.get h)) ∧
        (o = .panel → poor → u.service.failed.get h = s.service.failed.get h) ∧
        (¬poor ∨ o = .panel → ∀ i ∈ u.service.queue, ∃ j ∈ s.service.queue, j.born = i.born)) ∧
    (∀ u, u = s.giveBack →
      u.service.active = none ∧ u.due.arbiter = true ∧ Frame [.ports, .ledger, .supply, .service, .due] s u ∧
        u.service.failed = s.service.failed ∧ u.ledger.wa = s.ledger.wa ∧
        u.ledger.spitPart = Six.const 0 ∧ u.ledger.suctionPart = Six.const 0 ∧
        (∀ c, (u.ledger.chan.get c).level = (s.ledger.chan.get c).level ∧
          (u.ledger.chan.get c).rs = (s.ledger.chan.get c).rs ∧ (u.ledger.chan.get c).carry = (s.ledger.chan.get c).carry ∧
          (u.ledger.chan.get c).rv =
            (s.ledger.chan.get c).rv - s.ledger.spitPart.get c - s.ledger.suctionPart.get c) ∧
        (∀ h l o x n, a.item.work = .clean h l o x n → o ≠ .panel → s.service.failed.get h = true →
          u.service.queue = s.service.queue) ∧
        ((∀ h l o x n, a.item.work = .clean h l o x n → o = .panel ∨ s.service.failed.get h = false) →
          (∀ j ∈ s.service.queue, j.work.mergesWith a.item.work = false) →
          ∃ pre post, s.service.queue = pre ++ post ∧ u.service.queue = pre ++ a.item :: post ∧
            (∀ j ∈ pre, j.born ≤ a.item.born) ∧ ∀ j, post.head? = some j → a.item.born < j.born))

/-! ### Nozzle health -/

/-- R154 to R157: after a report, a dead entry that is missing again counts one miss more, held at 3, one that is not is
gone, a new one stands at 1, and the overflow flag tells whether the report or the list left any out. Retirement moves the
entries with three misses, as far as the retired list has room. -/
def Obligations.CheckReportsAndRetirement : Prop :=
  (∀ (r : NozzleRec) (reported : List Nat) (flag : Bool), r.Legal → (∀ n ∈ reported, n < 512) →
    let r' := r.applyReport reported flag
    r'.Legal ∧ r'.retired = r.retired ∧
    (∀ d ∈ r.dead, d.nozzle ∈ reported → { d with misses := min 3 (d.misses + 1) } ∈ r'.dead) ∧
    (∀ d ∈ r'.dead, d.nozzle ∈ reported ∧ ((∃ e ∈ r.dead, e.nozzle = d.nozzle ∧ d.misses = min 3 (e.misses + 1)) ∨
      ((∀ e ∈ r.dead, e.nozzle ≠ d.nozzle) ∧ d.misses = 1))) ∧
    (r'.overflow = true ↔ flag = true ∨ ∃ n ∈ reported, n ∉ r.retired ∧ ∀ d ∈ r'.dead, d.nozzle ≠ n)) ∧
  (∀ r : NozzleRec, r.Legal →
    r.retire.Legal ∧ r.retire.overflow = r.overflow ∧ (∀ n ∈ r.retired, n ∈ r.retire.retired) ∧
    (∀ d ∈ r.dead, d.misses ≠ 3 → d ∈ r.retire.dead) ∧
    (∀ d ∈ r.dead, d.misses = 3 → (d.nozzle ∈ r.retire.retired ↔ d ∉ r.retire.dead)) ∧
    (r.exhausted = false → ∀ d ∈ r.retire.dead, d.misses ≠ 3) ∧
    (r.exhausted = true → r.retire.retired.length = 16))

/-- R161, R158, R160: RETIRED_RESTORE in START replaces the channel's retired list, takes its nozzles out of the dead list and
regrades; in RUN it is refused, and in SLEEP answered ASLEEP. That the mode is tested before the operands is DEDUCED
(notes/assumptions/19.md). -/
def Obligations.RetiredRestoreReplaces : Prop :=
  ∀ (s : State) (p : Port) (channel count : Nat) (indices : List Nat),
    (s.Takes p Cmd.retiredRestore → s.inStart = true → ∀ c, Channel.ofNat? channel = some c → count ≤ 16 →
      indices.length = count → (∀ n ∈ indices, n < 512) →
      ∃ t, exec (.retiredRestore p channel count indices) s = .next t ∧
        (t.ports.get p).reply =
          { seq := nextByte (s.ports.get p).reply.seq, command := 0x66, outcome := .accepted, value := 0 } ∧
        (t.nozzles.chan.get c).retired.Pairwise (· < ·) ∧ (∀ n, n ∈ (t.nozzles.chan.get c).retired ↔ n ∈ indices) ∧
        (t.nozzles.chan.get c).dead = (s.nozzles.chan.get c).dead.filter (fun d => !indices.contains d.nozzle) ∧
        (t.nozzles.chan.get c).overflow = (s.nozzles.chan.get c).overflow ∧
        (t.nozzles.chan.get c).grade =
          (if (s.nozzles.chan.get c).overflow then .poor
           else if (t.nozzles.chan.get c).dead.length ≤ 2 then .good
           else if (t.nozzles.chan.get c).dead.length ≤ 8 then .fair else .poor) ∧
        (∀ c', c' ≠ c → t.nozzles.chan.get c' = s.nozzles.chan.get c') ∧
        (if (t.nozzles.chan.get c).retired = (s.nozzles.chan.get c).retired ∧
            (t.nozzles.chan.get c).dead = (s.nozzles.chan.get c).dead then t.nozzles.generation = s.nozzles.generation
          else t.nozzles.generation = (s.nozzles.generation + 1) % 65536 ∧ t.Latched .nozzleTableChanged) ∧
        Frame [.ports, .nozzles] s t) ∧
    (s.Takes p Cmd.retiredRestore → s.inRun = true →
      exec (.retiredRestore p channel count indices) s =
        .next (s.replied s p 0x66 .wrongState 0 (2 + 2 * indices.length))) ∧
    (s.Takes p Cmd.retiredRestore → s.inStart = true → (5 < channel ∨ 16 < count ∨ ∃ n ∈ indices, 512 ≤ n) →
      exec (.retiredRestore p channel count indices) s =
        .next (s.replied s p 0x66 .badOperand 0 (2 + 2 * indices.length))) ∧
    (s.pins.resetLow = false → p = .pp → s.inSleep = true →
      ∃ t, exec (.retiredRestore p channel count indices) s = .next t ∧
        (t.ports.get p).reply.outcome = .asleep ∧ t.nozzles = s.nozzles)

/-! ### The manifold, the slots and the link -/

/-- R9, R10, R11, R16, R17, R60: the stroke test of a session on its channel's ACTIVE slot, the conditions under which a
session starts, resumes or ends, and what follows a completed stroke. At the emptying after a soft reset a session in WAIT_MARK
asks again for its job, and one that no longer has to wait makes the stroke test instead. The stroke volume is the least of 250,000 nL, the room in the
reservoir and what the tank still holds, and the target the least count of marks that covers it. -/
def Obligations.RefillSessionsFollowTheirTests : Prop :=
  ∀ (s : State) (c : Channel),
    let x := s.manifold.session.get c
    let r := s.ledger.chan.get c
    let claims : Prop := s.manifold.request ≠ none ∨ ∃ q, s.manifold.pump = .suction q
    (s.supply.activeSlot c = none → ((s.strokeTest c).session c).state = .idle) ∧
    (∀ k, s.supply.activeSlot c = some k →
      let z := s.supply.slot.get k
      ∃ v, v = min 250000 (min (12000000 - (if r.established then r.level else 0)) (z.capacity - z.drawn)) ∧
        Frame [.manifold, .supply] s (s.strokeTest c) ∧ (s.strokeTest c).supply.slot = s.supply.slot ∧
        (s.strokeTest c).manifold.pump = s.manifold.pump ∧
        (∀ c', c' ≠ c → (s.strokeTest c).session c' = s.session c') ∧
        ((s.strokeTest c).session c).demand = x.demand ∧
        (v = 0 → ((s.strokeTest c).session c).state = .idle) ∧
        (0 < v → z.manual = false → z.marks * z.capacity < (z.drawn + v) * 128 →
          ((s.strokeTest c).session c).state = .waitMark ∧ ((s.strokeTest c).session c).waitSlot = some k ∧
          (z.drawn + v) * 128 ≤ ((s.strokeTest c).session c).target * z.capacity ∧
          (∀ n, (z.drawn + v) * 128 ≤ n * z.capacity → ((s.strokeTest c).session c).target ≤ n) ∧
          ∃ j ∈ (s.strokeTest c).supply.link.jobs, j.pos = .slot k ∧
            (j.kind = .identify ∨ min 128 ((s.strokeTest c).session c).target ≤ j.target)) ∧
        (0 < v → (z.manual = true ∨ (z.drawn + v) * 128 ≤ z.marks * z.capacity) →
          (claims → ((s.strokeTest c).session c).state = .suspended) ∧
          (¬claims → ((s.strokeTest c).session c).state = .want))) ∧
    (x.state = .idle →
      (s.inRun = true → s.supply.activeSlot c ≠ none →
        (r.established = false ∨ r.level < s.params.refillLow ∨ x.demand = true) →
        s.sessionReacts c = some (State.strokeTest { s with manifold := { s.manifold with
          session := s.manifold.session.set c { x with demand := false } } } c)) ∧
      ((s.inRun = false ∨ s.supply.activeSlot c = none ∨
        (r.established = true ∧ s.params.refillLow ≤ r.level ∧ x.demand = false)) → s.sessionReacts c = none)) ∧
    ((x.state = .want ∨ x.state = .suspended ∨ x.state = .waitMark) → s.supply.activeSlot c = none →
      ∃ u, s.sessionReacts c = some u ∧ (u.session c).state = .idle ∧ Frame [.manifold] s u) ∧
    (∀ k, s.supply.activeSlot c = some k →
      (x.state = .want → s.sessionReacts c = none) ∧
      (x.state = .suspended → (claims → s.sessionReacts c = none) ∧ (¬claims → s.sessionReacts c = some (s.strokeTest c))) ∧
      (x.state = .waitMark →
        (x.waitSlot ≠ some k ∨ x.target ≤ (s.supply.slot.get k).marks → s.sessionReacts c = some (s.strokeTest c)) ∧
        (x.waitSlot = some k → (s.supply.slot.get k).marks < x.target → s.sessionReacts c = none))) ∧
    (x.state = .waitMark → ∀ k, x.waitSlot = some k →
      (s.sessionReacts c = none → s.askAgain c = s.requestMark (.slot k) x.target) ∧
      (∀ u, s.sessionReacts c = some u → s.askAgain c = u)) ∧
    (x.state ≠ .waitMark → s.askAgain c = s) ∧
    (x.state = .stroke → s.sessionReacts c = none ∧ ∀ tripped,
      ((tripped = true ∨ (r.established = true ∧ s.params.refillHigh ≤ r.level) ∨ s.supply.activeSlot c = none) →
        ((s.afterStroke c tripped).session c).state = .idle ∧ Frame [.manifold] s (s.afterStroke c tripped)) ∧
      (tripped = false → (r.established = false ∨ r.level < s.params.refillHigh) → s.supply.activeSlot c ≠ none →
        s.afterStroke c tripped = s.strokeTest c))

/-- R12, R13, R15, R7: a pump that is not FREE is left alone. A FREE one goes to the suction request first, and otherwise to
the first session in WANT after the last-served channel: with its probe wet the channel is full and its session over, and
else, the marks covering the draw from the ACTIVE slot, its stroke starts. A suction request has every session in WANT
SUSPENDED. -/
def Obligations.PumpArbiterServes : Prop :=
  ∀ s : State,
    (s.manifold.pump ≠ .free → s.pumpArbiter = none) ∧
    (∀ q, s.manifold.pump = .free → s.manifold.request = some q →
      s.pumpArbiter = some { s with
        manifold := { s.manifold with
          request := none
          pump := .suction { head := q.head, level := q.level, left := if q.level = 2 then 3000 else 8000, orphan := false } }
        station := { s.station with suction := some { head := q.head, level := q.level, running := true } } }) ∧
    (s.manifold.pump = .free → s.manifold.request = none →
      ((∀ c, (s.session c).state ≠ .want) → s.pumpArbiter = none) ∧
      (∀ c n, (s.session c).state = .want → n < 6 → Channel.next^[n + 1] s.manifold.lastServed = c →
        (∀ m, m < n → (s.session (Channel.next^[m + 1] s.manifold.lastServed)).state ≠ .want) →
        (s.pins.probeWet.get c = true → ∃ u, s.pumpArbiter = some u ∧ (u.ledger.chan.get c).level = 12000000 ∧
          (u.ledger.chan.get c).established = true ∧ (u.ledger.chan.get c).carry = (s.ledger.chan.get c).carry ∧
          (∀ c', c' ≠ c → u.ledger.chan.get c' = s.ledger.chan.get c') ∧
          (u.session c).state = .idle ∧ (u.session c).demand = false ∧ u.manifold.pump = .free ∧
          u.manifold.lastServed = s.manifold.lastServed ∧ Frame [.ports, .ledger, .manifold, .due] s u) ∧
        (s.pins.probeWet.get c = false → ∀ k, s.supply.activeSlot c = some k →
          let z := s.supply.slot.get k
          let r := s.ledger.chan.get c
          ∀ v, v = min 250000 (min (12000000 - (if r.established then r.level else 0)) (z.capacity - z.drawn)) →
            0 < v → (z.manual = true ∨ (z.drawn + v) * 128 ≤ z.marks * z.capacity) →
            ∃ u, s.pumpArbiter = some u ∧
              u.manifold.pump = .stroke { channel := c, volume := v, source := k, stands := true, left := 400 } ∧
              u.manifold.lastServed = c ∧ (u.session c).state = .stroke ∧
              (∀ c', c' ≠ c → u.session c' = s.session c') ∧ Frame [.manifold] s u))) ∧
    (∀ (h : Head) (level : Nat),
      let u := s.requestSuction h level
      u.manifold.request = some { head := h, level := level } ∧ u.manifold.pump = s.manifold.pump ∧
        (∀ c, (u.session c).state = (if (s.session c).state = .want then .suspended else (s.session c).state) ∧
          (u.session c).demand = (s.session c).demand) ∧ Frame [.manifold] s u)

/-- R7, R13, R14: a stroke that completes frees the pump, adds its full volume to what its source has drawn while the
source's record stands, and credits an established level up to Cap; a probe trip of its channel ends it at once at Cap, with
the level established. A trip of another channel and a probe turning dry change their reading alone. The reservations are then
re-attempted, and the stroke's session is decided by R16 after them and before the pump arbiter selects: a tripped one ends at
IDLE. That a selection of the service arbiter and the sessions that the re-attempts start come before that decision, too, is
DEDUCED (notes/assumptions/51.md). -/
def Obligations.StrokesComplete : Prop :=
  (∃ before after, reactions = before ++ State.strokeStep :: after ∧ State.passStep ∈ before ∧ State.sessionStep ∈ before ∧
    State.pumpArbiter ∈ after) ∧
  (∀ s : State, (s.due.stroke = none → s.strokeStep = none) ∧
    ∀ e, s.due.stroke = some e → (s.due.arbiter = true → s.strokeStep = s.serviceArbiter) ∧
      (s.due.arbiter = false → s.strokeStep =
          some (State.afterStroke { s with due := { s.due with stroke := none } } e.channel e.tripped) ∧
        (e.tripped = true → (s.session e.channel).state = .stroke →
          ∃ u, s.strokeStep = some u ∧ (u.session e.channel).state = .idle ∧ Frame [.manifold, .due] s u))) ∧
  ∀ (s : State) (r : StrokeRun), s.pins.resetLow = false → s.manifold.pump = .stroke r →
    (∃ u, exec .strokeTimerExpiry s = .next u.settle ∧ u.manifold.pump = .free ∧ (∀ c, u.session c = s.session c) ∧
      u.due.stroke = some { channel := r.channel, tripped := false } ∧
      (∀ c, (u.ledger.chan.get c).level =
          (if c = r.channel ∧ (s.ledger.chan.get c).established = true
            then min 12000000 ((s.ledger.chan.get c).level + r.volume) else (s.ledger.chan.get c).level) ∧
        (u.ledger.chan.get c).established = (s.ledger.chan.get c).established ∧
        (u.ledger.chan.get c).carry = (s.ledger.chan.get c).carry ∧
        (u.ledger.chan.get c).rs = (s.ledger.chan.get c).rs ∧ (u.ledger.chan.get c).rv = (s.ledger.chan.get c).rv) ∧
      (∀ k, (u.supply.slot.get k).drawn = (s.supply.slot.get k).drawn + (if k = r.source ∧ r.stands = true then r.volume else 0)) ∧
      Frame [.ports, .ledger, .manifold, .supply, .due] s u) ∧
    (∃ u, exec (.probeTrip r.channel true) s = .next u.settle ∧ u.manifold.pump = .free ∧
      (∀ c, u.session c = s.session c) ∧ u.due.stroke = some { channel := r.channel, tripped := true } ∧
      (∀ c, (u.ledger.chan.get c).level = (if c = r.channel then 12000000 else (s.ledger.chan.get c).level) ∧
        (u.ledger.chan.get c).established = (if c = r.channel then true else (s.ledger.chan.get c).established) ∧
        (u.ledger.chan.get c).carry = (s.ledger.chan.get c).carry ∧
        (u.ledger.chan.get c).rs = (s.ledger.chan.get c).rs ∧ (u.ledger.chan.get c).rv = (s.ledger.chan.get c).rv) ∧
      (∀ k, (u.supply.slot.get k).drawn = (s.supply.slot.get k).drawn + (if k = r.source ∧ r.stands = true then r.volume else 0)) ∧
      u.pins = { s.pins with probeWet := s.pins.probeWet.set r.channel true } ∧
      Frame [.pins, .ports, .ledger, .manifold, .supply, .due] s u) ∧
    (∀ c wet, c ≠ r.channel ∨ wet = false →
      exec (.probeTrip c wet) s = .next { s with pins := { s.pins with probeWet := s.pins.probeWet.set c wet } })

/-- R41, R42, R49, R36, R51: a tank or a cartridge that arrives, its chip with no latch held and no write cycle running, is
IDENTIFYING with nothing known of it, and its IDENTIFY job is appended; one that leaves clears its record and drops its job, a
running stroke forgets the record it started from, and the waste accounted becomes 0. -/
def Obligations.SuppliesComeAndGo : Prop :=
  ∀ s : State, s.Awake →
    (∀ k chip, s.pins.slotPresent.get k = false → ∃ u, exec (.slotTankArrival k chip) s = .next u.settle ∧
      u.supply.slot = s.supply.slot.set k { SlotRec.cleared with state := .identifying } ∧
      u.supply.link.jobs = s.supply.link.jobs ++ [LinkJob.identify (.slot k)] ∧
      u.chips = { s.chips with slot := s.chips.slot.set k (some { chip with latched := false, busyLeft := 0 }) } ∧
      u.pins = { s.pins with slotPresent := s.pins.slotPresent.set k true } ∧ u.supply.map = s.supply.map ∧
      Frame [.pins, .chips, .ports, .supply] s u) ∧
    (∀ k, s.pins.slotPresent.get k = true → ∃ u, exec (.slotTankRemoval k) s = .next u.settle ∧
      u.supply.slot.get k = SlotRec.cleared ∧
      (∀ k', k' ≠ k → (u.supply.slot.get k').identity = (s.supply.slot.get k').identity ∧
        (u.supply.slot.get k').marks = (s.supply.slot.get k').marks ∧
        (u.supply.slot.get k').drawn = (s.supply.slot.get k').drawn ∧
        (u.supply.slot.get k').capacity = (s.supply.slot.get k').capacity) ∧
      (∀ j ∈ u.supply.link.jobs, j.pos ≠ .slot k) ∧
      (∀ r, s.manifold.pump = .stroke r →
        u.manifold.pump = .stroke { r with stands := r.stands && r.source != k }) ∧
      u.chips = { s.chips with slot := s.chips.slot.set k none } ∧
      u.pins = { s.pins with slotPresent := s.pins.slotPresent.set k false } ∧ u.supply.map = s.supply.map ∧
      Frame [.pins, .chips, .ports, .manifold, .supply] s u) ∧
    (∀ chip, s.pins.wastePresent = false → ∃ u, exec (.wasteCartridgeArrival chip) s = .next u.settle ∧
      u.supply.waste = { WasteRec.cleared with state := .identifying } ∧ u.ledger.wa = s.ledger.wa ∧
      u.ledger.chan = s.ledger.chan ∧ u.supply.link.jobs = s.supply.link.jobs ++ [LinkJob.identify .waste] ∧
      u.supply.slot = s.supply.slot ∧ u.chips = { s.chips with waste := some { chip with latched := false, busyLeft := 0 } } ∧
      u.pins = { s.pins with wastePresent := true } ∧ Frame [.pins, .chips, .ledger, .supply, .due] s u) ∧
    (s.pins.wastePresent = true → ∃ u, exec .wasteCartridgeRemoval s = .next u.settle ∧
      u.supply.waste = WasteRec.cleared ∧ u.ledger.wa = 0 ∧ u.ledger.uncovered = decide (0 < s.ledger.wr) ∧
      u.ledger.chan = s.ledger.chan ∧ (∀ j ∈ u.supply.link.jobs, j.pos ≠ .waste) ∧ u.supply.slot = s.supply.slot ∧
      u.chips = { s.chips with waste := none } ∧ u.pins = { s.pins with wastePresent := false } ∧
      Frame [.pins, .chips, .ports, .ledger, .supply, .due] s u)

/-- R51, R43: what a chip answers, and the one mark that a MARK command with the latch set makes: the lowest clear one; and
the state that the tests on a tank's chip give its slot, in their order, with what the record then holds. -/
def Obligations.ChipsAnswerAndIdentify : Prop :=
  (∀ c : Chip,
    (c.answering = false → ∀ cmd, chipRespond c cmd = (c, none)) ∧
    (c.answering = true → 0 < c.busyLeft →
      chipRespond c .chipState = (c, some (.state true c.latched)) ∧
      ∀ cmd, cmd ≠ .chipState → chipRespond c cmd = (c, none)) ∧
    (c.answering = true → c.busyLeft = 0 →
      chipRespond c .idRead = (c, some (.identity c.identity)) ∧ chipRespond c .mapRead = (c, some (.map c.marks)) ∧
      chipRespond c .arm = ({ c with latched := true }, some .ack) ∧
      chipRespond c .chipState = (c, some (.state false c.latched)) ∧
      (chipRespond c .mark).2 = some .ack ∧ (c.latched = false → (chipRespond c .mark).1 = c) ∧
      (c.latched = true → ∀ i, i < 128 → c.marks.getLsbD i = false → (∀ j, j < i → c.marks.getLsbD j = true) →
        (chipRespond c .mark).1.busyLeft = 5 ∧ (chipRespond c .mark).1.marks.getLsbD i = true ∧
        ∀ j, j ≠ i → (chipRespond c .mark).1.marks.getLsbD j = c.marks.getLsbD j))) ∧
  (∀ (s : State) (k : SlotId) (i : Identity) (m : BitVec 128),
    let r := (s.applyTank k i m).supply.slot.get k
    (∀ n, markCount m = some n ↔ n ≤ 128 ∧ m.toNat + 1 = 2 ^ n) ∧
    (blankIdentity i = true → r.state = .unidentified ∧ r.identity = none) ∧
    (blankIdentity i = false → (i.kind ≠ 1 ∨ 2 < i.capCode.toNat ∨ markCount m = none) →
      r.state = .refused ∧ r.reason = some .badChip ∧ r.identity = some i) ∧
    (blankIdentity i = false → i.kind = 1 → ∀ cap n, Config.tankCapacity i.capCode.toNat = some cap →
      markCount m = some n →
      (s.supply.map.get k = none → r.state = .refused ∧ r.reason = some .unmapped ∧ r.identity = some i) ∧
      (∀ c, s.supply.map.get k = some c →
        (i.colour.toNat ≠ c.toNat + 1 → r.state = .refused ∧ r.reason = some .wrongInk ∧ r.identity = some i) ∧
        (i.colour.toNat = c.toNat + 1 → r.identity = some i ∧ r.capacity = cap ∧ r.marks = n ∧
          r.drawn = n * cap / 128 ∧ r.manual = false ∧
          (if n = 128 then r.state = .spent else r.state = .active ∨ r.state = .standby)))))

/-- R52, R54, R55, R56: the answer of a chip that is ready carries the running job on, at every position: a chip found ready
is sent the job's command, and one found busy is waited for; ID_READ, ARM and MARK lead to the next command; the map that ends
an IDENTIFY job is applied; a map read back that shows more marks confirms them, and one that shows no more counts an attempt.
The third attempt in vain, a map that is not contiguous or shows fewer marks, and the third busy timeout of a job make the
position FAULTED with LINK_FAULT. That a FULL cartridge becomes FAULTED too, where R50 has it stay FULL until it is removed, is
the model's choice: DEDUCED (notes/assumptions/46.md). That a clean answer is the one R51 gives of the chip that State holds is
the model's choice as well: DESIGN CHOICE (notes/assumptions/20.md). -/
def Obligations.LinkJobsRun : Prop :=
  ∀ (s : State) (j : LinkJob) (rest : List LinkJob) (r : LinkRun), s.pins.resetLow = false →
    s.supply.link = { jobs := j :: rest, run := some r, draining := false } → r.ending = false →
    let linked (jobs : List LinkJob) (run : Option LinkRun) : State :=
      { s with supply := { s.supply with link := { jobs := jobs, run := run, draining := false } } }
    let faulted (u : State) : Prop := u.Latched .linkFault ∧ u.supply.link.jobs = rest ∧ u.supply.link.run = none ∧
      (∀ k, j.pos = .slot k → (u.supply.slot.get k).state = .faulted ∧
        (u.supply.slot.get k).identity = (s.supply.slot.get k).identity ∧
        (u.supply.slot.get k).marks = (s.supply.slot.get k).marks ∧
        (u.supply.slot.get k).drawn = (s.supply.slot.get k).drawn ∧ Frame [.ports, .supply] s u) ∧
      (j.pos = .waste → u.supply.waste.state = .faulted ∧ u.supply.waste.marks = s.supply.waste.marks ∧
        u.supply.slot = s.supply.slot ∧ u.ledger.wa = s.ledger.wa ∧ Frame [.ports, .ledger, .supply, .due] s u)
    (∀ chip, s.chips.at j.pos = some chip → chip.answering = true →
      (0 < chip.busyLeft → r.waiting = true → exec (.linkAnswer .clean) s = .next s.settle) ∧
      (chip.busyLeft = 0 →
        (r.waiting = true → exec (.linkAnswer .clean) s =
          .next (linked (j :: rest) (some { r with waiting := false, left := 1 })).settle) ∧
        (r.waiting = false → r.cmd = .idRead → exec (.linkAnswer .clean) s = .next (linked (j :: rest)
          (some { r with ident := some chip.identity, cmd := .mapRead, waiting := true, left := 20 })).settle) ∧
        (r.waiting = false → r.cmd = .arm → exec (.linkAnswer .clean) s = .next (State.settle
          { linked (j :: rest) (some { r with cmd := .mark, waiting := true, left := 20 }) with
            chips := s.chips.put j.pos (some { chip with latched := true }) })) ∧
        (r.waiting = false → r.cmd = .mark → exec (.linkAnswer .clean) s = .next (State.settle
          { linked (j :: rest) (some { r with cmd := .mapRead, waiting := true, left := 20 }) with
            chips := s.chips.put j.pos (some (chipRespond chip .mark).1) })) ∧
        (r.waiting = false → r.cmd = .mapRead → j.kind = .identify → ∀ i, r.ident = some i →
          exec (.linkAnswer .clean) s = .next ((linked rest none).applyIdentity j.pos i chip.marks).settle) ∧
        (r.waiting = false → r.cmd = .mapRead → j.kind = .mark →
          (∀ n, markCount chip.marks = some n → s.supply.marksAt j.pos < n →
            ∃ u, exec (.linkAnswer .clean) s = .next u.settle ∧ u.supply.link.run = none ∧
              (∀ k, j.pos = .slot k → u.supply.link.jobs = { j with attempts := 0 } :: rest ∧
                u.supply.slot = s.supply.slot.set k { s.supply.slot.get k with marks := n } ∧ Frame [.supply] s u) ∧
              (j.pos = .waste → u.supply.waste = { s.supply.waste with marks := n } ∧ u.supply.slot = s.supply.slot ∧
                (∃ target, j.target ≤ target ∧
                  u.supply.link.jobs.head? = some { j with attempts := 0, target := target }) ∧
                Frame [.ledger, .supply, .due] s u)) ∧
          (markCount chip.marks = some (s.supply.marksAt j.pos) → j.attempts ≠ 2 → exec (.linkAnswer .clean) s =
            .next (linked ({ j with attempts := j.attempts + 1 } :: rest) none).settle) ∧
          (markCount chip.marks = some (s.supply.marksAt j.pos) → j.attempts = 2 →
            ∃ u, exec (.linkAnswer .clean) s = .next u.settle ∧ faulted u) ∧
          ((markCount chip.marks = none ∨ ∃ n, markCount chip.marks = some n ∧ n < s.supply.marksAt j.pos) →
            ∃ u, exec (.linkAnswer .clean) s = .next u.settle ∧ faulted u)))) ∧
    (∀ c, c = (if r.waiting then Instr.busyTimeout else .linkAnswerTimeout) →
      (j.busy ≠ 2 → exec c s = .next (linked ({ j with busy := j.busy + 1 } :: rest)
        (some { r with waiting := true, left := 20 })).settle) ∧
      (j.busy = 2 → ∃ u, exec c s = .next u.settle ∧ faulted u))

/-- R49, R50, R35, R36: the tests on the waste cartridge's chip make it REFUSED, or READY with its capacity and marks and the
waste its chip records, FULL with all marks set; the near-full flag and the uncovered flag follow, with their events. A READY
cartridge whose waste accounted reaches its capacity becomes FULL, and with the flag set and marks left to confirm a MARK
job is asked for. Every step keeps both flags the ones that R35 and R50 compute. That the uncovered flag is R35's also while
the cartridge is ABSENT, where R36 has one set by a removal stay set, is the model's choice: DEDUCED
(notes/assumptions/35.md); and so it is with 128 marks confirmed, where R35's last sentence has a flag that is set stay set until
the cartridge is changed: DEDUCED (notes/assumptions/56.md). -/
def Obligations.WasteCartridgeIsJudged : Prop :=
  (∀ (s : State) (i : Identity) (m : BitVec 128),
    let u := s.applyIdentity .waste i m
    Frame [.ports, .ledger, .supply, .due] s u ∧ u.supply.slot = s.supply.slot ∧ u.ledger.chan = s.ledger.chan ∧
      u.ledger.wr = s.ledger.wr ∧
    ((blankIdentity i = true ∨ i.kind ≠ 2 ∨ 1 < i.capCode.toNat ∨ markCount m = none) →
      u.supply.waste = { WasteRec.cleared with state := .refused } ∧ u.Latched .tankRefused ∧ u.ledger.wa = s.ledger.wa ∧
        u.ledger.uncovered = decide (0 < s.ledger.wa + s.ledger.wr)) ∧
    (blankIdentity i = false → i.kind = 2 → i.capCode.toNat ≤ 1 → ∀ n, markCount m = some n →
      let cap := if i.capCode.toNat = 0 then 110000000 else 220000000
      u.supply.waste.wcap = cap ∧ u.supply.waste.marks = n ∧ u.Latched .tankChange ∧ u.ledger.wa = n * cap / 128 ∧
        u.supply.waste.state = (if n = 128 then .full else .ready) ∧ (n = 128 → u.Latched .wasteFull) ∧
        u.supply.waste.nearFull = decide (s.params.nearFull * cap ≤ n * cap / 128 * 100) ∧
        (u.supply.waste.nearFull = true → u.Latched .wasteNearFull) ∧
        u.ledger.uncovered = decide (0 < s.ledger.wr))) ∧
  (∀ s : State,
    let u := s.refreshWaste
    let w := s.supply.waste
    Frame [.ports, .ledger, .supply, .due] s u ∧ u.ledger.wa = s.ledger.wa ∧ u.ledger.wr = s.ledger.wr ∧
      u.supply.waste.wcap = w.wcap ∧ u.supply.waste.marks = w.marks ∧
      (w.state = .ready → w.wcap ≤ s.ledger.wa → u.supply.waste.state = .full ∧ u.Latched .wasteFull) ∧
      (w.state ≠ .ready ∨ s.ledger.wa < w.wcap → u.supply.waste.state = w.state) ∧
      (u.supply.waste.nearFull = true ↔ (w.state = .ready ∨ w.state = .full) ∧
        s.params.nearFull * w.wcap ≤ s.ledger.wa * 100) ∧
      (w.nearFull = false → u.supply.waste.nearFull = true → u.Latched .wasteNearFull) ∧
      (u.ledger.uncovered = true ↔ (if w.state = .ready ∨ w.state = .full then w.marks * w.wcap / 128 else 0) <
        s.ledger.wa + s.ledger.wr) ∧
      (u.ledger.uncovered = true → (w.state = .ready ∨ w.state = .full) → w.marks < 128 →
        ∃ j ∈ u.supply.link.jobs, j.pos = .waste ∧ (j.kind = .identify ∨ 128 ≤ j.target ∨
          (s.ledger.wa + s.ledger.wr) * 128 ≤ j.target * w.wcap ∨ w.wcap = 0))) ∧
  (∀ s t : State, s.WasteCurrent → step s = .next t → t.WasteCurrent)

/-- R48, R46, R44: a legal new slot map is taken whole while no sheet is active and every session is IDLE, and each occupied
slot whose entry changed is identified afresh: a FAULTED one too, where R56 keeps it FAULTED until its removal, is the model's
choice, DEDUCED (notes/assumptions/36.md). An UNIDENTIFIED slot that TANK_ACCEPT accepts is a manual tank of the volume given,
in RUN ACTIVE where its channel has no ACTIVE slot and MANUAL otherwise; in START the choice is made between it and the
channel's other usable slot, the less remaining ACTIVE, at equal remaining the lower slot. -/
def Obligations.SlotMapAndAcceptanceApply : Prop :=
  ∀ (s : State) (p : Port),
    (∀ e m, s.Takes p Cmd.slotMapSet → s.mode.lock = false → mapOf? e = some m → mapLegal m = true →
      s.activeSheet = none → (∀ c, (s.session c).state = .idle) →
      ∃ t, exec (.slotMapSet p e) s = .next t ∧ t.supply.map = m ∧
        (t.ports.get p).reply =
          { seq := nextByte (s.ports.get p).reply.seq, command := 0x63, outcome := .accepted, value := 0 } ∧
        (∀ k, m.get k ≠ s.supply.map.get k → (s.supply.slot.get k).state ≠ .empty →
          t.supply.slot.get k = { SlotRec.cleared with state := .identifying }) ∧
        (∀ k, (m.get k = s.supply.map.get k ∨ (s.supply.slot.get k).state = .empty) →
          (t.supply.slot.get k).drawn = (s.supply.slot.get k).drawn ∧
          (t.supply.slot.get k).identity = (s.supply.slot.get k).identity) ∧
        t.pins = s.pins ∧ t.chips = s.chips ∧ t.mode.params = s.mode.params ∧ t.nozzles = s.nozzles ∧
        t.station.park = s.station.park ∧ t.ledger.wa = s.ledger.wa) ∧
    (∀ slot ml k c, s.Takes p Cmd.tankAccept → SlotId.ofNat? slot = some k → 1 ≤ ml → ml ≤ 1000 →
      (s.supply.slot.get k).state = .unidentified → s.supply.map.get k = some c →
      let rival (j : SlotId) : Prop := j ≠ k ∧ s.supply.map.get j = some c ∧ ((s.supply.slot.get j).state = .active ∨
        (s.supply.slot.get j).state = .standby ∨ (s.supply.slot.get j).state = .manual)
      let remaining (j : SlotId) : Nat := (s.supply.slot.get j).capacity - (s.supply.slot.get j).drawn
      ∃ u, exec (.tankAccept p slot ml) s = .next (u.settle.replied s p 0x64 .accepted 0 3) ∧
        (u.supply.slot.get k).capacity = ml * 1000000 ∧ (u.supply.slot.get k).manual = true ∧
        (u.supply.slot.get k).drawn = 0 ∧ (u.supply.slot.get k).marks = 0 ∧
        (s.inRun = true → (u.supply.slot.get k).state = (if s.supply.activeSlot c = none then .active else .manual) ∧
          ∀ k', k' ≠ k → u.supply.slot.get k' = s.supply.slot.get k') ∧
        (s.inStart = true → (∀ j, ¬rival j) → (u.supply.slot.get k).state = .active ∧
          ∀ k', k' ≠ k → u.supply.slot.get k' = s.supply.slot.get k') ∧
        (s.inStart = true → ∀ j, rival j → (∀ j', rival j' → j' = j) →
          (if ml * 1000000 < remaining j ∨ (ml * 1000000 = remaining j ∧ k.toNat < j.toNat) then
              (u.supply.slot.get k).state = .active ∧
              (u.supply.slot.get j).state = (if (s.supply.slot.get j).manual then .manual else .standby)
            else (u.supply.slot.get k).state = .manual ∧ (u.supply.slot.get j).state = .active) ∧
          (u.supply.slot.get j).capacity = (s.supply.slot.get j).capacity ∧
          (u.supply.slot.get j).drawn = (s.supply.slot.get j).drawn ∧
          (u.supply.slot.get j).marks = (s.supply.slot.get j).marks ∧
          (u.supply.slot.get j).manual = (s.supply.slot.get j).manual ∧
          (u.supply.slot.get j).identity = (s.supply.slot.get j).identity ∧
          ∀ k', k' ≠ k → k' ≠ j → u.supply.slot.get k' = s.supply.slot.get k') ∧
        u.Latched .tankChange ∧ u.supply.map = s.supply.map ∧ Frame [.ports, .supply] s u)

/-- R4, R2, R3, in states whose level states are current (R2): LEVEL_RESTORE in START sets the level, clamped to Cap, and
establishes it; in RUN it is refused, and in SLEEP answered ASLEEP. That the mode is tested before the operands is DEDUCED
(notes/assumptions/19.md). -/
def Obligations.LevelRestoreEstablishes : Prop :=
  ∀ (s : State) (p : Port) (channel level : Nat), s.LevelsCurrent → s.pins.resetLow = false → p = .pp →
    (s.inStart = true → ∀ c, Channel.ofNat? channel = some c → ∃ u,
      exec (.levelRestore p channel level) s = .next (u.settle.replied s p 0x65
        (if 12000000 < level then .clamped else .accepted) (min level 12000000) 5) ∧
      (u.ledger.chan.get c).level = min level 12000000 ∧ (u.ledger.chan.get c).established = true ∧
      (u.ledger.chan.get c).carry = (s.ledger.chan.get c).carry ∧
      (u.ledger.chan.get c).rs = (s.ledger.chan.get c).rs ∧ (u.ledger.chan.get c).rv = (s.ledger.chan.get c).rv ∧
      (u.ledger.chan.get c).levelState = levelStateOf u.params (u.ledger.chan.get c) ∧
      (min level 12000000 ≤ s.params.floor → (u.ledger.chan.get c).levelState = .starved ∧
        ((s.ledger.chan.get c).levelState ≠ .starved → u.Latched .inkStarved)) ∧
      (∀ c', c' ≠ c → u.ledger.chan.get c' = s.ledger.chan.get c') ∧ Frame [.ports, .ledger, .due] s u) ∧
    (s.inStart = true → 5 < channel → exec (.levelRestore p channel level) s = .next (s.replied s p 0x65 .badOperand 0 5)) ∧
    (s.inRun = true → exec (.levelRestore p channel level) s = .next (s.replied s p 0x65 .wrongState 0 5)) ∧
    (s.inSleep = true → ∃ t, exec (.levelRestore p channel level) s = .next t ∧ (t.ports.get p).reply.outcome = .asleep)

/-! ### Rolls and the feed path -/

/-- R81, R92, R93: a roll that arrives is LOADED and undescribed; one that leaves is ABSENT, and where it was the path roll of
an IDLE path, the path is in FAULT with cause ROLL_REMOVED, or UNTHREADED if the roll was EMPTY; in CUTTING and in FAULT the path
roll becomes NONE. A roll that is neither the path roll nor the target of a swap changes its own record alone. A record that
became another is reported to the sheet queue (R80), with the records as they stood before. That the cleared record of an ABSENT
roll holds the remaining UNKNOWN, which R81 does not give, is the model's choice: DESIGN CHOICE (notes/assumptions/40.md). -/
def Obligations.RollsComeAndGo : Prop :=
  ∀ (s : State) (r : Roll), s.Awake →
    let reported (x : RollRec) : Due := if s.feed.roll.get r = x then s.due
      else { s.due with rolls := some (s.due.rolls.getD s.feed.roll), examine := true }
    (s.pins.rollPresent.get r = false → exec (.rollArrival r) s = .next (State.settle { s with
      pins := { s.pins with rollPresent := s.pins.rollPresent.set r true }
      feed := { s.feed with roll := s.feed.roll.set r { RollRec.absent with state := .loaded } }
      due := reported { RollRec.absent with state := .loaded } })) ∧
    (s.pins.rollPresent.get r = true → s.feed.pathRoll ≠ some r → s.feed.path ≠ .swapping →
      exec (.rollRemoval r) s = .next (State.settle { s with
        pins := { s.pins with rollPresent := s.pins.rollPresent.set r false }
        feed := { s.feed with roll := s.feed.roll.set r RollRec.absent }
        due := reported RollRec.absent })) ∧
    (s.pins.rollPresent.get r = true → s.feed.pathRoll = some r → (s.feed.path = .cutting ∨ s.feed.path = .fault ∨
        s.feed.path = .idle ∧ (s.feed.roll.get r).state = .empty) →
      exec (.rollRemoval r) s = .next (State.settle { s with
        pins := { s.pins with rollPresent := s.pins.rollPresent.set r false }
        feed := { s.feed with
          roll := s.feed.roll.set r RollRec.absent, pathRoll := none
          path := if s.feed.path = .idle then .unthreaded else s.feed.path }
        due := reported RollRec.absent })) ∧
    (s.pins.rollPresent.get r = true → s.feed.pathRoll = some r → s.feed.path = .idle →
      (s.feed.roll.get r).state ≠ .empty →
      ∃ u, exec (.rollRemoval r) s = .next u.settle ∧ u.feed.roll.get r = RollRec.absent ∧
        u.feed.roll.get r.other = s.feed.roll.get r.other ∧ u.feed.path = .fault ∧ u.feed.pathRoll = none ∧
        u.feed.cause = .rollRemoved ∧ u.feed.op = none ∧ u.Latched .feedFault ∧
        u.pins = { s.pins with rollPresent := s.pins.rollPresent.set r false } ∧
        Frame [.pins, .ports, .ledger, .tickets, .feed, .sheets, .service, .due] s u)

/-- R88 to R90, R92, R93: what the paper-end sensor, the thread sensor, the actuator and the cutter home switch bring
about on the path; where the path takes no notice the reading alone changes. -/
def Obligations.PathSensorsAct : Prop :=
  ∀ s : State, s.pins.resetLow = false →
    (exec (.paperEnd true) s = .next { s with pins := { s.pins with paper := true } }) ∧
    (∀ o r, s.feed.path = .advancing → s.feed.op = some o → s.feed.pathRoll = some r →
      (s.feed.roll.get r).state = .threaded →
      ∃ u, exec (.paperEnd false) s = .next u.settle ∧ u.feed.path = .idle ∧ u.feed.op = none ∧
        u.feed.roll = s.feed.roll.set r { s.feed.roll.get r with state := .empty, remaining := some 0 } ∧
        u.pins = { s.pins with paper := false } ∧
        Frame [.pins, .ports, .ledger, .tickets, .feed, .sheets, .service, .due] s u) ∧
    (∀ r, (s.feed.path = .idle ∨ s.feed.path = .cutting ∨ s.feed.path = .fault) → s.feed.pathRoll = some r →
      (s.feed.roll.get r).state = .threaded →
      ∃ u, exec (.paperEnd false) s = .next u.settle ∧
        u.feed = { s.feed with roll := s.feed.roll.set r { s.feed.roll.get r with state := .empty, remaining := some 0 } } ∧
        u.pins = { s.pins with paper := false } ∧
        Frame [.pins, .ports, .ledger, .tickets, .feed, .sheets, .service, .due] s u) ∧
    (∀ o r, s.feed.path = .advancing → s.feed.op = some o → s.feed.pathRoll = some r →
      ∃ u, exec (.threadSensorChange false) s = .next u.settle ∧ u.feed.path = .fault ∧ u.feed.cause = .threadLost ∧
        u.feed.op = none ∧ u.feed.pathRoll = some r ∧ u.feed.roll = s.feed.roll.set r { s.feed.roll.get r with
          remaining := (s.feed.roll.get r).remaining.map fun n => n - o.length } ∧ u.Latched .feedFault ∧
        u.pins = { s.pins with thread := false } ∧
        Frame [.pins, .ports, .ledger, .tickets, .feed, .sheets, .service, .due] s u) ∧
    (s.feed.path = .idle → exec (.threadSensorChange true) s = .next { s with pins := { s.pins with thread := true } }) ∧
    (s.feed.path = .idle → s.feed.pathRollState = .empty → exec (.threadSensorChange false) s =
      .next (State.settle { s with pins := { s.pins with thread := false }
                                   feed := { s.feed with path := .unthreaded, pathRoll := none } })) ∧
    (s.feed.path = .idle → s.feed.pathRollState ≠ .empty →
      ∃ u, exec (.threadSensorChange false) s = .next u.settle ∧ u.feed.path = .fault ∧ u.feed.cause = .threadLost ∧
        u.feed.roll = s.feed.roll ∧ u.feed.pathRoll = s.feed.pathRoll ∧ u.Latched .feedFault ∧
        u.pins = { s.pins with thread := false } ∧
        Frame [.pins, .ports, .ledger, .tickets, .feed, .sheets, .service, .due] s u) ∧
    (∀ r, s.feed.path ≠ .swapping →
      exec (.actuatorPositionReport r) s = .next { s with pins := { s.pins with actuator := r } }) ∧
    (∀ o r, s.feed.path = .swapping → s.feed.op = some o → o.target = some r → o.stage = some .select →
      s.pins.thread = false → exec (.actuatorPositionReport r) s = .next (State.settle { s with
        pins := { s.pins with actuator := r }
        feed := { s.feed with op := some { o with stage := some .thread } } })) ∧
    (∀ o r, s.feed.path = .swapping → s.feed.op = some o → o.target = some r → o.stage = some .unthread →
      exec (.threadSensorChange false) s = .next (State.settle { s with
        pins := { s.pins with thread := false }
        feed := { s.feed with op := some { o with
          stage := some (if s.pins.actuator = r then .thread else .select) } } })) ∧
    (∀ o r, s.feed.path = .swapping → s.feed.op = some o → o.target = some r → o.stage = some .thread →
      ∃ u, exec (.threadSensorChange true) s = .next u.settle ∧ u.feed.path = .idle ∧ u.feed.op = none ∧
        u.feed.pathRoll = some r ∧ u.feed.roll.get r = { s.feed.roll.get r with state := .threaded } ∧
        (s.feed.pathRoll = some r.other → u.feed.roll.get r.other = { s.feed.roll.get r.other with state :=
          if (s.feed.roll.get r.other).state = .threaded then .loaded else (s.feed.roll.get r.other).state }) ∧
        (s.feed.pathRoll ≠ some r.other → u.feed.roll.get r.other = s.feed.roll.get r.other) ∧
        u.sheets.queue = s.sheets.queue.map (fun x => if x.id = o.sheet ∧ o.orphan = false ∧ x.state = .loading
          then { x with loadStep := some .margin } else x) ∧
        (s.feed.roll.get r ≠ u.feed.roll.get r → u.due.rolls.isSome = true ∧ u.due.examine = true) ∧
        u.pins = { s.pins with thread := true } ∧ Frame [.pins, .feed, .sheets, .due] s u) ∧
    (∀ o, s.feed.path = .cutting → s.feed.op = some o →
      exec (.cutterHomeSwitchChange false) s = .next (State.settle { s with
        pins := { s.pins with cutterHome := false }, feed := { s.feed with op := some { o with cutterLeft := true } } }) ∧
      (o.cutterLeft = false →
        exec (.cutterHomeSwitchChange true) s = .next { s with pins := { s.pins with cutterHome := true } }) ∧
      (o.cutterLeft = true → o.orphan = false →
        ∃ u, exec (.cutterHomeSwitchChange true) s = .next u.settle ∧
          u.feed = { s.feed with op := none, path := if s.feed.pathRoll = none then .unthreaded else .idle } ∧
          u.sheets.queue = s.sheets.queue.filter (fun x => x.id != o.sheet) ∧
          u.pins = { s.pins with cutterHome := true } ∧ Frame [.pins, .ports, .feed, .sheets, .service, .due] s u))

/-- R87, R89, R91, R92, R103, R109: the end of an advance takes its length from a known remaining; for a ticket it adds it to
the sheet's printed length and marks the ticket's advance DONE, for a margin it has the LOADING sheet PRINTING, with
SHEET_ACTIVE, and for a tail it takes the CUTTING sheet to its cut; the watchdog ends it in FAULT with cause JAM, a swap's timer
with SWAP_TIMEOUT and no path roll, a cut's with CUT_TIMEOUT. -/
def Obligations.FeedOperationsEnd : Prop :=
  ∀ (s : State) (o : FeedOp) (r : Roll), s.pins.resetLow = false → s.feed.op = some o →
    (s.feed.path = .advancing → s.feed.pathRoll = some r →
      (o.orphan = false → o.purpose = .ticket →
        ∃ u, exec .endOfMove s = .next u.settle ∧ u.feed.path = .idle ∧ u.feed.op = none ∧
          u.feed.roll = s.feed.roll.set r { s.feed.roll.get r with
            remaining := (s.feed.roll.get r).remaining.map fun n => n - o.length } ∧
          u.sheets.queue = s.sheets.queue.map (fun h =>
            if h.id = o.sheet then { h with printed := min (h.printed + o.length) 4294967295 } else h) ∧
          u.tickets.queue = s.tickets.queue.map (fun t =>
            if t.number = o.ticket ∧ t.adv = .running then { t with adv := .done } else t) ∧
          Frame [.feed, .sheets, .tickets] s u) ∧
      (o.orphan = false → o.purpose = .margin → ∀ h, s.findSheet o.sheet = some h → h.state = .loading →
        ∃ u, exec .endOfMove s = .next u.settle ∧ u.feed.path = .idle ∧ u.feed.op = none ∧
          u.feed.roll = s.feed.roll.set r { s.feed.roll.get r with
            remaining := (s.feed.roll.get r).remaining.map fun n => n - o.length } ∧
          u.sheets.queue = s.sheets.queue.map (fun x =>
            if x.id = o.sheet then { x with state := .printing, loadStep := none } else x) ∧
          u.Latched .sheetActive ∧ Frame [.ports, .feed, .sheets] s u) ∧
      (o.orphan = false → o.purpose = .tail →
        ∃ u, exec .endOfMove s = .next u.settle ∧ u.feed.path = .idle ∧ u.feed.op = none ∧
          u.feed.roll = s.feed.roll.set r { s.feed.roll.get r with
            remaining := (s.feed.roll.get r).remaining.map fun n => n - o.length } ∧
          u.sheets.queue = s.sheets.queue.map (fun x => if x.id = o.sheet then { x with finish := some .cut } else x) ∧
          Frame [.feed, .sheets] s u) ∧
      (∃ u, exec .advanceWatchdogExpiry s = .next u.settle ∧ u.feed.path = .fault ∧ u.feed.cause = .jam ∧
        u.feed.op = none ∧ u.feed.roll = s.feed.roll.set r { s.feed.roll.get r with
          remaining := (s.feed.roll.get r).remaining.map fun n => n - o.length } ∧ u.Latched .feedFault ∧
        Frame [.ports, .ledger, .tickets, .feed, .sheets, .service, .due] s u)) ∧
    (s.feed.path = .swapping → s.feed.pathRoll = some r →
      ∃ u, exec .swapTimerExpiry s = .next u.settle ∧ u.feed.path = .fault ∧ u.feed.cause = .swapTimeout ∧
        u.feed.op = none ∧ u.feed.pathRoll = none ∧
        (u.feed.roll.get r).state =
          (if (s.feed.roll.get r).state = .threaded then .loaded else (s.feed.roll.get r).state) ∧
        u.feed.roll.get r.other = s.feed.roll.get r.other ∧ u.Latched .feedFault ∧
        Frame [.ports, .ledger, .tickets, .feed, .sheets, .service, .due] s u) ∧
    (s.feed.path = .cutting →
      ∃ u, exec .cutTimerExpiry s = .next u.settle ∧
        u.feed = { s.feed with path := .fault, op := none, cause := .cutTimeout } ∧ u.Latched .cutFault ∧
        Frame [.ports, .feed] s u)

/-- R94, R84, R82: FEED_CLEAR in FAULT surveys the sensors: with the cutter home it leaves the path UNTHREADED, or IDLE on
the roll at the actuator, LOADED, THREADED or EMPTY before, which becomes THREADED unless it is EMPTY, or EMPTY with no media
at the paper-end sensor; the other roll is no longer THREADED. With the cutter away, or with no roll at the actuator's
position, it is refused and records CUTTER_AWAY or SENSOR_MISMATCH. No roll's remaining changes: DEDUCED
(notes/assumptions/39.md) where R84 gives an EMPTY roll 0; a refusal keeps path roll and roll records: DEDUCED
(notes/assumptions/18.md). ROLL_LOAD describes a roll that stands still, a length of 0 leaving its remaining UNKNOWN. Roll
records that became others are reported to the sheet queue (R80, R101, R104), and a clear that changes none reports none. -/
def Obligations.FeedClearAndRollLoadApply : Prop :=
  ∀ (s : State) (p : Port),
    let reported (rolls : Two RollRec) : Due := if s.feed.roll = rolls then s.due
      else { s.due with rolls := some (s.due.rolls.getD s.feed.roll), examine := true }
    let unthreaded (r : Roll) : RollRec := { s.feed.roll.get r with state :=
      if (s.feed.roll.get r).state = .threaded then .loaded else (s.feed.roll.get r).state }
    (s.Takes p Cmd.feedClear → s.feed.path = .fault →
      (s.pins.cutterHome = true → s.pins.thread = false →
        ∃ u, exec (.feedClear p) s = .next (u.settle.replied s p 0x69 .accepted 0 0) ∧ u.feed.path = .unthreaded ∧
          u.feed.pathRoll = none ∧ u.feed.cause = .none ∧ u.feed.op = none ∧
          (∀ r, u.feed.roll.get r = unthreaded r) ∧ u.due = reported u.feed.roll ∧ Frame [.feed, .due] s u) ∧
      (s.pins.cutterHome = true → s.pins.thread = true → s.pins.paper = true →
        (s.feed.roll.get s.pins.actuator).state ≠ .absent →
        ∃ u, exec (.feedClear p) s = .next (u.settle.replied s p 0x69 .accepted 0 0) ∧ u.feed.path = .idle ∧
          u.feed.pathRoll = some s.pins.actuator ∧ u.feed.cause = .none ∧ u.feed.op = none ∧
          u.feed.roll.get s.pins.actuator = { s.feed.roll.get s.pins.actuator with state :=
            if (s.feed.roll.get s.pins.actuator).state = .empty then .empty else .threaded } ∧
          u.feed.roll.get s.pins.actuator.other = unthreaded s.pins.actuator.other ∧ u.due = reported u.feed.roll ∧ Frame [.feed, .due] s u) ∧
      (s.pins.cutterHome = true → s.pins.thread = true → s.pins.paper = false →
        (s.feed.roll.get s.pins.actuator).state ≠ .absent →
        ∃ u, exec (.feedClear p) s = .next (u.settle.replied s p 0x69 .accepted 0 0) ∧ u.feed.path = .idle ∧
          u.feed.pathRoll = some s.pins.actuator ∧ u.feed.cause = .none ∧ u.feed.op = none ∧
          u.feed.roll.get s.pins.actuator = { s.feed.roll.get s.pins.actuator with state := .empty } ∧
          u.feed.roll.get s.pins.actuator.other = unthreaded s.pins.actuator.other ∧ u.due = reported u.feed.roll ∧ Frame [.feed, .due] s u) ∧
      (s.pins.cutterHome = true → s.pins.thread = true → (s.feed.roll.get s.pins.actuator).state = .absent →
        exec (.feedClear p) s = .next (State.replied { s with feed := { s.feed with cause := .sensorMismatch } } s p
          0x69 .wrongState 0 0)) ∧
      (s.pins.cutterHome = false →
        exec (.feedClear p) s = .next (State.replied { s with feed := { s.feed with cause := .cutterAway } } s p
          0x69 .wrongState 0 0))) ∧
    (∀ roll r media width length, s.Takes p Cmd.rollLoad → roll? roll = some r → 1 ≤ media → media ≤ 15 →
      210 ≤ width → width ≤ 1120 → length ≤ 200000 → (s.feed.roll.get r).state ≠ .absent →
      (s.feed.roll.get r).state ≠ .empty →
      (s.feed.path = .idle ∨ s.feed.path = .fault ∨ s.feed.path = .unthreaded) →
      (s.feed.pathRoll ≠ some r ∨ s.activeSheet = none) →
      exec (.rollLoad p roll media width length) s = .next (State.replied (State.settle { s with
        feed := { s.feed with roll := s.feed.roll.set r { s.feed.roll.get r with
          described := true, media := media, width := width
          remaining := if length = 0 then none else some (length * 1000) } }
        due := reported (s.feed.roll.set r { s.feed.roll.get r with
          described := true, media := media, width := width
          remaining := if length = 0 then none else some (length * 1000) }) }) s p 0x67 .accepted 0 7))

/-! ### Modes, configuration and resets -/

/-- R179: GO in START enters RUN: the idle-sleep timer is loaded, the cap delay is reloaded where the station is OPEN, and
where it is not CAPPED a CLEAN waits for every head that is not FAILED; the reply is ACCEPTED. In RUN it is refused. -/
def Obligations.GoEntersRun : Prop :=
  ∀ (s : State) (p : Port), s.Takes p Cmd.go →
    (s.inStart = true → ∃ u, exec (.go p) s = .next (u.settle.replied s p 0x60 .accepted 0 0) ∧
      u.mode = { s.mode with mode := .run, idleServiceLeft := none, idleSleepLeft :=
        if s.params.idleSleep = 0 then none else some (s.params.idleSleep * 60000) } ∧
      u.due.arbiter = true ∧
      (s.station.state = .opened → u.station.capDelayLeft = s.params.capDelay * 1000) ∧
      (s.station.state = .capped → u.service = s.service) ∧
      (s.station.state ≠ .capped → ∀ h, s.service.failed.get h = false →
        ∃ i ∈ u.service.queue, ∃ l o x a, i.work = .clean h l o x a ∧ 1 ≤ l ∧ x = .now) ∧
      Frame [.mode, .station, .service, .due] s u) ∧
    (s.inRun = true → exec (.go p) s = .next (s.replied s p 0x60 .wrongState 0 0))

/-- R180, R181: SLEEP_NOW and the expiry of the idle-sleep timer enter SLEEP while every sleep condition holds, with the
idle-service timer loaded and nothing else changed; the expiry of the idle-service timer returns to RUN, with a CLEAN NOW
waiting for every head that is not FAILED. In between, a millisecond of notes/assumptions/1.md counts the idle-service timer
alone; chips, which stand outside the hub, go on with their write cycles. -/
def Obligations.SleepIsEnteredAndLeft : Prop :=
  ∀ (s : State) (p : Port), s.pins.resetLow = false →
    (s.inRun = true → s.sheets.queue = [] → s.tickets.queue = [] → s.station.state = .capped →
      s.manifold.pump = .free → (∀ c, (s.session c).state = .idle) → (s.feed.path = .idle ∨ s.feed.path = .unthreaded) →
      s.supply.link.jobs = [] → s.service.queue = [] → s.service.active = none →
      let t : State := { s with mode := { s.mode with
        mode := .sleep, idleSleepLeft := none, idleServiceLeft := some (s.params.idleService * 3600000) } }
      (p = .pp → exec (.sleepNow p) s = .next (t.replied s p 0x6B .accepted 0 0)) ∧
      (s.mode.idleSleepLeft ≠ none → exec .idleSleepExpiry s = .next t)) ∧
    (s.inSleep = true → ∃ u, exec .idleServiceExpiry s = .next u.settle ∧
      u.mode = { s.mode with mode := .run, idleServiceLeft := none, idleSleepLeft :=
        if s.params.idleSleep = 0 then none else some (s.params.idleSleep * 60000) } ∧
      (∀ h, s.service.failed.get h = false → ∃ i ∈ u.service.queue, ∃ l o x a,
        i.work = .clean h l o x a ∧ 1 ≤ l ∧ x = .now) ∧
      Frame [.mode, .service, .due] s u) ∧
    (∀ n, s.pending = [] → s.inSleep = true → s.mode.idleServiceLeft = some (n + 1) →
      ∃ t, step s = .next t ∧ t.mode = { s.mode with idleServiceLeft := some n } ∧ Frame [.mode, .chips] s t)

/-- R178, R177, R184, R60, R84, R133: power-on and the release of the reset line set the hub afresh, with the mode START, the
default parameters, the lock clear and RESET_SEEN on every port; an IDENTIFY job waits for every occupied position, and the
sensors decide the station and the feed path; what stands at the pins stays, but that the line is high and the park switch is
read. While the line is held every mechanism is off, and the hub takes no transaction. That the records stand as they were
until the release, and that power-on finds the line high, is DEDUCED (notes/assumptions/22.md). -/
def Obligations.PowerUpSetsEverything : Prop :=
  ∀ (s : State) (park : ParkState),
    (∀ (c : Instr) (why : ResetCause), (c = .powerOn park ∧ why = ResetCause.powerOn) ∨
        (c = .resetLineRelease park ∧ s.pins.resetLow = true ∧ why = ResetCause.resetLine) →
      ∃ u : State, exec c s = .next u.settle ∧
        u.mode = { mode := .start, cause := why, params := Params.default, lock := false, idleSleepLeft := none,
                   idleServiceLeft := none } ∧
        u.ledger = Ledger.reset ∧ u.manifold = Manifold.reset ∧ u.tickets = Admission.reset ∧ u.sheets = Sheets.reset ∧
        u.service = Service.reset ∧ u.nozzles = Nozzles.reset ∧ u.supply.map = defaultMap ∧
        (∀ k, u.supply.slot.get k = if s.pins.slotPresent.get k
          then { SlotRec.cleared with state := .identifying } else SlotRec.cleared) ∧
        u.supply.waste = (if s.pins.wastePresent then { WasteRec.cleared with state := .identifying } else WasteRec.cleared) ∧
        u.station.park = park ∧ u.station.order = Order.empty ∧ u.station.exposure = Three.const 0 ∧
        u.station.state = (if s.pins.cap = .opened then .opened
          else if s.pins.cap = .capped ∧ park = .parked then .capped else .fault) ∧
        u.supply.link.jobs = (((SlotId.all.filter s.pins.slotPresent.get).map LinkPos.slot) ++
          (if s.pins.wastePresent then [LinkPos.waste] else [])).map (fun x =>
            ({ pos := x, kind := .identify, target := 0, attempts := 0, busy := 0 } : LinkJob)) ∧
        u.supply.link.run = none ∧ u.supply.link.draining = false ∧
        u.feed.op = none ∧
        (∀ r, (u.feed.roll.get r).described = false ∧
          ((u.feed.roll.get r).state = .absent ↔ s.pins.rollPresent.get r = false)) ∧
        (s.pins.thread = false → u.feed.pathRoll = none ∧
          (∀ r, s.pins.rollPresent.get r = true → (u.feed.roll.get r).state = .loaded) ∧
          (s.pins.cutterHome = true → u.feed.path = .unthreaded ∧ u.feed.cause = .none)) ∧
        (s.pins.thread = true → s.pins.rollPresent.get s.pins.actuator = true →
          u.feed.pathRoll = some s.pins.actuator ∧
          (u.feed.roll.get s.pins.actuator).state = (if s.pins.paper then .threaded else .empty) ∧
          (s.pins.rollPresent.get s.pins.actuator.other = true → (u.feed.roll.get s.pins.actuator.other).state = .loaded) ∧
          (s.pins.cutterHome = true → u.feed.path = .idle ∧ u.feed.cause = .none)) ∧
        (s.pins.thread = true → s.pins.rollPresent.get s.pins.actuator = false → u.feed.pathRoll = none ∧
          (s.pins.cutterHome = true → u.feed.path = .fault ∧ u.feed.cause = .sensorMismatch ∧ u.Latched .feedFault)) ∧
        (s.pins.cutterHome = false → u.feed.path = .fault ∧ u.feed.cause = .cutterAway ∧ u.Latched .cutFault) ∧
        (∀ p, (u.ports.get p).SameRecord PortRec.reset) ∧ u.Latched .resetSeen ∧
        u.pins = { s.pins with resetLow := false, parkSwitch := park } ∧ u.chips = s.chips ∧ u.pending = s.pending) ∧
    (∃ t, exec .resetLineAssert s = .next t ∧ t.pins = { s.pins with resetLow := true } ∧ t.pumpOn = false ∧
      (∀ c, t.valveOpen c = false) ∧ (∀ h, t.suctionValveOpen h = false) ∧ t.capMotor = .off ∧ t.wiperOn = false ∧
      t.feedMotor = .off ∧ t.actuatorDrive = none ∧ t.cutterOn = false ∧ (∀ p, t.attention p = false) ∧
      t.manifold.pump = .free ∧ t.feed.op = none ∧ t.station.move = none ∧ t.supply.link.run = none ∧
      t.tickets.swathLeft = none ∧ t.ports = s.ports ∧ t.ledger = s.ledger ∧ t.nozzles = s.nozzles ∧ t.mode = s.mode) ∧
    (∀ (c : Instr) (p : Port), c.port? = some p → s.pins.resetLow = true → exec c s = .next s)

/-- R185, R38, R18, R79, R97, R151, R60, R96, R177: a taken HUB_RESET empties the queues, releases every reservation,
debits the FIRING ticket's need and a running suction's volume, and enters RUN; it keeps the parameters, the lock, the
map, the drop volumes, the carries, the rolls, the outcome list, the numbers next assigned and the nozzle tables. -/
def Obligations.HubResetIsSoft : Prop :=
  ∀ (s : State) (park : ParkState), s.pins.resetLow = false → s.inRun = true →
    ∃ u t : State, exec (.hubReset .pp park) s = .next t ∧
      (∀ p, (t.ports.get p).reply = PortRec.reset.reply ∧ (t.ports.get p).mask = 0 ∧ (t.ports.get p).cursor = none ∧
        (t.ports.get p).reading = none ∧ (t.ports.get p).events = (u.settle.ports.get p).events) ∧ Frame [.ports] u.settle t ∧
      u.Latched .resetSeen ∧ u.mode.mode = .run ∧ u.mode.cause = .soft ∧ u.mode.params = s.mode.params ∧
      u.mode.lock = s.mode.lock ∧ u.tickets = { s.tickets with queue := [], swathLeft := none } ∧
      u.sheets = { s.sheets with queue := [] } ∧ u.service.queue = [] ∧ u.service.active = none ∧
      u.service.failed = s.service.failed ∧ (∀ c, u.session c = Session.reset) ∧ u.manifold.request = none ∧
      (∀ r, s.manifold.pump = .stroke r → u.manifold.pump = .stroke r) ∧
      (∀ r, s.manifold.pump = .suction r → u.manifold.pump = .free) ∧
      (∀ c, (u.ledger.chan.get c).rs = 0 ∧ (u.ledger.chan.get c).rv = 0 ∧
        (u.ledger.chan.get c).carry = (s.ledger.chan.get c).carry ∧ (u.ledger.chan.get c).dv = (s.ledger.chan.get c).dv ∧
        (u.ledger.chan.get c).level = (s.ledger.chan.get c).level - (s.firingNeed c + s.suctionDebit c)) ∧
      u.ledger.wr = 0 ∧ u.supply.map = s.supply.map ∧ u.supply.slot = s.supply.slot ∧ u.feed.roll = s.feed.roll ∧
      u.feed.path = s.feed.path ∧ u.station.order = Order.empty ∧ u.station.park = park ∧
      u.station.exposure = s.station.exposure ∧ u.pins = { s.pins with parkSwitch := park } ∧
      u.chips = s.chips ∧ u.nozzles = s.nozzles ∧ u.pending = s.pending

/-- R182, R20: a CONFIG_SET that no test refuses applies the value, clamped to the parameter's range, and answers it as
applied; a new dv applies to every channel of the mask and leaves their carries and level states. -/
def Obligations.ConfigSetApplies : Prop :=
  ∀ (s : State) (p : Port) (n mask v : Nat), s.Takes p Cmd.configSet → s.mode.lock = false →
    (2 ≤ n → n ≤ 17 → s.params.refuses n v = false → s.blocksQueued n v = false →
      ∃ t, exec (.configSet p n mask v) s = .next t ∧ t.mode.params = s.mode.params.put n (clampParam n v) ∧
        (t.ports.get p).reply = { seq := nextByte (s.ports.get p).reply.seq, command := 0x61,
                                  outcome := if clampParam n v = v then .accepted else .clamped,
                                  value := clampParam n v } ∧
        (∀ lo hi, clampRange n = some (lo, hi) → lo ≤ clampParam n v ∧ clampParam n v ≤ hi ∧
          (lo ≤ v → v ≤ hi → clampParam n v = v)) ∧
        t.mode.mode = s.mode.mode ∧ t.mode.lock = false ∧ t.pins = s.pins ∧ t.chips = s.chips ∧
        t.nozzles = s.nozzles ∧ t.supply.map = s.supply.map ∧ t.ledger.wa = s.ledger.wa ∧
        (∀ c, (t.ledger.chan.get c).dv = (s.ledger.chan.get c).dv ∧
          (t.ledger.chan.get c).carry = (s.ledger.chan.get c).carry)) ∧
    (∀ m, channelMask? mask = some m → (∀ c, m.get c = true →
        (s.ledger.chan.get c).rs = 0 ∧ (s.ledger.chan.get c).rv = 0) →
      ∃ t, exec (.configSet p 1 mask v) s = .next t ∧
        (∀ c, t.ledger.chan.get c =
          if m.get c then { s.ledger.chan.get c with dv := max 10 (min v 255) } else s.ledger.chan.get c) ∧
        (t.ports.get p).reply.value = max 10 (min v 255) ∧ t.ledger.wa = s.ledger.wa ∧ t.ledger.wr = s.ledger.wr ∧
        Frame [.ledger, .ports] s t)

/-- R184, stated whole: the lock is the last byte of the Panel Port's status. -/
def Obligations.ConfigLockLocks : Prop :=
  ∀ s : State,
    (s.pins.resetLow = false → s.inSleep = false →
      ∃ t, exec (.configLock .pp) s = .next t ∧ t.mode = { s.mode with lock := true } ∧
        (t.ports.get .pp).reply =
          { seq := nextByte (s.ports.get .pp).reply.seq, command := 0x62, outcome := .accepted, value := 0 } ∧
        Frame [.mode, .ports] s t ∧ OtherPorts .pp s t) ∧
    (s.pins.resetLow = false → s.inSleep = false → s.mode.lock = true →
      (∀ n mask v, exec (.configSet .pp n mask v) s = .next (s.replied s .pp 0x61 .locked 0 6)) ∧
      (∀ e, exec (.slotMapSet .pp e) s = .next (s.replied s .pp 0x63 .locked 0 8))) ∧
    (∀ park, ∃ t, exec (.powerOn park) s = .next t ∧ t.mode.lock = false) ∧
    (∀ park, s.pins.resetLow = true → ∃ t, exec (.resetLineRelease park) s = .next t ∧ t.mode.lock = false) ∧
    (∀ park, s.pins.resetLow = false → s.inRun = true →
      ∃ t, exec (.hubReset .pp park) s = .next t ∧ t.mode.lock = s.mode.lock) ∧
    (s.status .pp).getLast? = some (if s.mode.lock then 1 else 0)

/-! ### The whole machine -/

/-- R178 to R181, R182, R184, R185: the mode leaves START for RUN by GO alone, RUN for SLEEP by SLEEP_NOW or the idle-sleep
timer, and enters START by a reset alone; the parameters and the lock change by CONFIG_SET, CONFIG_LOCK and those resets
alone. -/
def Obligations.ModesAndConfigurationChangeByName : Prop :=
  ∀ (c : Instr) (s t : State), exec c s = .next t → (∀ park, c ≠ .powerOn park) → (∀ park, c ≠ .resetLineRelease park) →
    ((∀ p, c ≠ .go p) → s.mode.mode = .start → t.mode.mode = .start) ∧
    ((∀ p, c ≠ .sleepNow p) → c ≠ .idleSleepExpiry → s.mode.mode = .run → t.mode.mode = .run) ∧
    (s.mode.mode = .sleep → t.mode.mode = .sleep ∨ t.mode.mode = .run) ∧
    (s.mode.mode ≠ .start → t.mode.mode ≠ .start) ∧
    ((∀ p n m v, c ≠ .configSet p n m v) → t.mode.params = s.mode.params ∧
      ∀ x, (t.ledger.chan.get x).dv = (s.ledger.chan.get x).dv) ∧
    ((∀ p, c ≠ .configLock p) → t.mode.lock = s.mode.lock) ∧
    ((∀ p park, c ≠ .hubReset p park) → t.mode.cause = s.mode.cause)

/-- 11.3, R182, R39, R48, R152: every step keeps the parameters in range and in order, no channel named more than twice in
the slot map, and the dead and retired lists sorted, within their places, of nozzles that exist, and apart. -/
def Obligations.StepsKeepRecordsLegal : Prop :=
  (∀ s t : State, s.mode.params.Legal → s.MapLegal → step s = .next t → t.mode.params.Legal ∧ t.MapLegal) ∧
  (∀ s t : State, s.NozzlesLegal → step s = .next t → t.NozzlesLegal)

/-- R19, 11.3, R2: every step keeps each carry a remainder and each drop volume in its range, and each level state the one
R2 computes from the record and the parameters. -/
def Obligations.StepsKeepLedgerCurrent : Prop :=
  ∀ s t : State, s.ChannelsLegal → s.LevelsCurrent → step s = .next t → t.ChannelsLegal ∧ t.LevelsCurrent

/-- R61, R62, R97, R98, R116, R134, R53: every step keeps the ticket queue, the sheet queue and the outcome list within their
places, and the numbers next assigned in 1..255; the service queue within five places, with one SPIT, one CHECK and one CLEAN
of a head; and the link job queue within nine, with one job of a position, and that position occupied. -/
def Obligations.StepsKeepQueuesWithinPlaces : Prop :=
  (∀ s t : State, s.QueuesFit → step s = .next t → t.QueuesFit) ∧
  (∀ s t : State, s.ServiceQueueFits → step s = .next t → t.ServiceQueueFits) ∧
  (∀ s t : State, s.LinkQueueFits → step s = .next t → t.LinkQueueFits)

/-- R1, R23, R27, R28, R61, R62: every step keeps Rs the sum of the needs of the tickets that hold reservations, Rv and Wr the
parts in which the service reservation stands, each level at most Cap, ticket numbers distinct, and no ticket but the oldest
GRANTED or FIRING. -/
def Obligations.StepsKeepReservations : Prop :=
  ∀ s t : State, s.Reservations → step s = .next t → t.Reservations

/-- R27, R29, R118, R120, R123, R124, R127, R142: every step keeps the station, the pump and the parts of the ledger at the
service of the active item alone; with no item active no part stands, and no SPIT or CHECK order, no wipe and no suction but
one that a FAULT has left running. That the station's suction record stands RUNNING until such a stage ends, which R124 and
R130 do not say, is the model's choice: DEDUCED (notes/assumptions/25.md). -/
def Obligations.StepsKeepServiceHolds : Prop :=
  ∀ s t : State, s.ServiceHolds → step s = .next t → t.ServiceHolds

/-- R51: no step clears a mark of a chip that stays at its position. -/
def Obligations.StepsNeverClearMarks : Prop :=
  ∀ (s t : State) (pos : LinkPos) (m : BitVec 128), step s = .next t → s.marksAt pos = some m →
    (∀ c, s.pending.head? = some c → c.brings pos = false) →
    t.marksAt pos = none ∨ ∃ m', t.marksAt pos = some m' ∧ ∀ i, m.getLsbD i = true → m'.getLsbD i = true

/-- R178, R1, R39, R152, R61, R97, R134, R53, R29, R35: the invariants of the records hold right after reset. -/
def Obligations.ResetMeetsInvariants : Prop :=
  State.reset.mode.params.Legal ∧ State.reset.MapLegal ∧ State.reset.ChannelsLegal ∧ State.reset.LevelsCurrent ∧
    State.reset.NozzlesLegal ∧ State.reset.QueuesFit ∧ State.reset.Reservations ∧ State.reset.ServiceHolds ∧
    State.reset.ServiceQueueFits ∧ State.reset.LinkQueueFits ∧ State.reset.WasteCurrent

end
end

