-- ==== Sys2Proof/Laws/Families.lean ====
section
/-!
SUPPORT. Reading after writing, for the small fixed families of Word.lean.
-/

namespace Sys2Proof

variable {α β : Type}

@[simp] theorem PerPort.get_set_same (v : PerPort α) (i : Port) (a : α) : (v.set i a).get i = a := by
  cases i <;> rfl

@[simp] theorem PerPort.get_set_other (v : PerPort α) (i j : Port) (a : α) (h : j ≠ i) : (v.set i a).get j = v.get j := by
  cases i <;> cases j <;> first | rfl | exact absurd rfl h

@[simp] theorem PerPort.get_const (i : Port) (a : α) : (PerPort.const a).get i = a := by cases i <;> rfl

theorem PerPort.ext_get (v w : PerPort α) (h : ∀ i, v.get i = w.get i) : v = w := by
  cases v; cases w
  simp only [PerPort.mk.injEq]
  refine ⟨h .rp, h .cp, h .pp⟩

@[simp] theorem Six.get_set_same (v : Six α) (i : Channel) (a : α) : (v.set i a).get i = a := by
  cases i <;> rfl

@[simp] theorem Six.get_set_other (v : Six α) (i j : Channel) (a : α) (h : j ≠ i) : (v.set i a).get j = v.get j := by
  cases i <;> cases j <;> first | rfl | exact absurd rfl h

@[simp] theorem Six.get_const (i : Channel) (a : α) : (Six.const a).get i = a := by cases i <;> rfl

theorem Six.ext_get (v w : Six α) (h : ∀ i, v.get i = w.get i) : v = w := by
  cases v; cases w
  simp only [Six.mk.injEq]
  refine ⟨h .ch0, h .ch1, h .ch2, h .ch3, h .ch4, h .ch5⟩

@[simp] theorem Three.get_set_same (v : Three α) (i : Head) (a : α) : (v.set i a).get i = a := by
  cases i <;> rfl

@[simp] theorem Three.get_set_other (v : Three α) (i j : Head) (a : α) (h : j ≠ i) : (v.set i a).get j = v.get j := by
  cases i <;> cases j <;> first | rfl | exact absurd rfl h

@[simp] theorem Three.get_const (i : Head) (a : α) : (Three.const a).get i = a := by cases i <;> rfl

theorem Three.ext_get (v w : Three α) (h : ∀ i, v.get i = w.get i) : v = w := by
  cases v; cases w
  simp only [Three.mk.injEq]
  refine ⟨h .h0, h .h1, h .h2⟩

@[simp] theorem Eight.get_set_same (v : Eight α) (i : SlotId) (a : α) : (v.set i a).get i = a := by
  cases i <;> rfl

@[simp] theorem Eight.get_set_other (v : Eight α) (i j : SlotId) (a : α) (h : j ≠ i) : (v.set i a).get j = v.get j := by
  cases i <;> cases j <;> first | rfl | exact absurd rfl h

@[simp] theorem Eight.get_const (i : SlotId) (a : α) : (Eight.const a).get i = a := by cases i <;> rfl

theorem Eight.ext_get (v w : Eight α) (h : ∀ i, v.get i = w.get i) : v = w := by
  cases v; cases w
  simp only [Eight.mk.injEq]
  refine ⟨h .s0, h .s1, h .s2, h .s3, h .s4, h .s5, h .s6, h .s7⟩

@[simp] theorem Two.get_set_same (v : Two α) (i : Roll) (a : α) : (v.set i a).get i = a := by
  cases i <;> rfl

@[simp] theorem Two.get_set_other (v : Two α) (i j : Roll) (a : α) (h : j ≠ i) : (v.set i a).get j = v.get j := by
  cases i <;> cases j <;> first | rfl | exact absurd rfl h

@[simp] theorem Two.get_const (i : Roll) (a : α) : (Two.const a).get i = a := by cases i <;> rfl

theorem Two.ext_get (v w : Two α) (h : ∀ i, v.get i = w.get i) : v = w := by
  cases v; cases w
  simp only [Two.mk.injEq]
  refine ⟨h .upper, h .lower⟩

@[simp] theorem Six.get_tab (f : Channel → α) (i : Channel) : (Six.tab f).get i = f i := by cases i <;> rfl

@[simp] theorem Three.get_tab (f : Head → α) (i : Head) : (Three.tab f).get i = f i := by cases i <;> rfl

@[simp] theorem Eight.get_tab (f : SlotId → α) (i : SlotId) : (Eight.tab f).get i = f i := by cases i <;> rfl

@[simp] theorem Two.get_tab (f : Roll → α) (i : Roll) : (Two.tab f).get i = f i := by cases i <;> rfl

@[simp] theorem Six.get_map (f : α → β) (v : Six α) (i : Channel) : (v.map f).get i = f (v.get i) := by cases i <;> rfl

@[simp] theorem Three.get_map (f : α → β) (v : Three α) (i : Head) : (v.map f).get i = f (v.get i) := by cases i <;> rfl

theorem Channel.mem_all (c : Channel) : c ∈ Channel.all := by cases c <;> decide

theorem Head.mem_all (h : Head) : h ∈ Head.all := by cases h <;> decide

theorem SlotId.mem_all (k : SlotId) : k ∈ SlotId.all := by cases k <;> decide

@[simp] theorem Channel.ofNat?_toNat (c : Channel) : Channel.ofNat? c.toNat = some c := by cases c <;> rfl

@[simp] theorem SlotId.ofNat?_toNat (k : SlotId) : SlotId.ofNat? k.toNat = some k := by cases k <;> rfl

end Sys2Proof
end

