-- ==== Sys2Proof/Laws/State.lean ====
section
/-!
SUPPORT. Beside State: what each block's update leaves in each block, one lemma per field per update.
-/

namespace Sys2Proof.Machine

variable (s : State)

@[simp] theorem State.setPending_pending (x : List Instr) : (s.setPending x).pending = x := by rfl
@[simp] theorem State.setPending_pins (x : List Instr) : (s.setPending x).pins = s.pins := by rfl
@[simp] theorem State.setPending_chips (x : List Instr) : (s.setPending x).chips = s.chips := by rfl
@[simp] theorem State.setPending_mode (x : List Instr) : (s.setPending x).mode = s.mode := by rfl
@[simp] theorem State.setPending_ports (x : List Instr) : (s.setPending x).ports = s.ports := by rfl
@[simp] theorem State.setPending_ledger (x : List Instr) : (s.setPending x).ledger = s.ledger := by rfl
@[simp] theorem State.setPending_manifold (x : List Instr) : (s.setPending x).manifold = s.manifold := by rfl
@[simp] theorem State.setPending_supply (x : List Instr) : (s.setPending x).supply = s.supply := by rfl
@[simp] theorem State.setPending_tickets (x : List Instr) : (s.setPending x).tickets = s.tickets := by rfl
@[simp] theorem State.setPending_feed (x : List Instr) : (s.setPending x).feed = s.feed := by rfl
@[simp] theorem State.setPending_sheets (x : List Instr) : (s.setPending x).sheets = s.sheets := by rfl
@[simp] theorem State.setPending_station (x : List Instr) : (s.setPending x).station = s.station := by rfl
@[simp] theorem State.setPending_service (x : List Instr) : (s.setPending x).service = s.service := by rfl
@[simp] theorem State.setPending_nozzles (x : List Instr) : (s.setPending x).nozzles = s.nozzles := by rfl
@[simp] theorem State.setPending_due (x : List Instr) : (s.setPending x).due = s.due := by rfl

@[simp] theorem State.setPins_pending (x : Pins) : (s.setPins x).pending = s.pending := by rfl
@[simp] theorem State.setPins_pins (x : Pins) : (s.setPins x).pins = x := by rfl
@[simp] theorem State.setPins_chips (x : Pins) : (s.setPins x).chips = s.chips := by rfl
@[simp] theorem State.setPins_mode (x : Pins) : (s.setPins x).mode = s.mode := by rfl
@[simp] theorem State.setPins_ports (x : Pins) : (s.setPins x).ports = s.ports := by rfl
@[simp] theorem State.setPins_ledger (x : Pins) : (s.setPins x).ledger = s.ledger := by rfl
@[simp] theorem State.setPins_manifold (x : Pins) : (s.setPins x).manifold = s.manifold := by rfl
@[simp] theorem State.setPins_supply (x : Pins) : (s.setPins x).supply = s.supply := by rfl
@[simp] theorem State.setPins_tickets (x : Pins) : (s.setPins x).tickets = s.tickets := by rfl
@[simp] theorem State.setPins_feed (x : Pins) : (s.setPins x).feed = s.feed := by rfl
@[simp] theorem State.setPins_sheets (x : Pins) : (s.setPins x).sheets = s.sheets := by rfl
@[simp] theorem State.setPins_station (x : Pins) : (s.setPins x).station = s.station := by rfl
@[simp] theorem State.setPins_service (x : Pins) : (s.setPins x).service = s.service := by rfl
@[simp] theorem State.setPins_nozzles (x : Pins) : (s.setPins x).nozzles = s.nozzles := by rfl
@[simp] theorem State.setPins_due (x : Pins) : (s.setPins x).due = s.due := by rfl

@[simp] theorem State.setChips_pending (x : Chips) : (s.setChips x).pending = s.pending := by rfl
@[simp] theorem State.setChips_pins (x : Chips) : (s.setChips x).pins = s.pins := by rfl
@[simp] theorem State.setChips_chips (x : Chips) : (s.setChips x).chips = x := by rfl
@[simp] theorem State.setChips_mode (x : Chips) : (s.setChips x).mode = s.mode := by rfl
@[simp] theorem State.setChips_ports (x : Chips) : (s.setChips x).ports = s.ports := by rfl
@[simp] theorem State.setChips_ledger (x : Chips) : (s.setChips x).ledger = s.ledger := by rfl
@[simp] theorem State.setChips_manifold (x : Chips) : (s.setChips x).manifold = s.manifold := by rfl
@[simp] theorem State.setChips_supply (x : Chips) : (s.setChips x).supply = s.supply := by rfl
@[simp] theorem State.setChips_tickets (x : Chips) : (s.setChips x).tickets = s.tickets := by rfl
@[simp] theorem State.setChips_feed (x : Chips) : (s.setChips x).feed = s.feed := by rfl
@[simp] theorem State.setChips_sheets (x : Chips) : (s.setChips x).sheets = s.sheets := by rfl
@[simp] theorem State.setChips_station (x : Chips) : (s.setChips x).station = s.station := by rfl
@[simp] theorem State.setChips_service (x : Chips) : (s.setChips x).service = s.service := by rfl
@[simp] theorem State.setChips_nozzles (x : Chips) : (s.setChips x).nozzles = s.nozzles := by rfl
@[simp] theorem State.setChips_due (x : Chips) : (s.setChips x).due = s.due := by rfl

@[simp] theorem State.setMode_pending (x : ModeUnit) : (s.setMode x).pending = s.pending := by rfl
@[simp] theorem State.setMode_pins (x : ModeUnit) : (s.setMode x).pins = s.pins := by rfl
@[simp] theorem State.setMode_chips (x : ModeUnit) : (s.setMode x).chips = s.chips := by rfl
@[simp] theorem State.setMode_mode (x : ModeUnit) : (s.setMode x).mode = x := by rfl
@[simp] theorem State.setMode_ports (x : ModeUnit) : (s.setMode x).ports = s.ports := by rfl
@[simp] theorem State.setMode_ledger (x : ModeUnit) : (s.setMode x).ledger = s.ledger := by rfl
@[simp] theorem State.setMode_manifold (x : ModeUnit) : (s.setMode x).manifold = s.manifold := by rfl
@[simp] theorem State.setMode_supply (x : ModeUnit) : (s.setMode x).supply = s.supply := by rfl
@[simp] theorem State.setMode_tickets (x : ModeUnit) : (s.setMode x).tickets = s.tickets := by rfl
@[simp] theorem State.setMode_feed (x : ModeUnit) : (s.setMode x).feed = s.feed := by rfl
@[simp] theorem State.setMode_sheets (x : ModeUnit) : (s.setMode x).sheets = s.sheets := by rfl
@[simp] theorem State.setMode_station (x : ModeUnit) : (s.setMode x).station = s.station := by rfl
@[simp] theorem State.setMode_service (x : ModeUnit) : (s.setMode x).service = s.service := by rfl
@[simp] theorem State.setMode_nozzles (x : ModeUnit) : (s.setMode x).nozzles = s.nozzles := by rfl
@[simp] theorem State.setMode_due (x : ModeUnit) : (s.setMode x).due = s.due := by rfl

@[simp] theorem State.setPorts_pending (x : PerPort PortRec) : (s.setPorts x).pending = s.pending := by rfl
@[simp] theorem State.setPorts_pins (x : PerPort PortRec) : (s.setPorts x).pins = s.pins := by rfl
@[simp] theorem State.setPorts_chips (x : PerPort PortRec) : (s.setPorts x).chips = s.chips := by rfl
@[simp] theorem State.setPorts_mode (x : PerPort PortRec) : (s.setPorts x).mode = s.mode := by rfl
@[simp] theorem State.setPorts_ports (x : PerPort PortRec) : (s.setPorts x).ports = x := by rfl
@[simp] theorem State.setPorts_ledger (x : PerPort PortRec) : (s.setPorts x).ledger = s.ledger := by rfl
@[simp] theorem State.setPorts_manifold (x : PerPort PortRec) : (s.setPorts x).manifold = s.manifold := by rfl
@[simp] theorem State.setPorts_supply (x : PerPort PortRec) : (s.setPorts x).supply = s.supply := by rfl
@[simp] theorem State.setPorts_tickets (x : PerPort PortRec) : (s.setPorts x).tickets = s.tickets := by rfl
@[simp] theorem State.setPorts_feed (x : PerPort PortRec) : (s.setPorts x).feed = s.feed := by rfl
@[simp] theorem State.setPorts_sheets (x : PerPort PortRec) : (s.setPorts x).sheets = s.sheets := by rfl
@[simp] theorem State.setPorts_station (x : PerPort PortRec) : (s.setPorts x).station = s.station := by rfl
@[simp] theorem State.setPorts_service (x : PerPort PortRec) : (s.setPorts x).service = s.service := by rfl
@[simp] theorem State.setPorts_nozzles (x : PerPort PortRec) : (s.setPorts x).nozzles = s.nozzles := by rfl
@[simp] theorem State.setPorts_due (x : PerPort PortRec) : (s.setPorts x).due = s.due := by rfl

@[simp] theorem State.setLedger_pending (x : Ledger) : (s.setLedger x).pending = s.pending := by rfl
@[simp] theorem State.setLedger_pins (x : Ledger) : (s.setLedger x).pins = s.pins := by rfl
@[simp] theorem State.setLedger_chips (x : Ledger) : (s.setLedger x).chips = s.chips := by rfl
@[simp] theorem State.setLedger_mode (x : Ledger) : (s.setLedger x).mode = s.mode := by rfl
@[simp] theorem State.setLedger_ports (x : Ledger) : (s.setLedger x).ports = s.ports := by rfl
@[simp] theorem State.setLedger_ledger (x : Ledger) : (s.setLedger x).ledger = x := by rfl
@[simp] theorem State.setLedger_manifold (x : Ledger) : (s.setLedger x).manifold = s.manifold := by rfl
@[simp] theorem State.setLedger_supply (x : Ledger) : (s.setLedger x).supply = s.supply := by rfl
@[simp] theorem State.setLedger_tickets (x : Ledger) : (s.setLedger x).tickets = s.tickets := by rfl
@[simp] theorem State.setLedger_feed (x : Ledger) : (s.setLedger x).feed = s.feed := by rfl
@[simp] theorem State.setLedger_sheets (x : Ledger) : (s.setLedger x).sheets = s.sheets := by rfl
@[simp] theorem State.setLedger_station (x : Ledger) : (s.setLedger x).station = s.station := by rfl
@[simp] theorem State.setLedger_service (x : Ledger) : (s.setLedger x).service = s.service := by rfl
@[simp] theorem State.setLedger_nozzles (x : Ledger) : (s.setLedger x).nozzles = s.nozzles := by rfl
@[simp] theorem State.setLedger_due (x : Ledger) : (s.setLedger x).due = s.due := by rfl

@[simp] theorem State.setManifold_pending (x : Manifold) : (s.setManifold x).pending = s.pending := by rfl
@[simp] theorem State.setManifold_pins (x : Manifold) : (s.setManifold x).pins = s.pins := by rfl
@[simp] theorem State.setManifold_chips (x : Manifold) : (s.setManifold x).chips = s.chips := by rfl
@[simp] theorem State.setManifold_mode (x : Manifold) : (s.setManifold x).mode = s.mode := by rfl
@[simp] theorem State.setManifold_ports (x : Manifold) : (s.setManifold x).ports = s.ports := by rfl
@[simp] theorem State.setManifold_ledger (x : Manifold) : (s.setManifold x).ledger = s.ledger := by rfl
@[simp] theorem State.setManifold_manifold (x : Manifold) : (s.setManifold x).manifold = x := by rfl
@[simp] theorem State.setManifold_supply (x : Manifold) : (s.setManifold x).supply = s.supply := by rfl
@[simp] theorem State.setManifold_tickets (x : Manifold) : (s.setManifold x).tickets = s.tickets := by rfl
@[simp] theorem State.setManifold_feed (x : Manifold) : (s.setManifold x).feed = s.feed := by rfl
@[simp] theorem State.setManifold_sheets (x : Manifold) : (s.setManifold x).sheets = s.sheets := by rfl
@[simp] theorem State.setManifold_station (x : Manifold) : (s.setManifold x).station = s.station := by rfl
@[simp] theorem State.setManifold_service (x : Manifold) : (s.setManifold x).service = s.service := by rfl
@[simp] theorem State.setManifold_nozzles (x : Manifold) : (s.setManifold x).nozzles = s.nozzles := by rfl
@[simp] theorem State.setManifold_due (x : Manifold) : (s.setManifold x).due = s.due := by rfl

@[simp] theorem State.setSupply_pending (x : Supply) : (s.setSupply x).pending = s.pending := by rfl
@[simp] theorem State.setSupply_pins (x : Supply) : (s.setSupply x).pins = s.pins := by rfl
@[simp] theorem State.setSupply_chips (x : Supply) : (s.setSupply x).chips = s.chips := by rfl
@[simp] theorem State.setSupply_mode (x : Supply) : (s.setSupply x).mode = s.mode := by rfl
@[simp] theorem State.setSupply_ports (x : Supply) : (s.setSupply x).ports = s.ports := by rfl
@[simp] theorem State.setSupply_ledger (x : Supply) : (s.setSupply x).ledger = s.ledger := by rfl
@[simp] theorem State.setSupply_manifold (x : Supply) : (s.setSupply x).manifold = s.manifold := by rfl
@[simp] theorem State.setSupply_supply (x : Supply) : (s.setSupply x).supply = x := by rfl
@[simp] theorem State.setSupply_tickets (x : Supply) : (s.setSupply x).tickets = s.tickets := by rfl
@[simp] theorem State.setSupply_feed (x : Supply) : (s.setSupply x).feed = s.feed := by rfl
@[simp] theorem State.setSupply_sheets (x : Supply) : (s.setSupply x).sheets = s.sheets := by rfl
@[simp] theorem State.setSupply_station (x : Supply) : (s.setSupply x).station = s.station := by rfl
@[simp] theorem State.setSupply_service (x : Supply) : (s.setSupply x).service = s.service := by rfl
@[simp] theorem State.setSupply_nozzles (x : Supply) : (s.setSupply x).nozzles = s.nozzles := by rfl
@[simp] theorem State.setSupply_due (x : Supply) : (s.setSupply x).due = s.due := by rfl

@[simp] theorem State.setTickets_pending (x : Admission) : (s.setTickets x).pending = s.pending := by rfl
@[simp] theorem State.setTickets_pins (x : Admission) : (s.setTickets x).pins = s.pins := by rfl
@[simp] theorem State.setTickets_chips (x : Admission) : (s.setTickets x).chips = s.chips := by rfl
@[simp] theorem State.setTickets_mode (x : Admission) : (s.setTickets x).mode = s.mode := by rfl
@[simp] theorem State.setTickets_ports (x : Admission) : (s.setTickets x).ports = s.ports := by rfl
@[simp] theorem State.setTickets_ledger (x : Admission) : (s.setTickets x).ledger = s.ledger := by rfl
@[simp] theorem State.setTickets_manifold (x : Admission) : (s.setTickets x).manifold = s.manifold := by rfl
@[simp] theorem State.setTickets_supply (x : Admission) : (s.setTickets x).supply = s.supply := by rfl
@[simp] theorem State.setTickets_tickets (x : Admission) : (s.setTickets x).tickets = x := by rfl
@[simp] theorem State.setTickets_feed (x : Admission) : (s.setTickets x).feed = s.feed := by rfl
@[simp] theorem State.setTickets_sheets (x : Admission) : (s.setTickets x).sheets = s.sheets := by rfl
@[simp] theorem State.setTickets_station (x : Admission) : (s.setTickets x).station = s.station := by rfl
@[simp] theorem State.setTickets_service (x : Admission) : (s.setTickets x).service = s.service := by rfl
@[simp] theorem State.setTickets_nozzles (x : Admission) : (s.setTickets x).nozzles = s.nozzles := by rfl
@[simp] theorem State.setTickets_due (x : Admission) : (s.setTickets x).due = s.due := by rfl

@[simp] theorem State.setFeed_pending (x : Feed) : (s.setFeed x).pending = s.pending := by rfl
@[simp] theorem State.setFeed_pins (x : Feed) : (s.setFeed x).pins = s.pins := by rfl
@[simp] theorem State.setFeed_chips (x : Feed) : (s.setFeed x).chips = s.chips := by rfl
@[simp] theorem State.setFeed_mode (x : Feed) : (s.setFeed x).mode = s.mode := by rfl
@[simp] theorem State.setFeed_ports (x : Feed) : (s.setFeed x).ports = s.ports := by rfl
@[simp] theorem State.setFeed_ledger (x : Feed) : (s.setFeed x).ledger = s.ledger := by rfl
@[simp] theorem State.setFeed_manifold (x : Feed) : (s.setFeed x).manifold = s.manifold := by rfl
@[simp] theorem State.setFeed_supply (x : Feed) : (s.setFeed x).supply = s.supply := by rfl
@[simp] theorem State.setFeed_tickets (x : Feed) : (s.setFeed x).tickets = s.tickets := by rfl
@[simp] theorem State.setFeed_feed (x : Feed) : (s.setFeed x).feed = x := by rfl
@[simp] theorem State.setFeed_sheets (x : Feed) : (s.setFeed x).sheets = s.sheets := by rfl
@[simp] theorem State.setFeed_station (x : Feed) : (s.setFeed x).station = s.station := by rfl
@[simp] theorem State.setFeed_service (x : Feed) : (s.setFeed x).service = s.service := by rfl
@[simp] theorem State.setFeed_nozzles (x : Feed) : (s.setFeed x).nozzles = s.nozzles := by rfl
@[simp] theorem State.setFeed_due (x : Feed) : (s.setFeed x).due = s.due := by rfl

@[simp] theorem State.setSheets_pending (x : Sheets) : (s.setSheets x).pending = s.pending := by rfl
@[simp] theorem State.setSheets_pins (x : Sheets) : (s.setSheets x).pins = s.pins := by rfl
@[simp] theorem State.setSheets_chips (x : Sheets) : (s.setSheets x).chips = s.chips := by rfl
@[simp] theorem State.setSheets_mode (x : Sheets) : (s.setSheets x).mode = s.mode := by rfl
@[simp] theorem State.setSheets_ports (x : Sheets) : (s.setSheets x).ports = s.ports := by rfl
@[simp] theorem State.setSheets_ledger (x : Sheets) : (s.setSheets x).ledger = s.ledger := by rfl
@[simp] theorem State.setSheets_manifold (x : Sheets) : (s.setSheets x).manifold = s.manifold := by rfl
@[simp] theorem State.setSheets_supply (x : Sheets) : (s.setSheets x).supply = s.supply := by rfl
@[simp] theorem State.setSheets_tickets (x : Sheets) : (s.setSheets x).tickets = s.tickets := by rfl
@[simp] theorem State.setSheets_feed (x : Sheets) : (s.setSheets x).feed = s.feed := by rfl
@[simp] theorem State.setSheets_sheets (x : Sheets) : (s.setSheets x).sheets = x := by rfl
@[simp] theorem State.setSheets_station (x : Sheets) : (s.setSheets x).station = s.station := by rfl
@[simp] theorem State.setSheets_service (x : Sheets) : (s.setSheets x).service = s.service := by rfl
@[simp] theorem State.setSheets_nozzles (x : Sheets) : (s.setSheets x).nozzles = s.nozzles := by rfl
@[simp] theorem State.setSheets_due (x : Sheets) : (s.setSheets x).due = s.due := by rfl

@[simp] theorem State.setStation_pending (x : Station) : (s.setStation x).pending = s.pending := by rfl
@[simp] theorem State.setStation_pins (x : Station) : (s.setStation x).pins = s.pins := by rfl
@[simp] theorem State.setStation_chips (x : Station) : (s.setStation x).chips = s.chips := by rfl
@[simp] theorem State.setStation_mode (x : Station) : (s.setStation x).mode = s.mode := by rfl
@[simp] theorem State.setStation_ports (x : Station) : (s.setStation x).ports = s.ports := by rfl
@[simp] theorem State.setStation_ledger (x : Station) : (s.setStation x).ledger = s.ledger := by rfl
@[simp] theorem State.setStation_manifold (x : Station) : (s.setStation x).manifold = s.manifold := by rfl
@[simp] theorem State.setStation_supply (x : Station) : (s.setStation x).supply = s.supply := by rfl
@[simp] theorem State.setStation_tickets (x : Station) : (s.setStation x).tickets = s.tickets := by rfl
@[simp] theorem State.setStation_feed (x : Station) : (s.setStation x).feed = s.feed := by rfl
@[simp] theorem State.setStation_sheets (x : Station) : (s.setStation x).sheets = s.sheets := by rfl
@[simp] theorem State.setStation_station (x : Station) : (s.setStation x).station = x := by rfl
@[simp] theorem State.setStation_service (x : Station) : (s.setStation x).service = s.service := by rfl
@[simp] theorem State.setStation_nozzles (x : Station) : (s.setStation x).nozzles = s.nozzles := by rfl
@[simp] theorem State.setStation_due (x : Station) : (s.setStation x).due = s.due := by rfl

@[simp] theorem State.setService_pending (x : Service) : (s.setService x).pending = s.pending := by rfl
@[simp] theorem State.setService_pins (x : Service) : (s.setService x).pins = s.pins := by rfl
@[simp] theorem State.setService_chips (x : Service) : (s.setService x).chips = s.chips := by rfl
@[simp] theorem State.setService_mode (x : Service) : (s.setService x).mode = s.mode := by rfl
@[simp] theorem State.setService_ports (x : Service) : (s.setService x).ports = s.ports := by rfl
@[simp] theorem State.setService_ledger (x : Service) : (s.setService x).ledger = s.ledger := by rfl
@[simp] theorem State.setService_manifold (x : Service) : (s.setService x).manifold = s.manifold := by rfl
@[simp] theorem State.setService_supply (x : Service) : (s.setService x).supply = s.supply := by rfl
@[simp] theorem State.setService_tickets (x : Service) : (s.setService x).tickets = s.tickets := by rfl
@[simp] theorem State.setService_feed (x : Service) : (s.setService x).feed = s.feed := by rfl
@[simp] theorem State.setService_sheets (x : Service) : (s.setService x).sheets = s.sheets := by rfl
@[simp] theorem State.setService_station (x : Service) : (s.setService x).station = s.station := by rfl
@[simp] theorem State.setService_service (x : Service) : (s.setService x).service = x := by rfl
@[simp] theorem State.setService_nozzles (x : Service) : (s.setService x).nozzles = s.nozzles := by rfl
@[simp] theorem State.setService_due (x : Service) : (s.setService x).due = s.due := by rfl

@[simp] theorem State.setNozzles_pending (x : Nozzles) : (s.setNozzles x).pending = s.pending := by rfl
@[simp] theorem State.setNozzles_pins (x : Nozzles) : (s.setNozzles x).pins = s.pins := by rfl
@[simp] theorem State.setNozzles_chips (x : Nozzles) : (s.setNozzles x).chips = s.chips := by rfl
@[simp] theorem State.setNozzles_mode (x : Nozzles) : (s.setNozzles x).mode = s.mode := by rfl
@[simp] theorem State.setNozzles_ports (x : Nozzles) : (s.setNozzles x).ports = s.ports := by rfl
@[simp] theorem State.setNozzles_ledger (x : Nozzles) : (s.setNozzles x).ledger = s.ledger := by rfl
@[simp] theorem State.setNozzles_manifold (x : Nozzles) : (s.setNozzles x).manifold = s.manifold := by rfl
@[simp] theorem State.setNozzles_supply (x : Nozzles) : (s.setNozzles x).supply = s.supply := by rfl
@[simp] theorem State.setNozzles_tickets (x : Nozzles) : (s.setNozzles x).tickets = s.tickets := by rfl
@[simp] theorem State.setNozzles_feed (x : Nozzles) : (s.setNozzles x).feed = s.feed := by rfl
@[simp] theorem State.setNozzles_sheets (x : Nozzles) : (s.setNozzles x).sheets = s.sheets := by rfl
@[simp] theorem State.setNozzles_station (x : Nozzles) : (s.setNozzles x).station = s.station := by rfl
@[simp] theorem State.setNozzles_service (x : Nozzles) : (s.setNozzles x).service = s.service := by rfl
@[simp] theorem State.setNozzles_nozzles (x : Nozzles) : (s.setNozzles x).nozzles = x := by rfl
@[simp] theorem State.setNozzles_due (x : Nozzles) : (s.setNozzles x).due = s.due := by rfl

@[simp] theorem State.setDue_pending (x : Due) : (s.setDue x).pending = s.pending := by rfl
@[simp] theorem State.setDue_pins (x : Due) : (s.setDue x).pins = s.pins := by rfl
@[simp] theorem State.setDue_chips (x : Due) : (s.setDue x).chips = s.chips := by rfl
@[simp] theorem State.setDue_mode (x : Due) : (s.setDue x).mode = s.mode := by rfl
@[simp] theorem State.setDue_ports (x : Due) : (s.setDue x).ports = s.ports := by rfl
@[simp] theorem State.setDue_ledger (x : Due) : (s.setDue x).ledger = s.ledger := by rfl
@[simp] theorem State.setDue_manifold (x : Due) : (s.setDue x).manifold = s.manifold := by rfl
@[simp] theorem State.setDue_supply (x : Due) : (s.setDue x).supply = s.supply := by rfl
@[simp] theorem State.setDue_tickets (x : Due) : (s.setDue x).tickets = s.tickets := by rfl
@[simp] theorem State.setDue_feed (x : Due) : (s.setDue x).feed = s.feed := by rfl
@[simp] theorem State.setDue_sheets (x : Due) : (s.setDue x).sheets = s.sheets := by rfl
@[simp] theorem State.setDue_station (x : Due) : (s.setDue x).station = s.station := by rfl
@[simp] theorem State.setDue_service (x : Due) : (s.setDue x).service = s.service := by rfl
@[simp] theorem State.setDue_nozzles (x : Due) : (s.setDue x).nozzles = s.nozzles := by rfl
@[simp] theorem State.setDue_due (x : Due) : (s.setDue x).due = x := by rfl

@[simp] theorem State.when_true (f : State → State) : s.when true f = f s := by rfl
@[simp] theorem State.when_false (f : State → State) : s.when false f = s := by rfl

end Sys2Proof.Machine
end

