-- ==== Sys2Proof/Laws/Frame.lean ====
section
/-!
SUPPORT. Frames: two views of the state. `State.base` is what no operation of a block changes beyond the command that names
it (the queue, the sensors, the mode with its parameters and lock, each port's reply, mask, cursor and data, the drop
volumes). `State.still` is what no reaction changes: the base, and the chips, the carries, the waste accounted, the slot
records and the map, the cartridge, the numbers next assigned, the swath timer, the park state, the order failures and the
station's cause, the nozzle tables. One lemma per operation; `settle_still` is the one that later proofs cite.
-/

namespace Sys2Proof.Machine

/-- What no operation of a block changes. -/
structure Base where
  pending : List Instr
  pins : Pins
  mode : Mode
  cause : ResetCause
  params : Params
  lock : Bool
  reply : Port → Reply
  mask : Port → BitVec 24
  cursor : Port → Option Cursor
  out : Port → List Byte
  outBits : Port → Nat
  reading : Port → Option OpenRead
  dv : Channel → Nat

def State.base (s : State) : Base :=
  { pending := s.pending, pins := s.pins, mode := s.mode.mode, cause := s.mode.cause, params := s.mode.params,
    lock := s.mode.lock, reply := fun p => (s.ports.get p).reply, mask := fun p => (s.ports.get p).mask,
    cursor := fun p => (s.ports.get p).cursor, out := fun p => (s.ports.get p).out,
    outBits := fun p => (s.ports.get p).outBits,
    reading := fun p => (s.ports.get p).reading.map OpenRead.asBegun, dv := fun c => (s.ledger.chan.get c).dv }

/-- What no reaction changes. -/
structure Still where
  base : Base
  chips : Chips
  idleServiceLeft : Option Nat
  carry : Channel → Nat
  wa : Nat
  map : Eight (Option Channel)
  slot : Eight SlotRec
  waste : WasteRec
  nextNumber : Nat
  swathLeft : Option Nat
  nextId : Nat
  park : ParkState
  failures : Nat
  cause : StationCause
  nozzles : Nozzles

def State.still (s : State) : Still :=
  { base := s.base, chips := s.chips, idleServiceLeft := s.mode.idleServiceLeft,
    carry := fun c => (s.ledger.chan.get c).carry, wa := s.ledger.wa, map := s.supply.map, slot := s.supply.slot,
    waste := s.supply.waste, nextNumber := s.tickets.nextNumber, swathLeft := s.tickets.swathLeft,
    nextId := s.sheets.nextId, park := s.station.park, failures := s.station.failures, cause := s.station.cause,
    nozzles := s.nozzles }

theorem State.base_of_still {s t : State} (h : t.still = s.still) : t.base = s.base := congrArg Still.base h

/-- The reply, mask, cursor, data and read under way of a port record. -/
def PortRec.core (r : PortRec) : Reply × BitVec 24 × Option Cursor × List Byte × Nat × Option OpenRead :=
  (r.reply, r.mask, r.cursor, r.out, r.outBits, r.reading.map OpenRead.asBegun)

/-- The drop volume and the carry of a channel record. -/
def ChannelRec.core (r : ChannelRec) : Nat × Nat := (r.dv, r.carry)

variable (s : State)

/-! ### The updates -/

@[simp] theorem State.still_setManifold (x : Manifold) : (s.setManifold x).still = s.still := by rfl
@[simp] theorem State.still_setService (x : Service) : (s.setService x).still = s.still := by rfl
@[simp] theorem State.still_setDue (x : Due) : (s.setDue x).still = s.still := by rfl
@[simp] theorem State.still_setFeed (x : Feed) : (s.setFeed x).still = s.still := by rfl
@[simp] theorem State.base_setManifold (x : Manifold) : (s.setManifold x).base = s.base := by rfl
@[simp] theorem State.base_setService (x : Service) : (s.setService x).base = s.base := by rfl
@[simp] theorem State.base_setDue (x : Due) : (s.setDue x).base = s.base := by rfl
@[simp] theorem State.base_setFeed (x : Feed) : (s.setFeed x).base = s.base := by rfl
@[simp] theorem State.base_setChips (x : Chips) : (s.setChips x).base = s.base := by rfl
@[simp] theorem State.base_setSupply (x : Supply) : (s.setSupply x).base = s.base := by rfl
@[simp] theorem State.base_setTickets (x : Admission) : (s.setTickets x).base = s.base := by rfl
@[simp] theorem State.base_setSheets (x : Sheets) : (s.setSheets x).base = s.base := by rfl
@[simp] theorem State.base_setStation (x : Station) : (s.setStation x).base = s.base := by rfl
@[simp] theorem State.base_setNozzles (x : Nozzles) : (s.setNozzles x).base = s.base := by rfl

theorem State.base_setLedger (x : Ledger) (h : ∀ c, (x.chan.get c).dv = (s.ledger.chan.get c).dv) :
    (s.setLedger x).base = s.base := by
  simp [State.base, h]

theorem State.still_setLedger (x : Ledger) (h : ∀ c, (x.chan.get c).core = (s.ledger.chan.get c).core)
    (hw : x.wa = s.ledger.wa) : (s.setLedger x).still = s.still := by
  have h1 : ∀ c, (x.chan.get c).dv = (s.ledger.chan.get c).dv := fun c => congrArg Prod.fst (h c)
  have h2 : ∀ c, (x.chan.get c).carry = (s.ledger.chan.get c).carry := fun c => congrArg Prod.snd (h c)
  simp [State.still, State.base, h1, h2, hw]

@[simp] theorem State.still_setSupply (x : Supply)
    (h : x.map = s.supply.map ∧ x.slot = s.supply.slot ∧ x.waste = s.supply.waste) :
    (s.setSupply x).still = s.still := by
  simp [State.still, State.base, h]

@[simp] theorem State.still_setTickets (x : Admission)
    (h : x.nextNumber = s.tickets.nextNumber ∧ x.swathLeft = s.tickets.swathLeft) :
    (s.setTickets x).still = s.still := by
  simp [State.still, State.base, h]

@[simp] theorem State.still_setSheets (x : Sheets) (h : x.nextId = s.sheets.nextId) :
    (s.setSheets x).still = s.still := by
  simp [State.still, State.base, h]

@[simp] theorem State.still_setStation (x : Station)
    (h : x.park = s.station.park ∧ x.failures = s.station.failures ∧ x.cause = s.station.cause) :
    (s.setStation x).still = s.still := by
  simp [State.still, State.base, h]

theorem State.still_setPorts (x : PerPort PortRec) (h : ∀ p, (x.get p).core = (s.ports.get p).core) :
    (s.setPorts x).still = s.still := by
  have h1 : ∀ p, (x.get p).reply = (s.ports.get p).reply := fun p => congrArg (fun y => y.1) (h p)
  have h2 : ∀ p, (x.get p).mask = (s.ports.get p).mask := fun p => congrArg (fun y => y.2.1) (h p)
  have h3 : ∀ p, (x.get p).cursor = (s.ports.get p).cursor := fun p => congrArg (fun y => y.2.2.1) (h p)
  have h4 : ∀ p, (x.get p).out = (s.ports.get p).out := fun p => congrArg (fun y => y.2.2.2.1) (h p)
  have h5 : ∀ p, (x.get p).outBits = (s.ports.get p).outBits := fun p => congrArg (fun y => y.2.2.2.2.1) (h p)
  have h6 : ∀ p, (x.get p).reading.map OpenRead.asBegun = (s.ports.get p).reading.map OpenRead.asBegun :=
    fun p => congrArg (fun y => y.2.2.2.2.2) (h p)
  simp [State.still, State.base, h1, h2, h3, h4, h5, h6]

/-! ### Folds and conditions -/

@[simp] theorem State.still_when (b : Bool) (f : State → State) (h : ∀ t, (f t).still = t.still) :
    (s.when b f).still = s.still := by
  unfold State.when; split <;> simp [h]

@[simp] theorem State.base_when (b : Bool) (f : State → State) (h : ∀ t, (f t).base = t.base) :
    (s.when b f).base = s.base := by
  unfold State.when; split <;> simp [h]

@[simp] theorem State.still_foldl {α : Type} (l : List α) (f : State → α → State)
    (h : ∀ t x, (f t x).still = t.still) : (l.foldl f s).still = s.still := by
  induction l generalizing s with
  | nil => rfl
  | cons x l ih => simp [ih, h]

@[simp] theorem State.base_foldl {α : Type} (l : List α) (f : State → α → State)
    (h : ∀ t x, (f t x).base = t.base) : (l.foldl f s).base = s.base := by
  induction l generalizing s with
  | nil => rfl
  | cons x l ih => simp [ih, h]

/-! ### Events -/

@[simp] theorem OpenRead.latch_asBegun (x : OpenRead) (e : Event) : (x.latch e).asBegun = x.asBegun := by cases x <;> rfl

/-- A latched event adds its kind to the set, and to the newer kinds of a GET_EVENTS under way; nothing else changes. -/
@[simp] theorem PortRec.latch_core (r : PortRec) (e : Event) : (r.latch e).core = r.core := by
  simp [PortRec.latch, PortRec.core, Function.comp_def]

@[simp] theorem State.still_raise (e : Event) : (s.raise e).still = s.still := by
  apply State.still_setPorts
  intro p
  cases p <;> simp only [PerPort.get] <;> split <;> simp

@[simp] theorem State.still_raiseIf (b : Bool) (e : Event) : (s.raiseIf b e).still = s.still := by
  unfold State.raiseIf; split <;> simp

@[simp] theorem State.base_raise (e : Event) : (s.raise e).base = s.base := State.base_of_still (by simp)
@[simp] theorem State.base_raiseIf (b : Bool) (e : Event) : (s.raiseIf b e).base = s.base :=
  State.base_of_still (by simp)

end Sys2Proof.Machine
end

