-- ==== Sys2Proof/Laws/FrameOps.lean ====
section
/-!
SUPPORT. The frame of every operation of the blocks, in the two views of Laws/Frame.lean.
-/

namespace Sys2Proof.Machine

variable (s : State)

/-! ### Ops and jobs -/

@[simp] theorem State.duePass_still : s.duePass.still = s.still := by rfl

@[simp] theorem State.duePass_base : s.duePass.base = s.base :=
  State.base_of_still (by simp)

@[simp] theorem State.dueArbiter_still : s.dueArbiter.still = s.still := by rfl

@[simp] theorem State.dueArbiter_base : s.dueArbiter.base = s.base :=
  State.base_of_still (by simp)

@[simp] theorem State.dueStroke_still (c : Channel) (b : Bool) : (s.dueStroke c b).still = s.still := by rfl

@[simp] theorem State.dueStroke_base (c : Channel) (b : Bool) : (s.dueStroke c b).base = s.base :=
  State.base_of_still (by simp)

@[simp] theorem State.dueExamine_still : s.dueExamine.still = s.still := by rfl

@[simp] theorem State.dueExamine_base : s.dueExamine.base = s.base :=
  State.base_of_still (by simp)

@[simp] theorem State.reportRolls_still (old : Two RollRec) : (s.reportRolls old).still = s.still := by
  unfold State.reportRolls; split <;> simp

@[simp] theorem State.reportRolls_base (old : Two RollRec) : (s.reportRolls old).base = s.base :=
  State.base_of_still (by simp)

@[simp] theorem State.inkMoved_still : s.inkMoved.still = s.still := by simp [State.inkMoved]

@[simp] theorem State.inkMoved_base : s.inkMoved.base = s.base :=
  State.base_of_still (by simp)

@[simp] theorem State.wasteMoved_still : s.wasteMoved.still = s.still := by simp [State.wasteMoved]

@[simp] theorem State.wasteMoved_base : s.wasteMoved.base = s.base :=
  State.base_of_still (by simp)

@[simp] theorem State.modSheet_still (id : Nat) (f : Sheet → Sheet) : (s.modSheet id f).still = s.still := by rfl

@[simp] theorem State.modSheet_base (id : Nat) (f : Sheet → Sheet) : (s.modSheet id f).base = s.base :=
  State.base_of_still (by simp)

@[simp] theorem State.modTicket_still (n : Nat) (f : Ticket → Ticket) : (s.modTicket n f).still = s.still := by rfl

@[simp] theorem State.modTicket_base (n : Nat) (f : Ticket → Ticket) : (s.modTicket n f).base = s.base :=
  State.base_of_still (by simp)

@[simp] theorem State.setLink_still (l : Link) : (s.setLink l).still = s.still := by rfl

@[simp] theorem State.setLink_base (l : Link) : (s.setLink l).base = s.base :=
  State.base_of_still (by simp)

@[simp] theorem State.requestIdentify_still (pos : LinkPos) : (s.requestIdentify pos).still = s.still := by rfl

@[simp] theorem State.requestIdentify_base (pos : LinkPos) : (s.requestIdentify pos).base = s.base :=
  State.base_of_still (by simp)

@[simp] theorem State.requestMark_still (pos : LinkPos) (target : Nat) : (s.requestMark pos target).still = s.still := by rfl

@[simp] theorem State.requestMark_base (pos : LinkPos) (target : Nat) : (s.requestMark pos target).base = s.base :=
  State.base_of_still (by simp)

/-! ### The ledger -/

theorem State.setChan_still (x : Six ChannelRec) (h : ∀ c, (x.get c).core = (s.ledger.chan.get c).core) :
    (s.setChan x).still = s.still := State.still_setLedger s _ h rfl

theorem State.setChan_base (x : Six ChannelRec) (h : ∀ c, (x.get c).dv = (s.ledger.chan.get c).dv) :
    (s.setChan x).base = s.base := State.base_setLedger s _ h

@[simp] theorem State.raiseLevels_still (old new : Six ChannelRec) : (s.raiseLevels old new).still = s.still :=
  by simp [State.raiseLevels]

@[simp] theorem State.raiseLevels_base (old new : Six ChannelRec) : (s.raiseLevels old new).base = s.base :=
  State.base_of_still (by simp)

theorem ledgerChans_core (p : Params) (old : Six ChannelRec) (f : Channel → ChannelRec → ChannelRec)
    (hf : ∀ c r, (f c r).core = r.core) (c : Channel) : ((ledgerChans p old f).get c).core = (old.get c).core := by
  simp only [ledgerChans, Six.get_tab]
  split <;> exact hf c _

theorem ledgerChans_dv (p : Params) (old : Six ChannelRec) (f : Channel → ChannelRec → ChannelRec)
    (hf : ∀ c r, (f c r).dv = r.dv) (c : Channel) : ((ledgerChans p old f).get c).dv = (old.get c).dv := by
  simp only [ledgerChans, Six.get_tab]
  split <;> exact hf c _

@[simp] theorem State.ledgerOp_still (f : Channel → ChannelRec → ChannelRec) (hd : ∀ c r, (f c r).dv = r.dv)
    (hq : ∀ c r, (f c r).carry = r.carry) : (s.ledgerOp f).still = s.still := by
  unfold State.ledgerOp
  dsimp only
  rw [State.still_when _ _ _ State.inkMoved_still, State.raiseLevels_still, State.setChan_still]
  exact ledgerChans_core _ _ _ fun c r => Prod.ext (hd c r) (hq c r)

@[simp] theorem State.ledgerOp_base (f : Channel → ChannelRec → ChannelRec) (hf : ∀ c r, (f c r).dv = r.dv) :
    (s.ledgerOp f).base = s.base := by
  unfold State.ledgerOp
  dsimp only
  rw [State.base_when _ _ _ State.inkMoved_base, State.raiseLevels_base, State.setChan_base]
  exact ledgerChans_dv _ _ _ hf

@[simp] theorem State.recomputeLevels_still : s.recomputeLevels.still = s.still := by
  unfold State.recomputeLevels
  dsimp only
  rw [State.raiseLevels_still, State.setChan_still]
  intro c
  simp [ChannelRec.recompute, ChannelRec.core]

@[simp] theorem State.recomputeLevels_base : s.recomputeLevels.base = s.base := State.base_of_still (by simp)

/-- A ledger record keeps its view where its channels keep theirs. -/
@[simp] theorem State.setLedger_still_chan (x : Ledger) (h : x.chan = s.ledger.chan ∧ x.wa = s.ledger.wa) :
    (s.setLedger x).still = s.still := State.still_setLedger s x (by simp [h]) h.2

@[simp] theorem State.setLedger_base_chan (x : Ledger) (h : x.chan = s.ledger.chan) :
    (s.setLedger x).base = s.base := State.base_setLedger s x (by simp [h])

@[simp] theorem State.reserveInk_still (t : Ticket) : (s.reserveInk t).still = s.still := by simp [State.reserveInk]

@[simp] theorem State.reserveInk_base (t : Ticket) : (s.reserveInk t).base = s.base :=
  State.base_of_still (by simp)

@[simp] theorem State.releaseInk_still (ts : List Ticket) : (s.releaseInk ts).still = s.still :=
  by simp [State.releaseInk]

@[simp] theorem State.releaseInk_base (ts : List Ticket) : (s.releaseInk ts).base = s.base :=
  State.base_of_still (by simp)

@[simp] theorem State.setDemand_still (c : Channel) : (s.setDemand c).still = s.still := by rfl

@[simp] theorem State.setDemand_base (c : Channel) : (s.setDemand c).base = s.base :=
  State.base_of_still (by simp)

@[simp] theorem State.setDemands_still (cs : List Channel) : (s.setDemands cs).still = s.still :=
  by simp [State.setDemands]

@[simp] theorem State.setDemands_base (cs : List Channel) : (s.setDemands cs).base = s.base :=
  State.base_of_still (by simp)

@[simp] theorem State.settleSwath_base (t : Ticket) (pairs : List (Nat × Nat)) :
    (s.settleSwath t pairs).base = s.base := by simp [State.settleSwath]

@[simp] theorem State.debitNeed_still (t : Ticket) : (s.debitNeed t).still = s.still := by simp [State.debitNeed]

@[simp] theorem State.debitNeed_base (t : Ticket) : (s.debitNeed t).base = s.base :=
  State.base_of_still (by simp)

@[simp] theorem State.settleLost_still (t : Ticket) : (s.settleLost t).still = s.still := by simp [State.settleLost]

@[simp] theorem State.settleLost_base (t : Ticket) : (s.settleLost t).base = s.base :=
  State.base_of_still (by simp)

@[simp] theorem State.setWaste_base (w : WasteRec) : (s.setWaste w).base = s.base := by rfl

@[simp] theorem State.refreshUncovered_still : s.refreshUncovered.still = s.still := by simp [State.refreshUncovered]

@[simp] theorem State.refreshUncovered_base : s.refreshUncovered.base = s.base :=
  State.base_of_still (by simp)

@[simp] theorem State.refreshFull_base : s.refreshFull.base = s.base := by simp [State.refreshFull]

@[simp] theorem State.refreshWaste_base : s.refreshWaste.base = s.base := by simp [State.refreshWaste]

@[simp] theorem State.setWa_base (n : Nat) : (s.setWa n).base = s.base := by rfl

@[simp] theorem State.askCoverage_still (w : Work) : (s.askCoverage w).still = s.still := by simp [State.askCoverage]

@[simp] theorem State.askCoverage_base (w : Work) : (s.askCoverage w).base = s.base :=
  State.base_of_still (by simp)

@[simp] theorem State.reserveService_still (w : Work) : (s.reserveService w).still = s.still :=
  by simp [State.reserveService]

@[simp] theorem State.reserveService_base (w : Work) : (s.reserveService w).base = s.base :=
  State.base_of_still (by simp)

@[simp] theorem State.releaseParts_still : s.releaseParts.still = s.still := by simp [State.releaseParts]

@[simp] theorem State.releaseParts_base : s.releaseParts.base = s.base :=
  State.base_of_still (by simp)

@[simp] theorem State.settleSpit_base (mask : Three Bool) (pairs : List (Nat × Nat)) :
    (s.settleSpit mask pairs).base = s.base := by
  simp [State.settleSpit, apply_ite ChannelRec.dv]

@[simp] theorem State.settleSuction_base (h : Head) (level : Nat) (release : Bool) :
    (s.settleSuction h level release).base = s.base := by
  simp [State.settleSuction, apply_ite ChannelRec.dv]

@[simp] theorem State.setLevel_still (c : Channel) (n : Nat) : (s.setLevel c n).still = s.still := by
  simp [State.setLevel, apply_ite ChannelRec.dv, apply_ite ChannelRec.carry]

@[simp] theorem State.setLevel_base (c : Channel) (n : Nat) : (s.setLevel c n).base = s.base :=
  State.base_of_still (by simp)

@[simp] theorem State.creditStroke_still (c : Channel) (v : Nat) : (s.creditStroke c v).still = s.still := by
  simp [State.creditStroke, apply_ite ChannelRec.dv, apply_ite ChannelRec.carry]

@[simp] theorem State.creditStroke_base (c : Channel) (v : Nat) : (s.creditStroke c v).base = s.base :=
  State.base_of_still (by simp)

/-! ### Slots -/

@[simp] theorem State.putSlot_base (k : SlotId) (r : SlotRec) : (s.putSlot k r).base = s.base :=
  by simp [State.putSlot]

@[simp] theorem State.promote_base (c : Channel) : (s.promote c).base = s.base := by
  unfold State.promote; repeat' split
  all_goals simp

@[simp] theorem State.promoteFor_base (k : SlotId) : (s.promoteFor k).base = s.base := by
  unfold State.promoteFor; split <;> simp

@[simp] theorem State.placeSlot_base (k : SlotId) (c : Channel) (r : SlotRec) : (s.placeSlot k c r).base = s.base := by
  unfold State.placeSlot; dsimp only; repeat' split
  all_goals simp

@[simp] theorem State.applyTank_base (k : SlotId) (i : Identity) (m : BitVec 128) :
    (s.applyTank k i m).base = s.base := by
  unfold State.applyTank; repeat' split
  all_goals simp

@[simp] theorem State.applyWaste_base (i : Identity) (m : BitVec 128) : (s.applyWaste i m).base = s.base := by
  unfold State.applyWaste; repeat' split
  all_goals simp

@[simp] theorem State.applyIdentity_base (pos : LinkPos) (i : Identity) (m : BitVec 128) :
    (s.applyIdentity pos i m).base = s.base := by
  unfold State.applyIdentity; split <;> simp

@[simp] theorem State.tankArrives_base (k : SlotId) : (s.tankArrives k).base = s.base := by simp [State.tankArrives]

@[simp] theorem State.forgetSource_still (k : SlotId) : (s.forgetSource k).still = s.still := by rfl

@[simp] theorem State.forgetSource_base (k : SlotId) : (s.forgetSource k).base = s.base :=
  State.base_of_still (by simp)

@[simp] theorem State.dropJob_still (pos : LinkPos) : (s.dropJob pos).still = s.still := by rfl

@[simp] theorem State.dropJob_base (pos : LinkPos) : (s.dropJob pos).base = s.base :=
  State.base_of_still (by simp)

@[simp] theorem State.tankLeaves_base (k : SlotId) : (s.tankLeaves k).base = s.base := by simp [State.tankLeaves]

@[simp] theorem State.wasteArrives_base : s.wasteArrives.base = s.base := by simp [State.wasteArrives]

@[simp] theorem State.wasteLeaves_base : s.wasteLeaves.base = s.base := by simp [State.wasteLeaves]

@[simp] theorem State.faultPosition_base (pos : LinkPos) : (s.faultPosition pos).base = s.base := by
  unfold State.faultPosition; split <;> simp

@[simp] theorem State.addDrawn_base (k : SlotId) (v : Nat) : (s.addDrawn k v).base = s.base := by
  unfold State.addDrawn; dsimp only; repeat' split
  all_goals simp

@[simp] theorem State.recomputeLow_base : s.recomputeLow.base = s.base := by simp [State.recomputeLow]

@[simp] theorem State.remapSlot_base (k : SlotId) (entry : Option Channel) : (s.remapSlot k entry).base = s.base := by
  unfold State.remapSlot; split <;> simp

@[simp] theorem State.takeMap_base (m : Eight (Option Channel)) : (s.takeMap m).base = s.base :=
  by simp [State.takeMap]

@[simp] theorem State.acceptTank_base (k : SlotId) (c : Channel) (ml : Nat) : (s.acceptTank k c ml).base = s.base :=
  by simp [State.acceptTank]

/-! ### The link -/

@[simp] theorem State.endJob_still : s.endJob.still = s.still := by rfl

@[simp] theorem State.endJob_base : s.endJob.base = s.base :=
  State.base_of_still (by simp)

@[simp] theorem State.confirmMarks_base (pos : LinkPos) (n : Nat) : (s.confirmMarks pos n).base = s.base := by
  unfold State.confirmMarks; split <;> simp

@[simp] theorem State.judgeAttempt_base (j : LinkJob) (m : BitVec 128) : (s.judgeAttempt j m).base = s.base := by
  unfold State.judgeAttempt; repeat' split
  all_goals simp

@[simp] theorem State.nextCommand_still (r : LinkRun) (cmd : ChipCommand) : (s.nextCommand r cmd).still = s.still :=
  by rfl

@[simp] theorem State.nextCommand_base (r : LinkRun) (cmd : ChipCommand) : (s.nextCommand r cmd).base = s.base :=
  State.base_of_still (by simp)

@[simp] theorem State.takeAnswer_base (j : LinkJob) (r : LinkRun) (a : LinkAnswer) :
    (s.takeAnswer j r a).base = s.base := by
  unfold State.takeAnswer; repeat' split
  all_goals simp

@[simp] theorem State.endRemapped_still (j : LinkJob) : (s.endRemapped j).still = s.still := by rfl

@[simp] theorem State.endRemapped_base (j : LinkJob) : (s.endRemapped j).base = s.base :=
  State.base_of_still (by simp)

/-! ### The manifold -/

@[simp] theorem State.setSession_still (c : Channel) (x : Session) : (s.setSession c x).still = s.still := by rfl

@[simp] theorem State.setSession_base (c : Channel) (x : Session) : (s.setSession c x).base = s.base :=
  State.base_of_still (by simp)

@[simp] theorem State.putSession_still (c : Channel) (x : SessionState) : (s.putSession c x).still = s.still := by rfl

@[simp] theorem State.putSession_base (c : Channel) (x : SessionState) : (s.putSession c x).base = s.base :=
  State.base_of_still (by simp)

@[simp] theorem State.clearDemand_still (c : Channel) : (s.clearDemand c).still = s.still := by rfl

@[simp] theorem State.clearDemand_base (c : Channel) : (s.clearDemand c).base = s.base :=
  State.base_of_still (by simp)

@[simp] theorem State.enterWant_still (c : Channel) : (s.enterWant c).still = s.still := by rfl

@[simp] theorem State.enterWant_base (c : Channel) : (s.enterWant c).base = s.base :=
  State.base_of_still (by simp)

@[simp] theorem State.strokeTest_still (c : Channel) : (s.strokeTest c).still = s.still := by
  unfold State.strokeTest; dsimp only; repeat' split
  all_goals simp

@[simp] theorem State.strokeTest_base (c : Channel) : (s.strokeTest c).base = s.base :=
  State.base_of_still (by simp)

theorem State.sessionReacts_still {s t : State} (c : Channel) (h : s.sessionReacts c = some t) : t.still = s.still := by
  unfold State.sessionReacts at h; repeat' split at h
  all_goals cases h
  all_goals simp

@[simp] theorem State.setPump_still (p : Pump) : (s.setPump p).still = s.still := by rfl

@[simp] theorem State.setPump_base (p : Pump) : (s.setPump p).base = s.base :=
  State.base_of_still (by simp)

@[simp] theorem State.startStroke_still (c : Channel) : (s.startStroke c).still = s.still := by
  unfold State.startStroke; split <;> simp

@[simp] theorem State.startStroke_base (c : Channel) : (s.startStroke c).base = s.base :=
  State.base_of_still (by simp)

@[simp] theorem State.fillFound_still (c : Channel) : (s.fillFound c).still = s.still := by simp [State.fillFound]

@[simp] theorem State.fillFound_base (c : Channel) : (s.fillFound c).base = s.base :=
  State.base_of_still (by simp)

@[simp] theorem State.serveCandidate_still (c : Channel) : (s.serveCandidate c).still = s.still := by
  unfold State.serveCandidate; repeat' split
  all_goals simp

@[simp] theorem State.serveCandidate_base (c : Channel) : (s.serveCandidate c).base = s.base :=
  State.base_of_still (by simp)

@[simp] theorem State.startSuction_still (q : SuctionReq) : (s.startSuction q).still = s.still := by rfl

@[simp] theorem State.startSuction_base (q : SuctionReq) : (s.startSuction q).base = s.base := by rfl

theorem State.pumpArbiter_still {s t : State} (h : s.pumpArbiter = some t) : t.still = s.still := by
  unfold State.pumpArbiter at h; repeat' split at h
  all_goals first
    | (cases h; done)
    | (cases h; simp)
    | (simp only [Option.map_eq_some_iff] at h; obtain ⟨x, -, rfl⟩ := h; simp)

@[simp] theorem State.requestSuction_still (h : Head) (level : Nat) : (s.requestSuction h level).still = s.still :=
  by simp [State.requestSuction]

@[simp] theorem State.requestSuction_base (h : Head) (level : Nat) : (s.requestSuction h level).base = s.base :=
  State.base_of_still (by simp)

@[simp] theorem State.afterStroke_still (c : Channel) (tripped : Bool) : (s.afterStroke c tripped).still = s.still := by
  unfold State.afterStroke; dsimp only; repeat' split
  all_goals simp

@[simp] theorem State.afterStroke_base (c : Channel) (tripped : Bool) : (s.afterStroke c tripped).base = s.base :=
  State.base_of_still (by simp)

@[simp] theorem State.completeStroke_base (r : StrokeRun) (tripped : Bool) :
    (s.completeStroke r tripped).base = s.base := by
  unfold State.completeStroke; dsimp only; split <;> simp

/-! ### The emptying of the link job queue -/

@[simp] theorem State.askAgain_still (c : Channel) : (s.askAgain c).still = s.still := by
  unfold State.askAgain
  split
  · cases h : s.sessionReacts c with
    | none => simp
    | some t => exact State.sessionReacts_still c h
  · rfl

@[simp] theorem State.askAgain_base (c : Channel) : (s.askAgain c).base = s.base :=
  State.base_of_still (by simp)

@[simp] theorem State.drainLink_still : s.drainLink.still = s.still := by simp [State.drainLink]

@[simp] theorem State.drainLink_base : s.drainLink.base = s.base :=
  State.base_of_still (by simp)

@[simp] theorem State.afterTransaction_still : s.afterTransaction.still = s.still := by simp [State.afterTransaction]

@[simp] theorem State.afterTransaction_base : s.afterTransaction.base = s.base :=
  State.base_of_still (by simp)

theorem State.linkAnswers_base {s t : State} (d : LinkDelivery) (h : s.linkAnswers d = some t) : t.base = s.base := by
  unfold State.linkAnswers at h; dsimp only at h; repeat' split at h
  all_goals first | (cases h; done) | (cases h; simp)

@[simp] theorem State.busyTimesOut_base (j : LinkJob) (r : LinkRun) : (s.busyTimesOut j r).base = s.base := by
  unfold State.busyTimesOut; repeat' split
  all_goals simp

theorem State.waitTimesOut_base {s t : State} (h : s.waitTimesOut = some t) : t.base = s.base := by
  unfold State.waitTimesOut at h; repeat' split at h
  all_goals cases h
  all_goals simp

theorem State.answerTimesOut_base {s t : State} (h : s.answerTimesOut = some t) : t.base = s.base := by
  unfold State.answerTimesOut at h; repeat' split at h
  all_goals cases h
  all_goals simp

@[simp] theorem State.startJob_still (j : LinkJob) : (s.startJob j).still = s.still := by
  unfold State.startJob; repeat' split
  all_goals simp

@[simp] theorem State.startJob_base (j : LinkJob) : (s.startJob j).base = s.base :=
  State.base_of_still (by simp)

theorem State.startLink_still {s t : State} (h : s.startLink = some t) : t.still = s.still := by
  unfold State.startLink at h
  split at h
  · cases h
  · split at h
    · rw [← Option.some.inj h, State.drainLink_still]
    · split at h
      · cases h
      · simp only [Option.map_eq_some_iff] at h
        obtain ⟨j, -, rfl⟩ := h
        simp

@[simp] theorem State.resetLink_still : s.resetLink.still = s.still := by
  unfold State.resetLink; split <;> simp

@[simp] theorem State.resetLink_base : s.resetLink.base = s.base :=
  State.base_of_still (by simp)

/-! ### The service scheduler -/

@[simp] theorem State.setQueue_still (q : List Item) : (s.setQueue q).still = s.still := by rfl

@[simp] theorem State.setQueue_base (q : List Item) : (s.setQueue q).base = s.base :=
  State.base_of_still (by simp)

@[simp] theorem State.request_still (w : Work) : (s.request w).still = s.still := by
  unfold State.request; dsimp only; repeat' split
  all_goals simp

@[simp] theorem State.request_base (w : Work) : (s.request w).base = s.base :=
  State.base_of_still (by simp)

@[simp] theorem State.requestSpit_still (h : Head) : (s.requestSpit h).still = s.still := by simp [State.requestSpit]

@[simp] theorem State.requestSpit_base (h : Head) : (s.requestSpit h).base = s.base :=
  State.base_of_still (by simp)

@[simp] theorem State.requestClean_still (h : Head) (level : Nat) (o : CleanOrigin) (u : Urgency) (attempt : Nat) :
    (s.requestClean h level o u attempt).still = s.still := by
  unfold State.requestClean; split <;> simp

@[simp] theorem State.requestClean_base (h : Head) (level : Nat) (o : CleanOrigin) (u : Urgency) (attempt : Nat) :
    (s.requestClean h level o u attempt).base = s.base :=
  State.base_of_still (by simp)

@[simp] theorem State.requestCheck_still (m : Three Bool) : (s.requestCheck m).still = s.still :=
  by simp [State.requestCheck]

@[simp] theorem State.requestCheck_base (m : Three Bool) : (s.requestCheck m).base = s.base :=
  State.base_of_still (by simp)

@[simp] theorem State.dropFromSpit_still (h : Head) : (s.dropFromSpit h).still = s.still := by rfl

@[simp] theorem State.dropFromSpit_base (h : Head) : (s.dropFromSpit h).base = s.base :=
  State.base_of_still (by simp)

@[simp] theorem State.failHead_still (h : Head) : (s.failHead h).still = s.still := by simp [State.failHead]

@[simp] theorem State.failHead_base (h : Head) : (s.failHead h).base = s.base :=
  State.base_of_still (by simp)

@[simp] theorem State.unfailHead_still (h : Head) : (s.unfailHead h).still = s.still := by rfl

@[simp] theorem State.unfailHead_base (h : Head) : (s.unfailHead h).base = s.base :=
  State.base_of_still (by simp)

@[simp] theorem State.returnItem_still (i : Item) : (s.returnItem i).still = s.still := by
  unfold State.returnItem; repeat' split
  all_goals simp

@[simp] theorem State.returnItem_base (i : Item) : (s.returnItem i).base = s.base :=
  State.base_of_still (by simp)

@[simp] theorem State.giveBack_still : s.giveBack.still = s.still := by
  unfold State.giveBack; split <;> simp

@[simp] theorem State.giveBack_base : s.giveBack.base = s.base :=
  State.base_of_still (by simp)

@[simp] theorem State.clearCapDue_still : s.clearCapDue.still = s.still := by rfl

@[simp] theorem State.clearCapDue_base : s.clearCapDue.base = s.base := by rfl

@[simp] theorem State.startItem_still (i : Item) : (s.startItem i).still = s.still := by rfl

@[simp] theorem State.startItem_base (i : Item) : (s.startItem i).base = s.base :=
  State.base_of_still (by simp)

@[simp] theorem State.passOver_still (i : Item) : (s.passOver i).still = s.still := by simp [State.passOver]

@[simp] theorem State.passOver_base (i : Item) : (s.passOver i).base = s.base :=
  State.base_of_still (by simp)

@[simp] theorem tryItems_still (l : List Item) : (tryItems l s).still = s.still := by
  induction l generalizing s with
  | nil => rfl
  | cons i l ih => unfold tryItems; repeat' split
                   all_goals simp [ih]

theorem State.serviceArbiter_still {s t : State} (h : s.serviceArbiter = some t) : t.still = s.still := by
  unfold State.serviceArbiter at h; dsimp only at h; repeat' split at h
  all_goals first | (cases h; done) | (cases h; simp)

@[simp] theorem State.countDone_still : s.countDone.still = s.still := by
  unfold State.countDone; repeat' split
  all_goals simp

@[simp] theorem State.countDone_base : s.countDone.base = s.base :=
  State.base_of_still (by simp)

/-! ### The nozzle tables -/

@[simp] theorem State.putNozzles_base (new : Six NozzleRec) : (s.putNozzles new).base = s.base :=
  by simp [State.putNozzles]

@[simp] theorem State.healthRequest_still (c : Channel) : (s.healthRequest c).still = s.still := by
  unfold State.healthRequest; split <;> simp

@[simp] theorem State.healthRequest_base (c : Channel) : (s.healthRequest c).base = s.base :=
  State.base_of_still (by simp)

@[simp] theorem State.applyCheck_base (reports : List CheckReport) : (s.applyCheck reports).base = s.base := by
  unfold State.applyCheck; dsimp only; repeat' split
  all_goals simp

/-! ### The station -/

@[simp] theorem State.resetExposure_still (h : Head) : (s.resetExposure h).still = s.still := by rfl

@[simp] theorem State.resetExposure_base (h : Head) : (s.resetExposure h).base = s.base :=
  State.base_of_still (by simp)

@[simp] theorem State.resetExposures_still (m : Three Bool) : (s.resetExposures m).still = s.still :=
  by simp [State.resetExposures]

@[simp] theorem State.resetExposures_base (m : Three Bool) : (s.resetExposures m).base = s.base :=
  State.base_of_still (by simp)

theorem State.thresholds_still {s t : State} (h : s.thresholds = some t) : t.still = s.still := by
  unfold State.thresholds at h; repeat' split at h
  all_goals cases h
  all_goals simp

@[simp] theorem State.placeOrder_still (k : OrderKind) (m : Three Bool) (drops : Nat) (o : OrderOrigin) :
    (s.placeOrder k m drops o).still = s.still := by simp [State.placeOrder]

@[simp] theorem State.placeOrder_base (k : OrderKind) (m : Three Bool) (drops : Nat) (o : OrderOrigin) :
    (s.placeOrder k m drops o).base = s.base :=
  State.base_of_still (by simp)

@[simp] theorem State.placePark_still (o : OrderOrigin) : (s.placePark o).still = s.still := by simp [State.placePark]

@[simp] theorem State.placePark_base (o : OrderOrigin) : (s.placePark o).base = s.base :=
  State.base_of_still (by simp)

@[simp] theorem State.finishOrder_base : s.finishOrder.base = s.base := by rfl

@[simp] theorem State.startMove_still (k : MoveKind) (x : StationState) (ms : Nat) :
    (s.startMove k x ms).still = s.still := by rfl

@[simp] theorem State.startMove_base (k : MoveKind) (x : StationState) (ms : Nat) :
    (s.startMove k x ms).base = s.base :=
  State.base_of_still (by simp)

@[simp] theorem State.startWipe_still : s.startWipe.still = s.still := by rfl

@[simp] theorem State.startWipe_base : s.startWipe.base = s.base :=
  State.base_of_still (by simp)

@[simp] theorem State.enterOpen_still : s.enterOpen.still = s.still := by rfl

@[simp] theorem State.enterOpen_base : s.enterOpen.base = s.base :=
  State.base_of_still (by simp)

@[simp] theorem State.enterCapped_still : s.enterCapped.still = s.still := by simp [State.enterCapped]

@[simp] theorem State.enterCapped_base : s.enterCapped.base = s.base :=
  State.base_of_still (by simp)

@[simp] theorem State.startCap_still : s.startCap.still = s.still := by simp [State.startCap]

@[simp] theorem State.startCap_base : s.startCap.base = s.base :=
  State.base_of_still (by simp)

@[simp] theorem State.startUncap_still : s.startUncap.still = s.still := by simp [State.startUncap]

@[simp] theorem State.startUncap_base : s.startUncap.base = s.base :=
  State.base_of_still (by simp)

@[simp] theorem State.judgeCleaning_still (h : Head) (level : Nat) (o : CleanOrigin) (attempt : Nat) :
    (s.judgeCleaning h level o attempt).still = s.still := by
  unfold State.judgeCleaning; repeat' split
  all_goals simp

@[simp] theorem State.judgeCleaning_base (h : Head) (level : Nat) (o : CleanOrigin) (attempt : Nat) :
    (s.judgeCleaning h level o attempt).base = s.base :=
  State.base_of_still (by simp)

@[simp] theorem State.finishItem_still (i : Item) : (s.finishItem i).still = s.still := by
  unfold State.finishItem; split <;> simp

@[simp] theorem State.finishItem_base (i : Item) : (s.finishItem i).base = s.base :=
  State.base_of_still (by simp)

@[simp] theorem State.endStage_still : s.endStage.still = s.still := by
  unfold State.endStage; repeat' split
  all_goals simp

@[simp] theorem State.endStage_base : s.endStage.base = s.base :=
  State.base_of_still (by simp)

@[simp] theorem State.orphanSuction_still : s.orphanSuction.still = s.still := by
  unfold State.orphanSuction; repeat' split
  all_goals simp

@[simp] theorem State.orphanSuction_base : s.orphanSuction.base = s.base :=
  State.base_of_still (by simp)

@[simp] theorem State.enterFault_base (why : StationCause) : (s.enterFault why).base = s.base :=
  by simp [State.enterFault]

@[simp] theorem State.orderTimesOut_base : s.orderTimesOut.base = s.base := by simp [State.orderTimesOut]

@[simp] theorem State.askSuction_still (h : Head) (level : Nat) : (s.askSuction h level).still = s.still :=
  by simp [State.askSuction]

@[simp] theorem State.askSuction_base (h : Head) (level : Nat) : (s.askSuction h level).base = s.base :=
  State.base_of_still (by simp)

@[simp] theorem State.endSuction_base (r : SuctionRun) : (s.endSuction r).base = s.base := by
  unfold State.endSuction; split <;> simp

theorem State.bringParked_still {s t : State} (h : s.bringParked = some t) : t.still = s.still := by
  unfold State.bringParked at h; split at h
  · cases h; simp
  · cases h

theorem State.bringMove_still {s t : State} (mv : State → State) (hm : ∀ u, (mv u).still = u.still)
    (h : s.bringMove mv = some t) : t.still = s.still := by
  unfold State.bringMove at h
  split at h
  · cases h; exact hm s
  · exact State.bringParked_still h

theorem State.placeStageOrder_still {s t : State} (w : Work) (k : OrderKind) (drops : Nat)
    (h : s.placeStageOrder w k drops = some t) : t.still = s.still := by
  unfold State.placeStageOrder at h
  split at h
  · split at h
    · cases h; simp
    · cases h
  · exact State.bringMove_still _ State.startUncap_still h
  all_goals cases h

theorem State.doStage_still {s t : State} (w : Work) (g : Stage) (h : s.doStage w g = some t) : t.still = s.still := by
  cases g with
  | park =>
    simp only [State.doStage] at h
    split at h
    · cases h; simp
    · exact State.bringParked_still h
  | cap =>
    simp only [State.doStage] at h
    split at h
    · cases h; simp
    · exact State.bringMove_still _ State.startCap_still h
    all_goals cases h
  | uncap =>
    simp only [State.doStage] at h
    split at h
    · cases h; simp
    · exact State.bringMove_still _ State.startUncap_still h
    all_goals cases h
  | wipe =>
    simp only [State.doStage] at h
    split at h
    · exact State.bringMove_still _ State.startWipe_still h
    · exact State.bringMove_still _ State.startUncap_still h
    all_goals cases h
  | suction =>
    simp only [State.doStage] at h
    split at h
    · split at h
      · cases h
      · rw [← Option.some.inj h, State.askSuction_still]
    · exact State.bringMove_still _ State.startCap_still h
    · cases h
  | spit => exact State.placeStageOrder_still _ _ _ h
  | check => exact State.placeStageOrder_still _ _ _ h

theorem State.driveStage_still {s t : State} (h : s.driveStage = some t) : t.still = s.still := by
  unfold State.driveStage at h
  repeat' split at h
  all_goals first
    | exact State.doStage_still _ _ h
    | cases h

theorem State.capDueActs_still {s t : State} (h : s.capDueActs = some t) : t.still = s.still := by
  unfold State.capDueActs at h; repeat' split at h
  all_goals cases h
  all_goals simp

theorem State.uncapForTicket_still {s t : State} (h : s.uncapForTicket = some t) : t.still = s.still := by
  unfold State.uncapForTicket at h; split at h
  · cases h; simp
  · cases h

/-! ### The admission unit -/

@[simp] theorem State.holdCapDelay_still : s.holdCapDelay.still = s.still := by simp [State.holdCapDelay]

@[simp] theorem State.holdCapDelay_base : s.holdCapDelay.base = s.base :=
  State.base_of_still (by simp)

@[simp] theorem State.reserveTicket_still (t : Ticket) : (s.reserveTicket t).still = s.still :=
  by simp [State.reserveTicket]

@[simp] theorem State.reserveTicket_base (t : Ticket) : (s.reserveTicket t).base = s.base :=
  State.base_of_still (by simp)

theorem State.passStep_still {s t : State} (h : s.passStep = some t) : t.still = s.still := by
  unfold State.passStep at h; dsimp only at h; repeat' split at h
  all_goals first | (cases h; done) | (cases h; simp)

theorem State.grantStep_still {s t : State} (h : s.grantStep = some t) : t.still = s.still := by
  unfold State.grantStep at h; repeat' split at h
  all_goals cases h
  all_goals simp

theorem State.withdrawStep_still {s t : State} (h : s.withdrawStep = some t) : t.still = s.still := by
  unfold State.withdrawStep at h; repeat' split at h
  all_goals cases h
  all_goals simp

@[simp] theorem State.setTicketQueue_still (q : List Ticket) : (s.setTicketQueue q).still = s.still := by rfl

@[simp] theorem State.setTicketQueue_base (q : List Ticket) : (s.setTicketQueue q).base = s.base :=
  State.base_of_still (by simp)

@[simp] theorem State.removeTickets_still (leaves : Ticket → Bool) : (s.removeTickets leaves).still = s.still := by
  unfold State.removeTickets; dsimp only; repeat' split
  all_goals simp

@[simp] theorem State.removeTickets_base (leaves : Ticket → Bool) : (s.removeTickets leaves).base = s.base :=
  State.base_of_still (by simp)

@[simp] theorem State.removeSheetTickets_still (id : Nat) : (s.removeSheetTickets id).still = s.still :=
  by simp [State.removeSheetTickets]

@[simp] theorem State.removeSheetTickets_base (id : Nat) : (s.removeSheetTickets id).base = s.base :=
  State.base_of_still (by simp)

@[simp] theorem State.dropFiring_base (n : Nat) : (s.dropFiring n).base = s.base := by rfl

@[simp] theorem State.settleTicket_base (t : Ticket) (pairs : List (Nat × Nat)) :
    (s.settleTicket t pairs).base = s.base := by simp [State.settleTicket]

@[simp] theorem State.loseTicket_base (t : Ticket) : (s.loseTicket t).base = s.base := by simp [State.loseTicket]

@[simp] theorem State.appendTicket_base (sheet index advance : Nat) (predicted : Six Nat) :
    (s.appendTicket sheet index advance predicted).base = s.base := by rfl

/-! ### The sheet queue -/

@[simp] theorem State.examineSheet_still (h : Sheet) : (s.examineSheet h).still = s.still := by
  unfold State.examineSheet; repeat' split
  all_goals simp

@[simp] theorem State.examineSheet_base (h : Sheet) : (s.examineSheet h).base = s.base :=
  State.base_of_still (by simp)

theorem State.examine_still {s t : State} (h : s.examine = some t) : t.still = s.still := by
  unfold State.examine at h; dsimp only at h; repeat' split at h
  all_goals first | (cases h; done) | (cases h; first | rfl | simp)

@[simp] theorem State.chooseAgain_still (h : Sheet) : (s.chooseAgain h).still = s.still := by
  unfold State.chooseAgain; repeat' split
  all_goals simp

@[simp] theorem State.chooseAgain_base (h : Sheet) : (s.chooseAgain h).base = s.base :=
  State.base_of_still (by simp)

@[simp] theorem State.removeSheet_still (id : Nat) (o : SheetOutcome) : (s.removeSheet id o).still = s.still := by
  unfold State.removeSheet; split <;> simp

@[simp] theorem State.removeSheet_base (id : Nat) (o : SheetOutcome) : (s.removeSheet id o).base = s.base :=
  State.base_of_still (by simp)

@[simp] theorem State.cancelSheet_still (id : Nat) (o : SheetOutcome) : (s.cancelSheet id o).still = s.still := by
  unfold State.cancelSheet; dsimp only; repeat' split
  all_goals simp

@[simp] theorem State.cancelSheet_base (id : Nat) (o : SheetOutcome) : (s.cancelSheet id o).base = s.base :=
  State.base_of_still (by simp)

@[simp] theorem State.cancelIf_still (id : Nat) (o : SheetOutcome) : (s.cancelIf id o).still = s.still := by
  unfold State.cancelIf; repeat' split
  all_goals simp

@[simp] theorem State.cancelIf_base (id : Nat) (o : SheetOutcome) : (s.cancelIf id o).base = s.base :=
  State.base_of_still (by simp)

@[simp] theorem State.cancelActive_still (o : SheetOutcome) : (s.cancelActive o).still = s.still := by
  unfold State.cancelActive; split <;> simp

@[simp] theorem State.cancelActive_base (o : SheetOutcome) : (s.cancelActive o).base = s.base :=
  State.base_of_still (by simp)

@[simp] theorem State.paperEndOn_still (r : Roll) : (s.paperEndOn r).still = s.still := by
  unfold State.paperEndOn; repeat' split
  all_goals simp

@[simp] theorem State.paperEndOn_base (r : Roll) : (s.paperEndOn r).base = s.base :=
  State.base_of_still (by simp)

@[simp] theorem State.startDrying_still (h : Sheet) : (s.startDrying h).still = s.still := by rfl

@[simp] theorem State.startDrying_base (h : Sheet) : (s.startDrying h).base = s.base :=
  State.base_of_still (by simp)

@[simp] theorem State.dryEnds_still (h : Sheet) : (s.dryEnds h).still = s.still := by
  unfold State.dryEnds; split <;> simp

@[simp] theorem State.dryEnds_base (h : Sheet) : (s.dryEnds h).base = s.base :=
  State.base_of_still (by simp)

theorem State.sheetStep_still {s t : State} (h : s.sheetStep = some t) : t.still = s.still := by
  unfold State.sheetStep at h
  split at h
  · cases h; simp
  · split at h
    · cases h; simp
    · simp only [Option.map_eq_some_iff] at h
      obtain ⟨x, -, rfl⟩ := h
      simp

@[simp] theorem State.appendSheet_base (pref : RollPref) (media width planned top bottom dry : Nat) (mode : CutMode) :
    (s.appendSheet pref media width planned top bottom dry mode).base = s.base := by rfl

/-! ### The feed unit -/

@[simp] theorem State.setRoll_still (r : Roll) (x : RollRec) : (s.setRoll r x).still = s.still := by rfl

@[simp] theorem State.setRoll_base (r : Roll) (x : RollRec) : (s.setRoll r x).base = s.base :=
  State.base_of_still (by simp)

@[simp] theorem State.modPathRoll_still (f : RollRec → RollRec) : (s.modPathRoll f).still = s.still := by
  unfold State.modPathRoll; split <;> simp

@[simp] theorem State.modPathRoll_base (f : RollRec → RollRec) : (s.modPathRoll f).base = s.base :=
  State.base_of_still (by simp)

@[simp] theorem State.endOp_still (p : PathState) : (s.endOp p).still = s.still := by rfl

@[simp] theorem State.endOp_base (p : PathState) : (s.endOp p).base = s.base :=
  State.base_of_still (by simp)

@[simp] theorem State.pathFaults_still (why : FeedCause) (e : Event) : (s.pathFaults why e).still = s.still :=
  by simp [State.pathFaults]

@[simp] theorem State.pathFaults_base (why : FeedCause) (e : Event) : (s.pathFaults why e).base = s.base :=
  State.base_of_still (by simp)

@[simp] theorem State.stoppedPaperEnd_still (purpose : Purpose) (sheet : Nat) :
    (s.stoppedPaperEnd purpose sheet).still = s.still := by
  unfold State.stoppedPaperEnd; split <;> simp

@[simp] theorem State.stoppedPaperEnd_base (purpose : Purpose) (sheet : Nat) :
    (s.stoppedPaperEnd purpose sheet).base = s.base :=
  State.base_of_still (by simp)

@[simp] theorem State.feedFaulted_still (o : FeedOp) : (s.feedFaulted o).still = s.still := by
  unfold State.feedFaulted; repeat' split
  all_goals simp

@[simp] theorem State.feedFaulted_base (o : FeedOp) : (s.feedFaulted o).base = s.base :=
  State.base_of_still (by simp)

@[simp] theorem State.advanceDone_still (o : FeedOp) : (s.advanceDone o).still = s.still := by
  unfold State.advanceDone; repeat' split
  all_goals simp

@[simp] theorem State.advanceDone_base (o : FeedOp) : (s.advanceDone o).base = s.base :=
  State.base_of_still (by simp)

@[simp] theorem State.completeAdvance_still (o : FeedOp) : (s.completeAdvance o).still = s.still :=
  by simp [State.completeAdvance]

@[simp] theorem State.completeAdvance_base (o : FeedOp) : (s.completeAdvance o).base = s.base :=
  State.base_of_still (by simp)

@[simp] theorem State.stopAdvance_still (o : FeedOp) (r : Roll) : (s.stopAdvance o r).still = s.still :=
  by simp [State.stopAdvance]

@[simp] theorem State.stopAdvance_base (o : FeedOp) (r : Roll) : (s.stopAdvance o r).base = s.base :=
  State.base_of_still (by simp)

@[simp] theorem State.faultAdvance_still (o : FeedOp) (why : FeedCause) : (s.faultAdvance o why).still = s.still :=
  by simp [State.faultAdvance]

@[simp] theorem State.faultAdvance_base (o : FeedOp) (why : FeedCause) : (s.faultAdvance o why).base = s.base :=
  State.base_of_still (by simp)

@[simp] theorem State.completeSwap_still (o : FeedOp) (r : Roll) : (s.completeSwap o r).still = s.still :=
  by simp [State.completeSwap]

@[simp] theorem State.completeSwap_base (o : FeedOp) (r : Roll) : (s.completeSwap o r).base = s.base :=
  State.base_of_still (by simp)

@[simp] theorem State.faultSwap_still (o : FeedOp) (why : FeedCause) : (s.faultSwap o why).still = s.still :=
  by simp [State.faultSwap]

@[simp] theorem State.faultSwap_base (o : FeedOp) (why : FeedCause) : (s.faultSwap o why).base = s.base :=
  State.base_of_still (by simp)

@[simp] theorem State.proceedSwap_still (o : FeedOp) : (s.proceedSwap o).still = s.still := by
  unfold State.proceedSwap; repeat' split
  all_goals simp

@[simp] theorem State.proceedSwap_base (o : FeedOp) : (s.proceedSwap o).base = s.base :=
  State.base_of_still (by simp)

@[simp] theorem State.completeCut_still (o : FeedOp) : (s.completeCut o).still = s.still :=
  by simp [State.completeCut]

@[simp] theorem State.completeCut_base (o : FeedOp) : (s.completeCut o).base = s.base :=
  State.base_of_still (by simp)

@[simp] theorem State.startOp_still (p : PathState) (o : FeedOp) : (s.startOp p o).still = s.still := by rfl

@[simp] theorem State.startOp_base (p : PathState) (o : FeedOp) : (s.startOp p o).base = s.base :=
  State.base_of_still (by simp)

@[simp] theorem State.requestAdvance_still (purpose : Purpose) (d sheet ticket : Nat) :
    (s.requestAdvance purpose d sheet ticket).still = s.still := by
  unfold State.requestAdvance; split <;> simp

@[simp] theorem State.requestAdvance_base (purpose : Purpose) (d sheet ticket : Nat) :
    (s.requestAdvance purpose d sheet ticket).base = s.base :=
  State.base_of_still (by simp)

@[simp] theorem State.startSwap_still (r : Roll) (sheet : Nat) : (s.startSwap r sheet).still = s.still :=
  by simp [State.startSwap]

@[simp] theorem State.startSwap_base (r : Roll) (sheet : Nat) : (s.startSwap r sheet).base = s.base :=
  State.base_of_still (by simp)

@[simp] theorem State.requestSwap_still (h : Sheet) (r : Roll) : (s.requestSwap h r).still = s.still := by
  unfold State.requestSwap; repeat' split
  all_goals simp

@[simp] theorem State.requestSwap_base (h : Sheet) (r : Roll) : (s.requestSwap h r).base = s.base :=
  State.base_of_still (by simp)

@[simp] theorem State.requestCut_still (h : Sheet) : (s.requestCut h).still = s.still := by
  unfold State.requestCut; split <;> simp

@[simp] theorem State.requestCut_base (h : Sheet) : (s.requestCut h).base = s.base :=
  State.base_of_still (by simp)

theorem State.askLoading_still {s t : State} (h : Sheet) (h : s.askLoading h = some t) : t.still = s.still := by
  unfold State.askLoading at h; repeat' split at h
  all_goals cases h
  all_goals simp

theorem State.askCutting_still {s t : State} (h : Sheet) (h : s.askCutting h = some t) : t.still = s.still := by
  unfold State.askCutting at h; repeat' split at h
  all_goals cases h
  all_goals simp

theorem State.rollsChanged_still {s t : State} (h : s.rollsChanged = some t) : t.still = s.still := by
  unfold State.rollsChanged at h; dsimp only at h; repeat' split at h
  all_goals first | (cases h; done) | (cases h; simp)

theorem State.sheetAsks_still {s t : State} (h : s.sheetAsks = some t) : t.still = s.still := by
  unfold State.sheetAsks at h
  repeat' split at h
  all_goals first
    | (rename_i _ hc; cases h; exact State.askCutting_still _ hc)
    | exact State.askLoading_still _ h
    | cases h

theorem State.advanceStep_still {s t : State} (h : s.advanceStep = some t) : t.still = s.still := by
  unfold State.advanceStep at h; repeat' split at h
  all_goals cases h
  all_goals simp

theorem State.paperEnds_still {s t : State} (h : s.paperEnds = some t) : t.still = s.still := by
  unfold State.paperEnds at h; repeat' split at h
  all_goals first
    | (cases h; done)
    | (cases h; simp)
    | (simp only [Option.map_eq_some_iff] at h; obtain ⟨x, -, rfl⟩ := h; simp)

theorem State.threadChanges_still {s t : State} (present : Bool)
    (h : s.threadChanges present = some t) : t.still = s.still := by
  unfold State.threadChanges at h; repeat' split at h
  all_goals first
    | (cases h; done)
    | (cases h; simp)
    | (simp only [Option.map_eq_some_iff] at h; obtain ⟨x, -, rfl⟩ := h; simp)

@[simp] theorem State.rollLeaves_still (r : Roll) : (s.rollLeaves r).still = s.still := by
  unfold State.rollLeaves; dsimp only; repeat' split
  all_goals simp

@[simp] theorem State.rollLeaves_base (r : Roll) : (s.rollLeaves r).base = s.base :=
  State.base_of_still (by simp)

@[simp] theorem State.rollArrives_still (r : Roll) : (s.rollArrives r).still = s.still := by
  simp [State.rollArrives, State.setRoll]

@[simp] theorem State.rollArrives_base (r : Roll) : (s.rollArrives r).base = s.base :=
  State.base_of_still (by simp)

theorem State.cutterReports_still {s t : State} (home : Bool)
    (h : s.cutterReports home = some t) : t.still = s.still := by
  unfold State.cutterReports at h; repeat' split at h
  all_goals cases h
  all_goals simp

end Sys2Proof.Machine
end

