-- ==== Sys2Proof/Laws/Settle.lean ====
section
/-!
SUPPORT. What following the reactions leaves unchanged: the frame of every reaction, of `follow` and of `settle`.
-/

namespace Sys2Proof.Machine

variable (s : State)

theorem State.sessionStep_still {s t : State} (h : s.sessionStep = some t) : t.still = s.still := by
  unfold State.sessionStep at h
  obtain ⟨c, -, hc⟩ := List.exists_of_findSome?_eq_some h
  exact State.sessionReacts_still c hc

/-- Everything that the decision after a completed stroke can do (R14, R16): a selection of the service arbiter that is due
comes first; with none due the session is decided. -/
theorem State.strokeStep_cases {s t : State} (h : s.strokeStep = some t) : ∃ e, s.due.stroke = some e ∧
    (s.serviceArbiter = some t ∨ s.due.arbiter = false ∧
      t = (s.setDue { s.due with stroke := none }).afterStroke e.channel e.tripped) := by
  simp only [State.strokeStep, Option.map_eq_some_iff] at h
  obtain ⟨e, he, rfl⟩ := h
  refine ⟨e, he, ?_⟩
  unfold State.serviceArbiter
  cases h : s.due.arbiter <;> simp [h]

theorem State.strokeStep_still {s t : State} (h : s.strokeStep = some t) : t.still = s.still := by
  obtain ⟨e, -, ha | ⟨-, rfl⟩⟩ := State.strokeStep_cases h
  · exact State.serviceArbiter_still ha
  · rw [State.afterStroke_still]; rfl

/-- Each reaction keeps the view. -/
theorem reactions_still (f : State → Option State) (hf : f ∈ reactions) {s t : State} (h : f s = some t) :
    t.still = s.still := by
  simp only [reactions, List.mem_cons, List.not_mem_nil, or_false] at hf
  rcases hf with rfl | rfl | rfl | rfl | rfl | rfl | rfl | rfl | rfl | rfl | rfl | rfl | rfl | rfl | rfl | rfl | rfl
  · exact State.thresholds_still h
  · exact State.withdrawStep_still h
  · exact State.passStep_still h
  · exact State.sheetStep_still h
  · exact State.examine_still h
  · exact State.rollsChanged_still h
  · exact State.sheetAsks_still h
  · exact State.advanceStep_still h
  · exact State.sessionStep_still h
  · exact State.strokeStep_still h
  · exact State.pumpArbiter_still h
  · exact State.serviceArbiter_still h
  · exact State.driveStage_still h
  · exact State.capDueActs_still h
  · exact State.uncapForTicket_still h
  · exact State.grantStep_still h
  · exact State.startLink_still h

theorem State.react_still {s t : State} (h : s.react = some t) : t.still = s.still := by
  obtain ⟨f, hf, hs⟩ := List.exists_of_findSome?_eq_some h
  exact reactions_still f hf hs

@[simp] theorem follow_still (n : Nat) : (follow n s).still = s.still := by
  induction n generalizing s with
  | zero => rfl
  | succ n ih =>
    unfold follow
    split
    · rfl
    · next t h => rw [ih, State.react_still h]

@[simp] theorem State.loadIdleSleep_still : s.loadIdleSleep.still = s.still := by rfl

/-- What a settled command changes beyond its own effect lies outside the view. -/
@[simp] theorem State.settle_still : s.settle.still = s.still := by
  unfold State.settle
  simp

@[simp] theorem State.settle_base : s.settle.base = s.base := State.base_of_still (by simp)

/-! ### The view, field by field -/

@[simp] theorem State.settle_pending : s.settle.pending = s.pending := congrArg Base.pending s.settle_base
@[simp] theorem State.settle_pins : s.settle.pins = s.pins := congrArg Base.pins s.settle_base
@[simp] theorem State.settle_mode : s.settle.mode.mode = s.mode.mode := congrArg Base.mode s.settle_base
@[simp] theorem State.settle_cause : s.settle.mode.cause = s.mode.cause := congrArg Base.cause s.settle_base
@[simp] theorem State.settle_params : s.settle.mode.params = s.mode.params := congrArg Base.params s.settle_base
@[simp] theorem State.settle_lock : s.settle.mode.lock = s.mode.lock := congrArg Base.lock s.settle_base
@[simp] theorem State.settle_reply (p : Port) : (s.settle.ports.get p).reply = (s.ports.get p).reply :=
  congrFun (congrArg Base.reply s.settle_base) p
@[simp] theorem State.settle_mask (p : Port) : (s.settle.ports.get p).mask = (s.ports.get p).mask :=
  congrFun (congrArg Base.mask s.settle_base) p
@[simp] theorem State.settle_cursor (p : Port) : (s.settle.ports.get p).cursor = (s.ports.get p).cursor :=
  congrFun (congrArg Base.cursor s.settle_base) p
@[simp] theorem State.settle_out (p : Port) : (s.settle.ports.get p).out = (s.ports.get p).out :=
  congrFun (congrArg Base.out s.settle_base) p
@[simp] theorem State.settle_outBits (p : Port) : (s.settle.ports.get p).outBits = (s.ports.get p).outBits :=
  congrFun (congrArg Base.outBits s.settle_base) p
@[simp] theorem State.settle_dv (c : Channel) : (s.settle.ledger.chan.get c).dv = (s.ledger.chan.get c).dv :=
  congrFun (congrArg Base.dv s.settle_base) c
@[simp] theorem State.settle_chips : s.settle.chips = s.chips := congrArg Still.chips s.settle_still
@[simp] theorem State.settle_carry (c : Channel) : (s.settle.ledger.chan.get c).carry = (s.ledger.chan.get c).carry :=
  congrFun (congrArg Still.carry s.settle_still) c
@[simp] theorem State.settle_wa : s.settle.ledger.wa = s.ledger.wa := congrArg Still.wa s.settle_still
@[simp] theorem State.settle_map : s.settle.supply.map = s.supply.map := congrArg Still.map s.settle_still
@[simp] theorem State.settle_slot : s.settle.supply.slot = s.supply.slot := congrArg Still.slot s.settle_still
@[simp] theorem State.settle_waste : s.settle.supply.waste = s.supply.waste := congrArg Still.waste s.settle_still
@[simp] theorem State.settle_nextNumber : s.settle.tickets.nextNumber = s.tickets.nextNumber :=
  congrArg Still.nextNumber s.settle_still
@[simp] theorem State.settle_swathLeft : s.settle.tickets.swathLeft = s.tickets.swathLeft :=
  congrArg Still.swathLeft s.settle_still
@[simp] theorem State.settle_nextId : s.settle.sheets.nextId = s.sheets.nextId := congrArg Still.nextId s.settle_still
@[simp] theorem State.settle_park : s.settle.station.park = s.station.park := congrArg Still.park s.settle_still
@[simp] theorem State.settle_failures : s.settle.station.failures = s.station.failures :=
  congrArg Still.failures s.settle_still
@[simp] theorem State.settle_stationCause : s.settle.station.cause = s.station.cause :=
  congrArg Still.cause s.settle_still
@[simp] theorem State.settle_nozzles : s.settle.nozzles = s.nozzles := congrArg Still.nozzles s.settle_still

end Sys2Proof.Machine
end

