-- ==== Sys2Proof/Laws/Ports.lean ====
section
/-!
SUPPORT. Ports: what an update of one port leaves alone, what a taken command answers, and when the wake does nothing.
-/

namespace Sys2Proof.Machine

variable (s t : State) (p : Port)

/-! ### One port's update -/

@[simp] theorem State.modPort_pending (f : PortRec → PortRec) : (s.modPort p f).pending = s.pending := by rfl
@[simp] theorem State.modPort_pins (f : PortRec → PortRec) : (s.modPort p f).pins = s.pins := by rfl
@[simp] theorem State.modPort_chips (f : PortRec → PortRec) : (s.modPort p f).chips = s.chips := by rfl
@[simp] theorem State.modPort_mode (f : PortRec → PortRec) : (s.modPort p f).mode = s.mode := by rfl
@[simp] theorem State.modPort_ledger (f : PortRec → PortRec) : (s.modPort p f).ledger = s.ledger := by rfl
@[simp] theorem State.modPort_manifold (f : PortRec → PortRec) : (s.modPort p f).manifold = s.manifold := by rfl
@[simp] theorem State.modPort_supply (f : PortRec → PortRec) : (s.modPort p f).supply = s.supply := by rfl
@[simp] theorem State.modPort_tickets (f : PortRec → PortRec) : (s.modPort p f).tickets = s.tickets := by rfl
@[simp] theorem State.modPort_feed (f : PortRec → PortRec) : (s.modPort p f).feed = s.feed := by rfl
@[simp] theorem State.modPort_sheets (f : PortRec → PortRec) : (s.modPort p f).sheets = s.sheets := by rfl
@[simp] theorem State.modPort_station (f : PortRec → PortRec) : (s.modPort p f).station = s.station := by rfl
@[simp] theorem State.modPort_service (f : PortRec → PortRec) : (s.modPort p f).service = s.service := by rfl
@[simp] theorem State.modPort_nozzles (f : PortRec → PortRec) : (s.modPort p f).nozzles = s.nozzles := by rfl
@[simp] theorem State.modPort_due (f : PortRec → PortRec) : (s.modPort p f).due = s.due := by rfl

@[simp] theorem State.modPort_get_same (f : PortRec → PortRec) : (s.modPort p f).ports.get p = f (s.ports.get p) := by
  simp [State.modPort]

@[simp] theorem State.modPort_get_other (f : PortRec → PortRec) (q : Port) (h : q ≠ p) :
    (s.modPort p f).ports.get q = s.ports.get q := by
  simp [State.modPort, h]

theorem State.modPort_frame (f : PortRec → PortRec) : Frame [.ports] s (s.modPort p f) := by
  intro b hb
  cases b <;> first | exact absurd (List.mem_singleton.mpr rfl) hb | rfl

theorem State.modPort_others (f : PortRec → PortRec) : OtherPorts p s (s.modPort p f) := by
  intro q hq
  simp [hq]

/-! ### Replies -/

@[simp] theorem State.replied_reply (s : State) (cmd : Nat) (code : ReplyCode) (v n : Nat) :
    ((t.replied s p cmd code v n).ports.get p).reply =
      { seq := nextByte (s.ports.get p).reply.seq, command := cmd, outcome := code, value := v } := by
  simp [State.replied, PortRec.answered, Reply.next]

@[simp] theorem State.replied_events (s : State) (cmd : Nat) (code : ReplyCode) (v n : Nat) :
    ((t.replied s p cmd code v n).ports.get p).events = (t.ports.get p).events := by
  simp [State.replied, PortRec.answered]

@[simp] theorem State.replied_mask (s : State) (cmd : Nat) (code : ReplyCode) (v n : Nat) :
    ((t.replied s p cmd code v n).ports.get p).mask = (t.ports.get p).mask := by
  simp [State.replied, PortRec.answered]

@[simp] theorem State.replied_cursor (s : State) (cmd : Nat) (code : ReplyCode) (v n : Nat) :
    ((t.replied s p cmd code v n).ports.get p).cursor = (t.ports.get p).cursor := by
  simp [State.replied, PortRec.answered]

/-! ### The wake -/

theorem State.wake_of_not_asleep (h : s.inSleep = false) : s.wake = s := by
  simp [State.wake, h]

@[simp] theorem State.modPort_inSleep (f : PortRec → PortRec) : (s.modPort p f).inSleep = s.inSleep := by rfl

/-! ### A taken command -/

/-- Where a write command is taken its owning rule decides, and the reply is written. -/
theorem State.takeWrite_takes {cmd : Command} (h : s.Takes p cmd) (n : Nat) (d : State → Answer) :
    s.takeWrite p cmd n d = (d s).after.replied s p cmd.code (d s).code (d s).value n := by
  obtain ⟨h1, h2, h3⟩ := h
  simp [State.takeWrite, h1, h2, h3]

/-- Where a read command is taken it acts and drives its data. -/
theorem State.takeRead_takes {cmd : Command} (h : s.Takes p cmd) (bits : Nat) (data : List Byte) (act : State → State) :
    s.takeRead p cmd bits data act = (act s).modPort p fun r => r.drove data bits := by
  obtain ⟨h1, h2, h3⟩ := h
  simp [State.takeRead, h1, h2, h3]

/-- A read that is given whole, or that begins, while the hub is awake drives its data after the sequence number and acts. -/
theorem State.takePart_begins {cmd : Command} (h : s.Takes p cmd) (hr : (s.ports.get p).reading = none) (c : Clocks)
    (data : List Byte) (act : PortRec → PortRec) :
    s.takePart p cmd c data act = s.modPort p fun r => act (r.drove data c.bits) := by
  obtain ⟨h1, h2, h3⟩ := h
  simp only [State.takePart, State.readsAsleep, hr, h1, h3, PortRec.drives]
  simp [State.when, State.wake, h3]

/-- A read under way that did not begin in SLEEP goes on after what it has sent. -/
theorem State.takePart_goesOn {cmd : Command} (h : s.Takes p cmd) (x : OpenRead) (hr : (s.ports.get p).reading = some x)
    (hx : x ≠ .asleep) (c : Clocks) (data : List Byte) (act : PortRec → PortRec) :
    s.takePart p cmd c data act =
      s.modPort p fun r => act { r with out := r.out ++ clockOut c.bits data, outBits := r.outBits + c.bits } := by
  obtain ⟨h1, h2, h3⟩ := h
  simp only [State.takePart, State.readsAsleep, hr, h1, PortRec.drives]
  simp [State.when, State.wake, h3, hx]

end Sys2Proof.Machine
end

