-- ==== Sys2Proof/Laws/Blocks.lean ====
section
/-!
SUPPORT. Which blocks an operation leaves alone: one `_frame` lemma per shared operation, and how frames compose. Later
proofs cite these and do not unfold the operations.
-/

namespace Sys2Proof.Machine

/-! ### Composition -/

theorem Frame.refl (bs : List Block) (s : State) : Frame bs s s := by
  intro b _; cases b <;> rfl

theorem Block.same_trans {b : Block} {s t u : State} (h : b.same s t) (k : b.same t u) : b.same s u := by
  cases b <;> exact Eq.trans k h

theorem Frame.trans {bs : List Block} {s t u : State} (h : Frame bs s t) (k : Frame bs t u) : Frame bs s u :=
  fun b hb => Block.same_trans (h b hb) (k b hb)

theorem Frame.mono {bs cs : List Block} {s t : State} (h : Frame bs s t) (hs : ∀ b, b ∈ bs → b ∈ cs) : Frame cs s t :=
  fun b hb => h b (fun hc => hb (hs b hc))

theorem Frame.when {bs : List Block} (s : State) (c : Bool) {f : State → State} (h : ∀ t, Frame bs t (f t)) :
    Frame bs s (s.when c f) := by
  cases c
  · exact Frame.refl bs s
  · exact h s

theorem Frame.foldl {bs : List Block} {α : Type} (l : List α) (f : State → α → State) (h : ∀ t x, Frame bs t (f t x))
    (s : State) : Frame bs s (l.foldl f s) := by
  induction l generalizing s with
  | nil => exact Frame.refl bs s
  | cons x l ih => exact (h s x).trans (ih (f s x))

/-- Two frames, widened to one list. -/
theorem Frame.join {as bs cs : List Block} {s t u : State} (h : Frame as s t) (k : Frame bs t u)
    (ha : ∀ b, b ∈ as → b ∈ cs) (hb : ∀ b, b ∈ bs → b ∈ cs) : Frame cs s u := (h.mono ha).trans (k.mono hb)

/-! ### The updates -/

theorem State.setPending_frame (s : State) (x : List Instr) : Frame [.pending] s (s.setPending x) := by
  intro b hb; cases b <;> first | exact absurd (List.mem_singleton.mpr rfl) hb | rfl

theorem State.setPins_frame (s : State) (x : Pins) : Frame [.pins] s (s.setPins x) := by
  intro b hb; cases b <;> first | exact absurd (List.mem_singleton.mpr rfl) hb | rfl

theorem State.setChips_frame (s : State) (x : Chips) : Frame [.chips] s (s.setChips x) := by
  intro b hb; cases b <;> first | exact absurd (List.mem_singleton.mpr rfl) hb | rfl

theorem State.setMode_frame (s : State) (x : ModeUnit) : Frame [.mode] s (s.setMode x) := by
  intro b hb; cases b <;> first | exact absurd (List.mem_singleton.mpr rfl) hb | rfl

theorem State.setPorts_frame (s : State) (x : PerPort PortRec) : Frame [.ports] s (s.setPorts x) := by
  intro b hb; cases b <;> first | exact absurd (List.mem_singleton.mpr rfl) hb | rfl

theorem State.setLedger_frame (s : State) (x : Ledger) : Frame [.ledger] s (s.setLedger x) := by
  intro b hb; cases b <;> first | exact absurd (List.mem_singleton.mpr rfl) hb | rfl

theorem State.setManifold_frame (s : State) (x : Manifold) : Frame [.manifold] s (s.setManifold x) := by
  intro b hb; cases b <;> first | exact absurd (List.mem_singleton.mpr rfl) hb | rfl

theorem State.setSupply_frame (s : State) (x : Supply) : Frame [.supply] s (s.setSupply x) := by
  intro b hb; cases b <;> first | exact absurd (List.mem_singleton.mpr rfl) hb | rfl

theorem State.setTickets_frame (s : State) (x : Admission) : Frame [.tickets] s (s.setTickets x) := by
  intro b hb; cases b <;> first | exact absurd (List.mem_singleton.mpr rfl) hb | rfl

theorem State.setFeed_frame (s : State) (x : Feed) : Frame [.feed] s (s.setFeed x) := by
  intro b hb; cases b <;> first | exact absurd (List.mem_singleton.mpr rfl) hb | rfl

theorem State.setSheets_frame (s : State) (x : Sheets) : Frame [.sheets] s (s.setSheets x) := by
  intro b hb; cases b <;> first | exact absurd (List.mem_singleton.mpr rfl) hb | rfl

theorem State.setStation_frame (s : State) (x : Station) : Frame [.station] s (s.setStation x) := by
  intro b hb; cases b <;> first | exact absurd (List.mem_singleton.mpr rfl) hb | rfl

theorem State.setService_frame (s : State) (x : Service) : Frame [.service] s (s.setService x) := by
  intro b hb; cases b <;> first | exact absurd (List.mem_singleton.mpr rfl) hb | rfl

theorem State.setNozzles_frame (s : State) (x : Nozzles) : Frame [.nozzles] s (s.setNozzles x) := by
  intro b hb; cases b <;> first | exact absurd (List.mem_singleton.mpr rfl) hb | rfl

theorem State.setDue_frame (s : State) (x : Due) : Frame [.due] s (s.setDue x) := by
  intro b hb; cases b <;> first | exact absurd (List.mem_singleton.mpr rfl) hb | rfl

/-! ### Shared operations -/

theorem State.duePass_frame (s : State) :
    Frame [.due] s (s.duePass) := s.setDue_frame _

theorem State.dueArbiter_frame (s : State) :
    Frame [.due] s (s.dueArbiter) := s.setDue_frame _

theorem State.dueStroke_frame (s : State) (c : Channel) (b : Bool) :
    Frame [.due] s (s.dueStroke c b) := s.setDue_frame _

theorem State.dueExamine_frame (s : State) :
    Frame [.due] s (s.dueExamine) := s.setDue_frame _

theorem State.reportRolls_frame (s : State) (old : Two RollRec) : Frame [.due] s (s.reportRolls old) := by
  unfold State.reportRolls; split
  · exact fun b _ => by cases b <;> rfl
  · exact s.setDue_frame _

/-- A report that is due tells that the roll records differ from those it holds, or was due before; it makes an examination
due with it. -/
theorem State.reportRolls_due (s : State) (old : Two RollRec) :
    (s.reportRolls old).due = if s.feed.roll = old then s.due
      else { s.due with rolls := some (s.due.rolls.getD old), examine := true } := by
  unfold State.reportRolls; split <;> rfl

/-- R104: a roll lost by a change of its record does not qualify, and its record is not what it was. -/
theorem State.lostRoll_changed {s : State} {old : Two RollRec} {h : Sheet} {r : Roll} (hl : s.lostRoll old h r = true) :
    s.qualifies h r = false ∧ old.get r ≠ s.feed.roll.get r := by
  simp only [State.lostRoll, Bool.or_eq_true, Bool.and_eq_true, Bool.not_eq_true'] at hl
  refine ⟨by unfold State.qualifies; rcases hl with ⟨-, h⟩ | ⟨-, h⟩ <;> simp [h], fun e => ?_⟩
  rw [e] at hl
  rcases hl with ⟨a, b⟩ | ⟨a, -⟩
  · simp [a] at b
  · revert a; unfold RollRec.shorterThan; cases (s.feed.roll.get r).remaining <;> simp

theorem State.inkMoved_frame (s : State) :
    Frame [.due] s (s.inkMoved) := s.duePass_frame.trans (Frame.when _ _ State.dueArbiter_frame)

theorem State.wasteMoved_frame (s : State) :
    Frame [.due] s (s.wasteMoved) := Frame.when _ _ State.dueArbiter_frame

theorem State.modSheet_frame (s : State) (id : Nat) (f : Sheet → Sheet) :
    Frame [.sheets] s (s.modSheet id f) := s.setSheets_frame _

theorem State.modTicket_frame (s : State) (n : Nat) (f : Ticket → Ticket) :
    Frame [.tickets] s (s.modTicket n f) := s.setTickets_frame _

theorem State.raise_frame (s : State) (e : Event) :
    Frame [.ports] s (s.raise e) := s.setPorts_frame _

theorem State.raiseIf_frame (s : State) (b : Bool) (e : Event) :
    Frame [.ports] s (s.raiseIf b e) := by
  cases b
  · exact Frame.refl _ s
  · exact s.raise_frame e

theorem State.raiseOn_frame (s : State) (p : Port) (e : Event) :
    Frame [.ports] s (s.raiseOn p e) := s.setPorts_frame _

theorem State.setLink_frame (s : State) (l : Link) :
    Frame [.supply] s (s.setLink l) := s.setSupply_frame _

theorem State.requestIdentify_frame (s : State) (pos : LinkPos) :
    Frame [.supply] s (s.requestIdentify pos) := s.setSupply_frame _

theorem State.requestMark_frame (s : State) (pos : LinkPos) (n : Nat) :
    Frame [.supply] s (s.requestMark pos n) := s.setSupply_frame _

theorem State.setChan_frame (s : State) (x : Six ChannelRec) :
    Frame [.ledger] s (s.setChan x) := s.setLedger_frame _

theorem State.raiseLevels_frame (s : State) (a b : Six ChannelRec) :
    Frame [.ports] s (s.raiseLevels a b) := (s.raiseIf_frame _ _).trans (State.raiseIf_frame _ _ _)

theorem State.ledgerOp_frame (s : State) (f : Channel → ChannelRec → ChannelRec) :
    Frame [.ports, .ledger, .due] s (s.ledgerOp f) := 
  Frame.join (Frame.join (s.setChan_frame _) (State.raiseLevels_frame _ _ _) (by decide) (by decide) (cs := [.ports, .ledger]))
    (Frame.when _ _ State.inkMoved_frame) (by decide) (by decide)

theorem State.recomputeLevels_frame (s : State) :
    Frame [.ports, .ledger] s (s.recomputeLevels) := 
  Frame.join (s.setChan_frame _) (State.raiseLevels_frame _ _ _) (by decide) (by decide)

theorem State.setDemand_frame (s : State) (c : Channel) :
    Frame [.manifold] s (s.setDemand c) := s.setManifold_frame _

theorem State.setDemands_frame (s : State) (cs : List Channel) :
    Frame [.manifold] s (s.setDemands cs) := Frame.foldl cs State.setDemand State.setDemand_frame s

theorem State.settleSwath_frame (s : State) (t : Ticket) (pairs : List (Nat × Nat)) :
    Frame [.ports, .ledger, .sheets, .due] s (s.settleSwath t pairs) := 
  Frame.join (s.ledgerOp_frame _) (State.modSheet_frame _ _ _) (by decide) (by decide)

theorem State.settleLost_frame (s : State) (t : Ticket) :
    Frame [.ports, .ledger, .sheets, .due] s (s.settleLost t) := 
  Frame.join (s.ledgerOp_frame _) (State.modSheet_frame _ _ _) (by decide) (by decide)

theorem State.setWaste_frame (s : State) (w : WasteRec) :
    Frame [.supply] s (s.setWaste w) := s.setSupply_frame _

theorem State.setWa_frame (s : State) (n : Nat) :
    Frame [.ledger] s (s.setWa n) := s.setLedger_frame _

theorem State.refreshUncovered_frame (s : State) :
    Frame [.ledger, .supply, .due] s (s.refreshUncovered) := 
  Frame.join (Frame.join (s.setLedger_frame _) (Frame.when _ _ fun t => t.requestMark_frame _ _) (by decide) (by decide)
    (cs := [.ledger, .supply])) (Frame.when _ _ State.wasteMoved_frame) (by decide) (by decide)

theorem State.refreshFull_frame (s : State) :
    Frame [.ports, .supply, .due] s (s.refreshFull) := 
  Frame.join (Frame.join (Frame.join (s.setWaste_frame _) (State.raiseIf_frame _ _ _) (by decide) (by decide) (cs := [.ports, .supply]))
    (State.raiseIf_frame _ _ _) (by decide) (by decide) (cs := [.ports, .supply])) (Frame.when _ _ State.wasteMoved_frame) (by decide) (by decide)

theorem State.refreshWaste_frame (s : State) :
    Frame [.ports, .ledger, .supply, .due] s (s.refreshWaste) := 
  Frame.join s.refreshFull_frame (State.refreshUncovered_frame _) (by decide) (by decide)

theorem State.askCoverage_frame (s : State) (w : Work) :
    Frame [.supply] s (s.askCoverage w) := Frame.when _ _ fun t => t.requestMark_frame _ _

theorem State.reserveService_frame (s : State) (w : Work) :
    Frame [.ports, .ledger, .supply, .due] s (s.reserveService w) := 
  Frame.join (Frame.join (s.ledgerOp_frame _) (State.setLedger_frame _ _) (by decide) (by decide) (cs := [.ports, .ledger, .due]))
    (State.refreshUncovered_frame _) (by decide) (by decide)

theorem State.releaseParts_frame (s : State) :
    Frame [.ports, .ledger, .supply, .due] s (s.releaseParts) := 
  Frame.join (Frame.join (s.ledgerOp_frame _) (State.setLedger_frame _ _) (by decide) (by decide) (cs := [.ports, .ledger, .due]))
    (State.refreshUncovered_frame _) (by decide) (by decide)

theorem State.settleSpit_frame (s : State) (m : Three Bool) (pairs : List (Nat × Nat)) :
    Frame [.ports, .ledger, .supply, .due] s (s.settleSpit m pairs) := 
  Frame.join (Frame.join (s.ledgerOp_frame _) (State.setLedger_frame _ _) (by decide) (by decide) (cs := [.ports, .ledger, .due]))
    (State.refreshWaste_frame _) (by decide) (by decide)

theorem State.settleSuction_frame (s : State) (h : Head) (level : Nat) (r : Bool) :
    Frame [.ports, .ledger, .supply, .due] s (s.settleSuction h level r) := 
  Frame.join (Frame.join (s.ledgerOp_frame _) (State.setLedger_frame _ _) (by decide) (by decide) (cs := [.ports, .ledger, .due]))
    (State.refreshWaste_frame _) (by decide) (by decide)

theorem State.setLevel_frame (s : State) (c : Channel) (n : Nat) :
    Frame [.ports, .ledger, .due] s (s.setLevel c n) := s.ledgerOp_frame _

theorem State.creditStroke_frame (s : State) (c : Channel) (v : Nat) :
    Frame [.ports, .ledger, .due] s (s.creditStroke c v) := s.ledgerOp_frame _

theorem State.putSlot_frame (s : State) (k : SlotId) (r : SlotRec) :
    Frame [.ports, .supply] s (s.putSlot k r) := 
  Frame.join (Frame.join (Frame.join (s.setSupply_frame _) (State.raiseIf_frame _ _ _) (by decide) (by decide) (cs := [.ports, .supply]))
    (State.raiseIf_frame _ _ _) (by decide) (by decide) (cs := [.ports, .supply])) (State.raiseIf_frame _ _ _) (by decide) (by decide)

theorem State.promote_frame (s : State) (c : Channel) :
    Frame [.ports, .supply] s (s.promote c) := by
  unfold State.promote
  split
  · exact Frame.refl _ s
  · split
    · exact Frame.refl _ s
    · exact s.putSlot_frame _ _

theorem State.promoteFor_frame (s : State) (k : SlotId) :
    Frame [.ports, .supply] s (s.promoteFor k) := by
  unfold State.promoteFor
  split
  · exact Frame.refl _ s
  · exact s.promote_frame _

theorem State.placeSlot_frame (s : State) (k : SlotId) (c : Channel) (r : SlotRec) :
    Frame [.ports, .supply] s (s.placeSlot k c r) := by
  unfold State.placeSlot
  dsimp only
  repeat' split
  all_goals first | exact s.putSlot_frame _ _ | exact (s.putSlot_frame _ _).trans (State.putSlot_frame _ _ _)

theorem State.forgetSource_frame (s : State) (k : SlotId) :
    Frame [.manifold] s (s.forgetSource k) := s.setManifold_frame _

theorem State.dropJob_frame (s : State) (pos : LinkPos) :
    Frame [.supply] s (s.dropJob pos) := s.setLink_frame _

theorem State.tankArrives_frame (s : State) (k : SlotId) :
    Frame [.ports, .supply] s (s.tankArrives k) := 
  Frame.join (s.putSlot_frame _ _) (State.requestIdentify_frame _ _) (by decide) (by decide)

theorem State.tankLeaves_frame (s : State) (k : SlotId) :
    Frame [.ports, .manifold, .supply] s (s.tankLeaves k) := 
  Frame.join (Frame.join (Frame.join (s.putSlot_frame _ _) (State.dropJob_frame _ _) (by decide) (by decide) (cs := [.ports, .supply]))
    (State.forgetSource_frame _ _) (by decide) (by decide) (cs := [.ports, .manifold, .supply])) (State.promoteFor_frame _ _) (by decide) (by decide)

theorem State.wasteArrives_frame (s : State) :
    Frame [.ledger, .supply, .due] s (s.wasteArrives) := 
  Frame.join (Frame.join (Frame.join (s.setWaste_frame _) (State.requestIdentify_frame _ _) (by decide) (by decide) (cs := [.supply]))
    (State.refreshUncovered_frame _) (by decide) (by decide) (cs := [.ledger, .supply, .due])) (State.wasteMoved_frame _) (by decide) (by decide)

theorem State.wasteLeaves_frame (s : State) :
    Frame [.ports, .ledger, .supply, .due] s (s.wasteLeaves) := 
  Frame.join (Frame.join (Frame.join (Frame.join (Frame.join (s.setWaste_frame _) (State.dropJob_frame _ _) (by decide) (by decide) (cs := [.supply]))
    (State.raiseIf_frame _ _ _) (by decide) (by decide) (cs := [.ports, .supply])) (State.setWa_frame _ _) (by decide) (by decide) (cs := [.ports, .ledger, .supply]))
    (State.refreshUncovered_frame _) (by decide) (by decide) (cs := [.ports, .ledger, .supply, .due])) (State.wasteMoved_frame _) (by decide) (by decide)

theorem State.faultPosition_frame (s : State) (pos : LinkPos) :
    Frame [.ports, .ledger, .supply, .due] s (s.faultPosition pos) := by
  cases pos with
  | slot k =>
    exact Frame.join (Frame.join (s.raise_frame _) (State.putSlot_frame _ _ _) (by decide) (by decide) (cs := [.ports, .supply]))
      (State.promoteFor_frame _ _) (by decide) (by decide)
  | waste =>
    exact Frame.join (Frame.join (Frame.join (s.raise_frame _) (State.setWaste_frame _ _) (by decide) (by decide) (cs := [.ports, .supply]))
      (State.refreshUncovered_frame _) (by decide) (by decide) (cs := [.ports, .ledger, .supply, .due])) (State.wasteMoved_frame _) (by decide) (by decide)

theorem State.addDrawn_frame (s : State) (k : SlotId) (v : Nat) :
    Frame [.ports, .supply] s (s.addDrawn k v) := by
  unfold State.addDrawn
  dsimp only
  split
  · exact ((s.putSlot_frame _ _).trans (State.putSlot_frame _ _ _)).trans (State.promoteFor_frame _ _)
  · exact s.putSlot_frame _ _

theorem State.recomputeLow_frame (s : State) :
    Frame [.ports, .supply] s (s.recomputeLow) := Frame.foldl _ _ (fun t k => t.putSlot_frame k _) s

theorem State.remapSlot_frame (s : State) (k : SlotId) (e : Option Channel) :
    Frame [.ports, .manifold, .supply] s (s.remapSlot k e) := by
  unfold State.remapSlot
  split
  · exact Frame.refl _ s
  · exact Frame.join (s.setSupply_frame _) (Frame.when (bs := [.ports, .manifold, .supply]) _ _ fun t =>
      Frame.join (Frame.join (t.putSlot_frame _ _) (State.setLink_frame _ _) (by decide) (by decide) (cs := [.ports, .supply]))
        (State.forgetSource_frame _ _) (by decide) (by decide)) (by decide) (by decide)

theorem State.takeMap_frame (s : State) (m : Eight (Option Channel)) :
    Frame [.ports, .manifold, .supply] s (s.takeMap m) := 
  Frame.join (Frame.foldl _ _ (fun t k => t.remapSlot_frame k _) s) (Frame.foldl _ _ State.promote_frame _) (by decide) (by decide)

theorem State.acceptTank_frame (s : State) (k : SlotId) (c : Channel) (n : Nat) :
    Frame [.ports, .supply] s (s.acceptTank k c n) := s.placeSlot_frame k c _

theorem State.setSession_frame (s : State) (c : Channel) (x : Session) :
    Frame [.manifold] s (s.setSession c x) := s.setManifold_frame _

theorem State.putSession_frame (s : State) (c : Channel) (x : SessionState) :
    Frame [.manifold] s (s.putSession c x) := s.setManifold_frame _

theorem State.clearDemand_frame (s : State) (c : Channel) :
    Frame [.manifold] s (s.clearDemand c) := s.setManifold_frame _

theorem State.enterWant_frame (s : State) (c : Channel) :
    Frame [.manifold] s (s.enterWant c) := s.setManifold_frame _

theorem State.strokeTest_frame (s : State) (c : Channel) :
    Frame [.manifold, .supply] s (s.strokeTest c) := by
  unfold State.strokeTest
  split
  · exact (s.putSession_frame _ _).mono (by decide)
  · dsimp only
    split
    · exact (s.putSession_frame _ _).mono (by decide)
    · split
      · exact (s.enterWant_frame _).mono (by decide)
      · split
        · exact Frame.join (s.setSession_frame _ _) (State.requestMark_frame _ _ _) (by decide) (by decide)
        · exact (s.enterWant_frame _).mono (by decide)

theorem State.setPump_frame (s : State) (p : Pump) :
    Frame [.manifold] s (s.setPump p) := s.setManifold_frame _

theorem State.afterStroke_frame (s : State) (c : Channel) (b : Bool) :
    Frame [.manifold, .supply] s (s.afterStroke c b) := by
  unfold State.afterStroke
  split
  · dsimp only
    split
    · exact (s.putSession_frame _ _).mono (by decide)
    · exact s.strokeTest_frame c
  all_goals exact Frame.refl _ s

theorem State.completeStroke_frame (s : State) (r : StrokeRun) (b : Bool) :
    Frame [.ports, .ledger, .manifold, .supply, .due] s (s.completeStroke r b) := by
  have h1 : Frame [.ports, .ledger, .manifold, .supply, .due] s ((s.setPump .free).when r.stands fun t => t.addDrawn r.source r.volume) :=
    Frame.join (s.setPump_frame _) (Frame.when _ _ fun t => t.addDrawn_frame _ _) (by decide) (by decide)
  unfold State.completeStroke
  cases b
  · exact Frame.join (h1.trans ((State.creditStroke_frame _ _ _).mono (by decide))) (State.dueStroke_frame _ _ _) (by decide) (by decide)
  · exact Frame.join (h1.trans ((State.setLevel_frame _ _ _).mono (by decide))) (State.dueStroke_frame _ _ _) (by decide) (by decide)

theorem State.requestSuction_frame (s : State) (h : Head) (l : Nat) :
    Frame [.manifold] s (s.requestSuction h l) := 
  (s.setManifold_frame _).trans (Frame.foldl _ _ (fun _ _ => Frame.when _ _ fun u => u.putSession_frame _ _) _)

theorem State.setQueue_frame (s : State) (q : List Item) :
    Frame [.service] s (s.setQueue q) := s.setService_frame _

theorem State.request_frame (s : State) (w : Work) :
    Frame [.service, .due] s (s.request w) := by
  unfold State.request
  dsimp only
  split
  · exact Frame.join (s.setQueue_frame _) (State.dueArbiter_frame _) (by decide) (by decide)
  · exact Frame.join (s.setService_frame _) (State.dueArbiter_frame _) (by decide) (by decide)

theorem State.requestSpit_frame (s : State) (h : Head) :
    Frame [.service, .due] s (s.requestSpit h) := s.request_frame _

theorem State.requestClean_frame (s : State) (h : Head) (l : Nat) (o : CleanOrigin) (u : Urgency) (a : Nat) :
    Frame [.service, .due] s (s.requestClean h l o u a) := by
  unfold State.requestClean
  split
  · exact Frame.refl _ s
  · exact s.request_frame _

theorem State.requestCheck_frame (s : State) (m : Three Bool) :
    Frame [.service, .due] s (s.requestCheck m) := s.request_frame _

theorem State.dropFromSpit_frame (s : State) (h : Head) :
    Frame [.service] s (s.dropFromSpit h) := s.setService_frame _

theorem State.failHead_frame (s : State) (h : Head) :
    Frame [.ports, .service] s (s.failHead h) := 
  Frame.join (s.raiseIf_frame _ _) (State.setService_frame _ _) (by decide) (by decide)

theorem State.unfailHead_frame (s : State) (h : Head) :
    Frame [.service] s (s.unfailHead h) := s.setService_frame _

theorem State.returnItem_frame (s : State) (i : Item) :
    Frame [.service, .due] s (s.returnItem i) := by
  unfold State.returnItem
  split
  · exact s.dueArbiter_frame.mono (by decide)
  · split
    · exact Frame.join (s.setQueue_frame _) (State.dueArbiter_frame _) (by decide) (by decide)
    · exact Frame.join (s.setQueue_frame _) (State.dueArbiter_frame _) (by decide) (by decide)

theorem State.giveBack_frame (s : State) :
    Frame [.ports, .ledger, .supply, .service, .due] s (s.giveBack) := by
  unfold State.giveBack
  split
  · exact Frame.refl _ s
  · exact Frame.join (Frame.join s.releaseParts_frame (State.setService_frame _ _) (by decide) (by decide)
      (cs := [.ports, .ledger, .supply, .service, .due])) (State.returnItem_frame _ _) (by decide) (by decide)

theorem State.clearCapDue_frame (s : State) :
    Frame [.station] s (s.clearCapDue) := s.setStation_frame _

theorem State.putNozzles_frame (s : State) (x : Six NozzleRec) :
    Frame [.ports, .nozzles] s (s.putNozzles x) := 
  Frame.join (s.setNozzles_frame _) (State.raiseIf_frame _ _ _) (by decide) (by decide)

theorem State.healthRequest_frame (s : State) (c : Channel) :
    Frame [.service, .due] s (s.healthRequest c) := by
  unfold State.healthRequest
  split
  · exact Frame.refl _ s
  · exact s.requestClean_frame _ _ _ _ _
  · exact s.requestClean_frame _ _ _ _ _

theorem State.applyCheck_frame (s : State) (r : List CheckReport) :
    Frame [.ports, .service, .nozzles, .due] s (s.applyCheck r) := by
  unfold State.applyCheck
  dsimp only
  split
  · exact Frame.join (s.putNozzles_frame _) (Frame.foldl _ _ (fun _ _ => Frame.when _ _ fun u => u.failHead_frame _) _) (by decide) (by decide)
  · exact Frame.join (Frame.join (s.putNozzles_frame _) (Frame.foldl _ _ (fun _ _ => Frame.when _ _ fun u => u.failHead_frame _) _) (by decide) (by decide)
      (cs := [.ports, .service, .nozzles])) (Frame.foldl _ _ State.healthRequest_frame _) (by decide) (by decide)

theorem State.resetExposure_frame (s : State) (h : Head) :
    Frame [.station, .service] s (s.resetExposure h) := 
  Frame.join (s.setStation_frame _) (State.dropFromSpit_frame _ _) (by decide) (by decide)

theorem State.resetExposures_frame (s : State) (m : Three Bool) :
    Frame [.station, .service] s (s.resetExposures m) := 
  Frame.foldl _ _ (fun _ _ => Frame.when _ _ fun u => u.resetExposure_frame _) s

theorem State.placeOrder_frame (s : State) (k : OrderKind) (m : Three Bool) (d : Nat) (o : OrderOrigin) :
    Frame [.ports, .station] s (s.placeOrder k m d o) := 
  Frame.join (s.setStation_frame _) (State.raise_frame _ _) (by decide) (by decide)

theorem State.finishOrder_frame (s : State) :
    Frame [.station] s (s.finishOrder) := s.setStation_frame _

theorem State.enterOpen_frame (s : State) :
    Frame [.station] s (s.enterOpen) := s.setStation_frame _

theorem State.enterCapped_frame (s : State) :
    Frame [.station, .service] s (s.enterCapped) := 
  Frame.join (s.setStation_frame _) (State.resetExposures_frame _ _) (by decide) (by decide)

theorem State.judgeCleaning_frame (s : State) (h : Head) (l : Nat) (o : CleanOrigin) (a : Nat) :
    Frame [.ports, .service, .due] s (s.judgeCleaning h l o a) := by
  unfold State.judgeCleaning
  repeat' split
  all_goals first | exact Frame.refl _ s | exact (s.unfailHead_frame _).mono (by decide) |
    exact (s.requestClean_frame _ _ _ _ _).mono (by decide) | exact (s.failHead_frame _).mono (by decide)

theorem State.finishItem_frame (s : State) (i : Item) :
    Frame [.ports, .station, .service, .due] s (s.finishItem i) := by
  unfold State.finishItem
  dsimp only
  split
  · exact Frame.join (Frame.join (Frame.join (s.judgeCleaning_frame _ _ _ _) (State.resetExposure_frame _ _) (by decide) (by decide)
      (cs := [.ports, .station, .service, .due])) (State.setService_frame _ _) (by decide) (by decide)
      (cs := [.ports, .station, .service, .due])) (State.dueArbiter_frame _) (by decide) (by decide)
  all_goals exact Frame.join (s.setService_frame _) (State.dueArbiter_frame _) (by decide) (by decide)

theorem State.endStage_frame (s : State) :
    Frame [.ports, .station, .service, .due] s (s.endStage) := by
  unfold State.endStage
  split
  · exact Frame.refl _ s
  · split
    · exact s.finishItem_frame _
    · exact (s.setService_frame _).mono (by decide)

theorem State.orphanSuction_frame (s : State) :
    Frame [.manifold, .station] s (s.orphanSuction) := by
  unfold State.orphanSuction
  split
  · exact Frame.refl _ s
  · split
    · split
      · exact (s.setPump_frame _).mono (by decide)
      all_goals exact Frame.refl _ s
    · exact Frame.join (s.setManifold_frame _) (State.setStation_frame _ _) (by decide) (by decide)

theorem State.enterFault_frame (s : State) (w : StationCause) :
    Frame [.ports, .ledger, .manifold, .supply, .station, .service, .due] s (s.enterFault w) := 
  Frame.join (Frame.join (Frame.join s.orphanSuction_frame (State.setStation_frame _ _) (by decide) (by decide) (cs := [.manifold, .station]))
    (State.raise_frame _ _) (by decide) (by decide) (cs := [.ports, .manifold, .station])) (State.giveBack_frame _) (by decide) (by decide)

theorem State.orderTimesOut_frame (s : State) :
    Frame [.ports, .ledger, .manifold, .supply, .station, .service, .due] s (s.orderTimesOut) := 
  Frame.join (Frame.join (Frame.join (s.setStation_frame _) (State.raise_frame _ _) (by decide) (by decide) (cs := [.ports, .station]))
    (Frame.when _ _ State.giveBack_frame) (by decide) (by decide) (cs := [.ports, .ledger, .supply, .station, .service, .due]))
    (Frame.when _ _ fun t => t.enterFault_frame _) (by decide) (by decide)

theorem State.endSuction_frame (s : State) (r : SuctionRun) :
    Frame [.ports, .ledger, .manifold, .supply, .station, .service, .due] s (s.endSuction r) := by
  have h1 : Frame [.ports, .ledger, .manifold, .supply, .station, .service, .due] s
      (((s.setPump .free).settleSuction r.head r.level (!r.orphan)).setStation
        { ((s.setPump .free).settleSuction r.head r.level (!r.orphan)).station with suction := none }) :=
    Frame.join (Frame.join (s.setPump_frame _) (State.settleSuction_frame _ _ _ _) (by decide) (by decide)
      (cs := [.ports, .ledger, .manifold, .supply, .due])) (State.setStation_frame _ _) (by decide) (by decide)
  unfold State.endSuction
  dsimp only
  split
  · exact h1
  · exact Frame.join (h1.trans ((State.setStation_frame _ _).mono (by decide))) (State.endStage_frame _) (by decide) (by decide)

theorem State.releaseInk_frame (s : State) (ts : List Ticket) :
    Frame [.ports, .ledger, .due] s (s.releaseInk ts) := s.ledgerOp_frame _

theorem State.setTicketQueue_frame (s : State) (q : List Ticket) :
    Frame [.tickets] s (s.setTicketQueue q) := s.setTickets_frame _

theorem State.removeTickets_frame (s : State) (f : Ticket → Bool) :
    Frame [.ports, .ledger, .tickets, .due] s (s.removeTickets f) := by
  unfold State.removeTickets
  dsimp only
  split
  · exact Frame.refl _ s
  · exact Frame.join (Frame.join (Frame.join (Frame.join (s.releaseInk_frame _) (State.setTicketQueue_frame _ _) (by decide) (by decide)
      (cs := [.ports, .ledger, .tickets, .due])) (State.raiseIf_frame _ _ _) (by decide) (by decide) (cs := [.ports, .ledger, .tickets, .due]))
      (Frame.when _ _ State.dueArbiter_frame) (by decide) (by decide) (cs := [.ports, .ledger, .tickets, .due])) (State.duePass_frame _) (by decide) (by decide)

theorem State.dropFiring_frame (s : State) (n : Nat) :
    Frame [.tickets, .due] s (s.dropFiring n) := 
  Frame.join (Frame.join (s.setTickets_frame _) (State.duePass_frame _) (by decide) (by decide) (cs := [.tickets, .due])) (State.dueArbiter_frame _) (by decide) (by decide)

theorem State.settleTicket_frame (s : State) (t : Ticket) (pairs : List (Nat × Nat)) :
    Frame [.ports, .ledger, .tickets, .sheets, .due] s (s.settleTicket t pairs) := 
  Frame.join (Frame.join (s.settleSwath_frame _ _) (State.dropFiring_frame _ _) (by decide) (by decide)
    (cs := [.ports, .ledger, .tickets, .sheets, .due])) (State.raise_frame _ _) (by decide) (by decide)

theorem State.loseTicket_frame (s : State) (t : Ticket) :
    Frame [.ports, .ledger, .tickets, .sheets, .due] s (s.loseTicket t) := 
  Frame.join (Frame.join (s.settleLost_frame _) (State.dropFiring_frame _ _) (by decide) (by decide)
    (cs := [.ports, .ledger, .tickets, .sheets, .due])) (State.raise_frame _ _) (by decide) (by decide)

theorem State.appendTicket_frame (s : State) (h i a : Nat) (p : Six Nat) :
    Frame [.tickets, .due] s (s.appendTicket h i a p) := 
  Frame.join (s.setTickets_frame _) (State.duePass_frame _) (by decide) (by decide)

theorem State.countDone_frame (s : State) :
    Frame [.service, .due] s (s.countDone) := by
  unfold State.countDone
  split
  · exact Frame.refl _ s
  · split
    · exact Frame.join (s.setService_frame _) (State.requestCheck_frame _ _) (by decide) (by decide)
    · exact (s.setService_frame _).mono (by decide)

theorem State.removeSheet_frame (s : State) (id : Nat) (o : SheetOutcome) :
    Frame [.ports, .sheets, .service, .due] s (s.removeSheet id o) := by
  unfold State.removeSheet
  split
  · exact Frame.refl _ s
  · exact Frame.join (Frame.join (Frame.join (Frame.join (s.setSheets_frame _) (State.raise_frame _ _) (by decide) (by decide) (cs := [.ports, .sheets]))
      (State.dueExamine_frame _) (by decide) (by decide) (cs := [.ports, .sheets, .due]))
      (Frame.when _ _ State.dueArbiter_frame) (by decide) (by decide) (cs := [.ports, .sheets, .due])) (Frame.when _ _ State.countDone_frame) (by decide) (by decide)

theorem State.cancelSheet_frame (s : State) (id : Nat) (o : SheetOutcome) :
    Frame [.ports, .ledger, .tickets, .sheets, .service, .due] s (s.cancelSheet id o) := by
  unfold State.cancelSheet
  dsimp only
  split
  · exact Frame.join (s.removeTickets_frame _) (State.modSheet_frame _ _ _) (by decide) (by decide)
  · exact Frame.join (s.removeTickets_frame _) (State.removeSheet_frame _ _ _) (by decide) (by decide)

theorem State.cancelIf_frame (s : State) (id : Nat) (o : SheetOutcome) :
    Frame [.ports, .ledger, .tickets, .sheets, .service, .due] s (s.cancelIf id o) := by
  unfold State.cancelIf
  repeat' split
  all_goals first | exact Frame.refl _ s | exact s.cancelSheet_frame _ _

theorem State.cancelActive_frame (s : State) (o : SheetOutcome) :
    Frame [.ports, .ledger, .tickets, .sheets, .service, .due] s (s.cancelActive o) := by
  unfold State.cancelActive
  split
  · exact Frame.refl _ s
  · exact s.cancelIf_frame _ _

theorem State.paperEndOn_frame (s : State) (r : Roll) :
    Frame [.ports, .ledger, .tickets, .sheets, .service, .due] s (s.paperEndOn r) := by
  unfold State.paperEndOn
  repeat' split
  all_goals first | exact Frame.refl _ s | exact s.cancelIf_frame _ _

theorem State.appendSheet_frame (s : State) (p : RollPref) (m w l t b d : Nat) (c : CutMode) :
    Frame [.sheets, .due] s (s.appendSheet p m w l t b d c) :=
  Frame.join (s.setSheets_frame _) (State.dueExamine_frame _) (by decide) (by decide)

theorem State.examineSheet_frame (s : State) (h : Sheet) : Frame [.ports, .sheets] s (s.examineSheet h) := by
  unfold State.examineSheet
  split
  · exact (s.modSheet_frame _ _).mono (by decide)
  · split
    · exact Frame.join (s.modSheet_frame _ _) (State.raise_frame _ _) (by decide) (by decide)
    · exact Frame.refl _ s

/-! ### The feed unit keeping each remaining (R94) -/

@[simp] theorem Feed.keepRemaining_roll (f old : Feed) (r : Roll) :
    (f.keepRemaining old).roll.get r = { f.roll.get r with remaining := (old.roll.get r).remaining } := by
  cases r <;> rfl

@[simp] theorem Feed.keepRemaining_path (f old : Feed) : (f.keepRemaining old).path = f.path := rfl

@[simp] theorem Feed.keepRemaining_pathRoll (f old : Feed) : (f.keepRemaining old).pathRoll = f.pathRoll := rfl

@[simp] theorem Feed.keepRemaining_cause (f old : Feed) : (f.keepRemaining old).cause = f.cause := rfl

@[simp] theorem Feed.keepRemaining_op (f old : Feed) : (f.keepRemaining old).op = f.op := rfl

theorem State.setRoll_frame (s : State) (r : Roll) (x : RollRec) :
    Frame [.feed] s (s.setRoll r x) := s.setFeed_frame _

theorem State.modPathRoll_frame (s : State) (f : RollRec → RollRec) :
    Frame [.feed] s (s.modPathRoll f) := by
  unfold State.modPathRoll
  split
  · exact Frame.refl _ s
  · exact s.setRoll_frame _ _

theorem State.endOp_frame (s : State) (p : PathState) :
    Frame [.feed] s (s.endOp p) := s.setFeed_frame _

theorem State.pathFaults_frame (s : State) (w : FeedCause) (e : Event) :
    Frame [.ports, .feed] s (s.pathFaults w e) := 
  Frame.join (s.setFeed_frame _) (State.raise_frame _ _) (by decide) (by decide)

theorem State.stoppedPaperEnd_frame (s : State) (p : Purpose) (n : Nat) :
    Frame [.ports, .ledger, .tickets, .sheets, .service, .due] s (s.stoppedPaperEnd p n) := by
  unfold State.stoppedPaperEnd
  split
  · exact (s.removeSheet_frame _ _).mono (by decide)
  all_goals exact s.cancelIf_frame _ _

theorem State.feedFaulted_frame (s : State) (o : FeedOp) :
    Frame [.ports, .ledger, .tickets, .sheets, .service, .due] s (s.feedFaulted o) := by
  unfold State.feedFaulted
  split
  · exact Frame.refl _ s
  · split
    all_goals first | exact Frame.refl _ s | exact (s.modSheet_frame _ _).mono (by decide) | exact s.cancelIf_frame _ _

theorem State.advanceDone_frame (s : State) (o : FeedOp) :
    Frame [.ports, .tickets, .sheets] s (s.advanceDone o) := by
  unfold State.advanceDone
  repeat' split
  all_goals first | exact Frame.refl _ s | exact (s.modSheet_frame _ _).mono (by decide) |
    exact Frame.join (s.modSheet_frame _ _) (State.modTicket_frame _ _ _) (by decide) (by decide) |
    exact Frame.join (s.modSheet_frame _ _) (State.raise_frame _ _) (by decide) (by decide)

theorem State.completeAdvance_frame (s : State) (o : FeedOp) :
    Frame [.ports, .tickets, .feed, .sheets] s (s.completeAdvance o) := 
  Frame.join (Frame.join (s.modPathRoll_frame _) (State.endOp_frame _ _) (by decide) (by decide) (cs := [.feed])) (State.advanceDone_frame _ _) (by decide) (by decide)

theorem State.stopAdvance_frame (s : State) (o : FeedOp) (r : Roll) :
    Frame [.ports, .ledger, .tickets, .feed, .sheets, .service, .due] s (s.stopAdvance o r) := 
  Frame.join (Frame.join (Frame.join (Frame.join (s.modPathRoll_frame _) (State.endOp_frame _ _) (by decide) (by decide) (cs := [.feed]))
    (State.reportRolls_frame _ _) (by decide) (by decide) (cs := [.ports, .ledger, .tickets, .feed, .sheets, .service, .due])) (Frame.when _ _ fun t => t.stoppedPaperEnd_frame _ _) (by decide) (by decide)
    (cs := [.ports, .ledger, .tickets, .feed, .sheets, .service, .due])) (State.paperEndOn_frame _ _) (by decide) (by decide)

theorem State.faultAdvance_frame (s : State) (o : FeedOp) (w : FeedCause) :
    Frame [.ports, .ledger, .tickets, .feed, .sheets, .service, .due] s (s.faultAdvance o w) := 
  Frame.join (Frame.join (s.modPathRoll_frame _) (State.pathFaults_frame _ _ _) (by decide) (by decide) (cs := [.ports, .feed]))
    (State.feedFaulted_frame _ _) (by decide) (by decide)

theorem State.completeSwap_frame (s : State) (o : FeedOp) (r : Roll) :
    Frame [.feed, .sheets, .due] s (s.completeSwap o r) := by
  unfold State.completeSwap
  exact Frame.join (Frame.join (Frame.join (Frame.join (Frame.join (s.modPathRoll_frame _) (State.setRoll_frame _ _ _) (by decide) (by decide)
    (cs := [.feed])) (State.setFeed_frame _ _) (by decide) (by decide) (cs := [.feed])) (State.endOp_frame _ _) (by decide) (by decide) (cs := [.feed]))
    (State.reportRolls_frame _ _) (by decide) (by decide) (cs := [.feed, .due])) (Frame.when _ _ fun t => t.modSheet_frame _ _) (by decide) (by decide)

theorem State.faultSwap_frame (s : State) (o : FeedOp) (w : FeedCause) :
    Frame [.ports, .ledger, .tickets, .feed, .sheets, .service, .due] s (s.faultSwap o w) := by
  unfold State.faultSwap
  exact Frame.join (Frame.join (Frame.join (Frame.join (s.modPathRoll_frame _) (State.setFeed_frame _ _) (by decide) (by decide) (cs := [.feed]))
    (State.pathFaults_frame _ _ _) (by decide) (by decide) (cs := [.ports, .feed])) (State.reportRolls_frame _ _) (by decide) (by decide) (cs := [.ports, .feed, .due]))
    (State.feedFaulted_frame _ _) (by decide) (by decide)

theorem State.proceedSwap_frame (s : State) (o : FeedOp) :
    Frame [.feed, .sheets, .due] s (s.proceedSwap o) := by
  unfold State.proceedSwap
  repeat' split
  all_goals first | exact Frame.refl _ s | exact s.completeSwap_frame _ _ | exact (s.setFeed_frame _).mono (by decide)

theorem State.completeCut_frame (s : State) (o : FeedOp) :
    Frame [.ports, .feed, .sheets, .service, .due] s (s.completeCut o) := 
  Frame.join (s.endOp_frame _) (Frame.when _ _ fun t => t.removeSheet_frame _ _) (by decide) (by decide)

theorem State.loadIdleSleep_frame (s : State) :
    Frame [.mode] s (s.loadIdleSleep) := s.setMode_frame _

theorem State.enterSleep_frame (s : State) :
    Frame [.mode] s (s.enterSleep) := s.setMode_frame _

theorem State.enterRun_frame (s : State) :
    Frame [.mode, .due] s (s.enterRun) := 
  Frame.join (s.setMode_frame _) (State.dueArbiter_frame _) (by decide) (by decide)

theorem State.cleanAll_frame (s : State) (o : CleanOrigin) :
    Frame [.service, .due] s (s.cleanAll o) := 
  Frame.foldl _ _ (fun t h => t.requestClean_frame h _ _ _ _) s

theorem State.replied_frame (s : State) (r : State) (p : Port) (c : Nat) (k : ReplyCode) (v n : Nat) :
    Frame [.ports] s (s.replied r p c k v n) := s.modPort_frame p _

end Sys2Proof.Machine
end

