-- ==== Sys2Proof/WellFormed.lean ====
section
/-!
DEFINITION. Which commands a port can spell: every operand fits its bytes, and a count-prefixed list has the length its
counts give (R164, 10.7). An operand out of its range but within its bytes is well-formed: its owning rule refuses it.
-/

namespace Sys2Proof

def isByte (n : Nat) : Bool := decide (n < 256)
def isTwo (n : Nat) : Bool := decide (n < 65536)
def isThree (n : Nat) : Bool := decide (n < 16777216)
def isFour (n : Nat) : Bool := decide (n < 4294967296)

/-- A list that its count prefixes: as long as the count says, and not sent at all where the count exceeds its limit. -/
def countFits (limit count len : Nat) : Bool := isByte count && (if count ≤ limit then len == count else len == 0)

/-- Pairs of channel and drop count: a byte and four bytes each. -/
def pairsFit (count : Nat) (pairs : List (Nat × Nat)) : Bool :=
  countFits 6 count pairs.length && pairs.all fun x => isByte x.1 && isFour x.2

/-- A channel report of a CHECK. -/
def reportFits (r : CheckReport) : Bool :=
  isByte r.channel && isByte r.overflow && countFits 64 r.count r.missing.length && r.missing.all isTwo

/-- The reports of a CHECK. A missing-nozzle count above its limit completes the operands, so only the last report can
carry one, and the list may then be shorter than its count. DEDUCED (notes/assumptions/55.md): a report count above its limit
completes them, too. -/
def reportsFit (count : Nat) (reports : List CheckReport) : Bool :=
  isByte count && reports.all reportFits && (reports.dropLast.all fun r => decide (r.count ≤ 64)) &&
    (if 6 < count then reports.isEmpty
     else if reports.getLast?.any fun r => decide (64 < r.count) then decide (reports.length ≤ count)
     else reports.length == count)

/-- The operands of an ORDER_DONE (R164): its kind decides which lists follow; another kind completes them. -/
def orderDoneFits (kind count : Nat) (pairs : List (Nat × Nat)) (reports : List CheckReport) : Bool :=
  isByte kind &&
    (if kind = 1 then pairsFit count pairs && reports.isEmpty
     else if kind = 2 then reportsFit count reports && pairs.isEmpty
     else count == 0 && pairs.isEmpty && reports.isEmpty)

/-- A port carries the command of a code (10.7). -/
def portCarries (p : Port) (code : Nat) : Bool :=
  (decide (1 ≤ code) && decide (code ≤ 6)) ||
    match p with
    | .rp => decide (0x20 ≤ code) && decide (code ≤ 0x24)
    | .cp => decide (0x40 ≤ code) && decide (code ≤ 0x44)
    | .pp => code == 0x22 || (decide (0x60 ≤ code) && decide (code ≤ 0x6C))

/-- A chip that arrives has stood without power: no latch is held and no write cycle runs (R51). -/
def Chip.unpowered (c : Chip) : Bool := !c.latched && c.busyLeft == 0

/-- A command as its sender can send it. -/
def Instr.wellFormed : Instr → Bool
  | .powerOn _ => true
  | .resetLineAssert => true
  | .resetLineRelease _ => true
  | .frameError _ bits => decide (0 < bits)
  | .unknownCommand port code => isByte code.value && !portCarries port code.value
  | .getStatus _ _ => true
  | .getReply _ _ => true
  | .getEvents _ _ => true
  | .setEventMask _ _ => true
  | .tableSel _ table place => isByte table && isTwo place
  | .tableRead _ _ => true
  | .sheetOpen _ pref media width planned top bottom dry cut =>
    isByte pref && isByte media && isTwo width && isTwo planned && isTwo top && isTwo bottom && isTwo dry && isByte cut
  | .sheetClose _ sheet final => isByte sheet && isTwo final
  | .sheetCancel _ sheet => isByte sheet
  | .swathAsk _ sheet index advance count pairs =>
    isByte sheet && isTwo index && isThree advance && pairsFit count pairs
  | .swathWithdraw _ ticket => isByte ticket
  | .swathTake _ ticket => isByte ticket
  | .swathDone _ ticket count pairs => isByte ticket && pairsFit count pairs
  | .parkState _ code => isByte code
  | .getOrder _ _ => true
  | .orderDone _ kind count pairs reports => orderDoneFits kind count pairs reports
  | .go _ => true
  | .configSet _ param mask value => isByte param && isByte mask && isFour value
  | .configLock _ => true
  | .slotMapSet _ entries => entries.toList.all isByte
  | .tankAccept _ slot capacity => isByte slot && isTwo capacity
  | .levelRestore _ channel level => isByte channel && isFour level
  | .retiredRestore _ channel count indices =>
    isByte channel && countFits 16 count indices.length && indices.all isTwo
  | .rollLoad _ roll media width length => isByte roll && isByte media && isTwo width && isThree length
  | .cleanAsk _ mask level urgency => isByte mask && isByte level && isByte urgency
  | .feedClear _ => true
  | .stationClear _ _ => true
  | .sleepNow _ => true
  | .hubReset _ _ => true
  | .probeTrip _ _ => true
  | .strokeTimerExpiry => true
  | .suctionStageEnd => true
  | .slotTankArrival _ chip => chip.unpowered
  | .slotTankRemoval _ => true
  | .wasteCartridgeArrival chip => chip.unpowered
  | .wasteCartridgeRemoval => true
  | .linkAnswer _ => true
  | .linkAnswerTimeout => true
  | .busyTimeout => true
  | .rollArrival _ => true
  | .rollRemoval _ => true
  | .paperEnd _ => true
  | .threadSensorChange _ => true
  | .actuatorPositionReport _ => true
  | .cutterHomeSwitchChange _ => true
  | .endOfMove => true
  | .advanceWatchdogExpiry => true
  | .swapTimerExpiry => true
  | .cutTimerExpiry => true
  | .capSensorReport _ => true
  | .capMoveTimerExpiry => true
  | .wipeTimerExpiry => true
  | .capDelayExpiry => true
  | .exposureSpitThreshold _ => true
  | .exposureCleanThreshold _ => true
  | .orderTimerExpiry => true
  | .swathTimerExpiry => true
  | .dryTimerExpiry sheet => isByte sheet
  | .idleSleepExpiry => true
  | .idleServiceExpiry => true

end Sys2Proof
end

