-- ==== Sys2Proof/Tests/Slice0.lean ====
section
/-!
SUPPORT. Tests: ill-formed commands that WellFormed refuses; worked examples of the manual, each with its place; and for
every statement with hypotheses a witness that meets them.
-/

namespace Sys2Proof.Tests

open Sys2Proof Sys2Proof.Machine

-- One test after another: each waits for the kernel, and side by side they would take a thread each.
set_option Elab.async false

/-! ### Small states -/

/-- The test holds of the next state that a command answers. -/
def after (c : Instr) (s : State) (f : State → Bool) : Bool :=
  match exec c s with
  | .next t => f t
  | .fault _ => false
  | .refused _ => false

def running : State := { State.reset with mode := { ModeUnit.reset with mode := .run } }

def sleeping : State :=
  { State.reset with mode := { ModeUnit.reset with mode := .sleep, idleServiceLeft := some 86400000 } }

def held : State := { State.reset with pins := { Pins.reset with resetLow := true } }

/-- A CUT sheet of planned length 1,200 mm with margins of 20 mm and 30 mm (6.3, worked example). -/
def sheet (x : SheetState) : Sheet :=
  { id := 1, pref := .any, media := 1, width := 600, planned := 1200, top := 20, bottom := 30, dry := 5, cut := .cut,
    final := 0, state := x, roll := some .upper, loadStep := none, finish := none, dryLeft := 0, printed := 0,
    ink := Six.const 0, outcome := .none }

/-- The ticket T5 of the ledger's worked example: 3,100,000 drops of ch2 asked, 14,322 nL reserved. -/
def ticket (x : TicketState) : Ticket :=
  { number := 5, sheet := 1, index := 0, advance := 20000, predicted := (Six.const 0).set .ch2 3100000,
    need := (Six.const 0).set .ch2 14322, adv := .done, state := x }

def withSheet (x : SheetState) (s : State) : State := { s with sheets := { s.sheets with queue := [sheet x] } }

def withTicket (x : TicketState) (s : State) : State := { s with tickets := { s.tickets with queue := [ticket x] } }

/-- A channel record with a level and its reservations. -/
def channel (level rs rv carry : Nat) : ChannelRec :=
  { level := level, established := true, carry := carry, rs := rs, rv := rv, dv := 42, levelState := .normal }

def withChannels (r : ChannelRec) (s : State) : State := { s with ledger := { s.ledger with chan := Six.const r } }

def withStation (f : Station → Station) (s : State) : State := { s with station := f s.station }

def withFeed (f : Feed → Feed) (s : State) : State := { s with feed := f s.feed }

def withPump (p : Pump) (s : State) : State := { s with manifold := { s.manifold with pump := p } }

def loaded : RollRec := { state := .loaded, described := true, media := 1, width := 610, remaining := some 30000000 }

def threaded : RollRec := { loaded with state := .threaded }

/-- The path IDLE on the upper roll. -/
def idlePath (s : State) : State :=
  withFeed (fun f => { f with path := .idle, pathRoll := some .upper, roll := ⟨threaded, RollRec.absent⟩ })
    { s with pins := { s.pins with paper := true, thread := true, rollPresent := ⟨true, false⟩ } }

def feedOp (k : FeedKind) (p : Purpose) : FeedOp :=
  { kind := k, purpose := p, length := 20000, sheet := 1, ticket := 5, target := none, stage := none, left := 0,
    cutterLeft := false, orphan := false }

/-- An order of origin ITEM for H1 stands. -/
def order (k : OrderKind) : Order :=
  { kind := k, mask := onlyHead .h1, drops := 16, origin := some .item, left := 0 }

/-- A genuine 700 mL tank of ch2 with marks 0..46 set (3.3, worked example). -/
def tank : Chip :=
  { identity := { kind := 1, colour := 3, capCode := 2, lot := 7, serial := 9 }, marks := BitVec.ofNat 128 (2 ^ 47 - 1),
    latched := false, busyLeft := 0, answering := true }

/-- Slot 3, which the default map gives ch2, holds the tank, and the link runs a job for it. -/
def linked (j : LinkJob) (r : LinkRun) (x : SlotState) : State :=
  { State.reset with
    pins := { Pins.reset with slotPresent := (Eight.const false).set .s3 true }
    chips := { slot := (Eight.const none).set .s3 (some tank), waste := none }
    supply := { Supply.reset with
      slot := (Eight.const SlotRec.cleared).set .s3 { SlotRec.cleared with state := x, marks := 46, capacity := 700000000 }
      link := { jobs := [j], run := some r, draining := false } } }

/-- The active item stands at a stage, the rest of its stages after it. -/
def withActive (w : Work) (stages : List Stage) (s : State) : State :=
  { s with service := { s.service with active := some { item := { born := 0, work := w, skip := .none }, stages := stages } } }

/-- A CLEAN of H1 at level 2. -/
def clean (o : CleanOrigin) (attempt : Nat) : Work := .clean .h1 2 o .now attempt

/-- A SPIT and a CHECK of H1 wait. -/
def withQueue (s : State) : State :=
  { s with service := { s.service with
    queue := [⟨1, .check (onlyHead .h1), .none⟩, ⟨2, .spit (onlyHead .h1), .none⟩], nextBorn := 3 } }

/-- A READY cartridge of 110 mL with marks 0..k-1 set. -/
def withCartridge (k : Nat) (s : State) : State :=
  { s with
    pins := { s.pins with wastePresent := true }
    supply := { s.supply with waste := { state := .ready, wcap := 110000000, marks := k, nearFull := false } } }

/-- The path UNTHREADED with a LOADED upper roll of remaining n, and an examination due. -/
def withRoll (n : Nat) (s : State) : State :=
  { withFeed (fun f => { f with roll := ⟨{ loaded with remaining := some n }, RollRec.absent⟩ }) s with
    pins := { s.pins with rollPresent := ⟨true, false⟩ }
    due := { s.due with examine := true } }

/-- What a step of the sheet queue leaves of the sheets' states. -/
def sheetStates (s : Option State) : Option (List SheetState) := s.map fun t => t.sheets.queue.map Sheet.state

/-! ### WellFormed refuses -/

theorem smoke_ports : ([.frameError .rp 0, .unknownCommand .cp ⟨0x40, 0⟩, .unknownCommand .cp ⟨0x06, 3⟩, .unknownCommand .pp ⟨0x6C, 0⟩,
    .unknownCommand .pp ⟨256, 0⟩, .tableSel .pp 256 0, .tableSel .pp 1 65536] : List Instr).all (fun c => !c.wellFormed) = true := by decide +kernel

theorem smoke_sheets : ([.sheetOpen .rp 256 1 600 0 20 30 5 0, .sheetOpen .rp 2 256 600 0 20 30 5 0,
    .sheetOpen .rp 2 1 65536 0 20 30 5 0, .sheetOpen .rp 2 1 600 65536 20 30 5 0, .sheetOpen .rp 2 1 600 0 65536 30 5 0,
    .sheetOpen .rp 2 1 600 0 20 65536 5 0, .sheetOpen .rp 2 1 600 0 20 30 65536 0, .sheetOpen .rp 2 1 600 0 20 30 5 256,
    .sheetClose .rp 256 0, .sheetClose .rp 1 65536, .sheetCancel .rp 256, .dryTimerExpiry 256] : List Instr).all
      (fun c => !c.wellFormed) = true := by decide +kernel

theorem smoke_swaths : ([.swathAsk .rp 256 0 1 0 [], .swathAsk .rp 1 65536 1 0 [], .swathAsk .rp 1 0 16777216 0 [],
    .swathAsk .rp 1 0 1 2 [(0, 1)], .swathAsk .rp 1 0 1 7 [(0, 1)], .swathAsk .rp 1 0 1 256 [],
    .swathAsk .rp 1 0 1 1 [(256, 1)], .swathAsk .rp 1 0 1 1 [(0, 4294967296)], .swathWithdraw .rp 256, .swathTake .cp 256,
    .swathDone .cp 256 0 [], .swathDone .cp 5 1 []] : List Instr).all (fun c => !c.wellFormed) = true := by decide +kernel

theorem smoke_orders : ([.parkState .cp 256, .orderDone .cp 256 0 [] [], .orderDone .cp 1 1 [] [],
    .orderDone .cp 1 0 [] [⟨0, 0, 0, []⟩], .orderDone .cp 2 0 [(0, 1)] [], .orderDone .cp 2 1 [] [],
    .orderDone .cp 2 7 [] [⟨0, 0, 0, []⟩], .orderDone .cp 2 1 [] [⟨256, 0, 0, []⟩], .orderDone .cp 2 1 [] [⟨0, 256, 0, []⟩],
    .orderDone .cp 2 1 [] [⟨0, 0, 2, [1]⟩], .orderDone .cp 2 1 [] [⟨0, 0, 65, [1]⟩],
    .orderDone .cp 2 1 [] [⟨0, 0, 1, [65536]⟩], .orderDone .cp 2 2 [] [⟨0, 0, 65, []⟩, ⟨1, 0, 0, []⟩],
    .orderDone .cp 3 1 [] []] : List Instr).all (fun c => !c.wellFormed) = true := by decide +kernel

theorem smoke_panel : ([.configSet .pp 256 0 0, .configSet .pp 1 256 0, .configSet .pp 1 1 4294967296,
    .slotMapSet .pp ⟨256, 0, 0, 0, 0, 0, 0, 0⟩, .tankAccept .pp 256 1, .tankAccept .pp 0 65536, .levelRestore .pp 256 0,
    .levelRestore .pp 0 4294967296, .retiredRestore .pp 256 0 [], .retiredRestore .pp 0 2 [1], .retiredRestore .pp 0 17 [1],
    .retiredRestore .pp 0 1 [65536], .rollLoad .pp 256 1 600 0, .rollLoad .pp 0 256 600 0, .rollLoad .pp 0 1 65536 0,
    .rollLoad .pp 0 1 600 16777216, .cleanAsk .pp 256 0 0, .cleanAsk .pp 1 256 0, .cleanAsk .pp 1 1 256,
    .slotTankArrival .s0 { tank with busyLeft := 1 }, .slotTankArrival .s0 { tank with latched := true },
    .wasteCartridgeArrival { tank with busyLeft := 1 }, .wasteCartridgeArrival { tank with latched := true }] : List Instr).all
      (fun c => !c.wellFormed) = true := by decide +kernel

/-- 10.7: the codes that a port carries are those of the table's rows for it. -/
theorem smoke_port_codes : ([.rp, .cp, .pp] : List Port).all (fun p => (List.range 256).all fun n =>
    portCarries p n == ([Cmd.getStatus, Cmd.getReply, Cmd.getEvents, Cmd.setEventMask, Cmd.tableSel, Cmd.tableRead,
      Cmd.sheetOpen, Cmd.sheetClose, Cmd.sheetCancel, Cmd.swathAsk, Cmd.swathWithdraw, Cmd.swathTake, Cmd.swathDone,
      Cmd.parkState, Cmd.getOrder, Cmd.orderDone, Cmd.go, Cmd.configSet, Cmd.configLock, Cmd.slotMapSet, Cmd.tankAccept,
      Cmd.levelRestore, Cmd.retiredRestore, Cmd.rollLoad, Cmd.cleanAsk, Cmd.feedClear, Cmd.stationClear, Cmd.sleepNow,
      Cmd.hubReset].any fun c => c.code == n && c.ports p)) = true := by decide +kernel

/-! ### Worked examples of the manual -/

/-- R19: ch2, dv = 42, q = 7,500, 3,050,123 drops, and the spit of 8,192 drops that follows. -/
theorem test_convert : convert 3050123 42 7500 = (12811, 2666) ∧ convert 8192 42 2666 = (34, 6730) := by decide +kernel

/-- R21: the margin's rounding, the ledger example's ask, and the largest base. -/
theorem test_need : needOf 3100000 42 10 = 14322 ∧ ceilDiv (12345 * (100 + 10)) 100 = 13580 ∧
    needOf 4294967295 255 0 = 109521667 := by decide +kernel

/-- R26: the spit parts at the defaults and at the largest drops and drop volume. -/
theorem test_spit_part : spitPartOf 16 42 = 35 ∧ spitPartOf 64 255 = 836 := by decide +kernel

/-- Chapter 2, "one swath through the ledger": T5 settles against q = 5,500. -/
theorem test_swath_done : after (.swathDone .cp 5 1 [(2, 3050123)])
    (withTicket .firing (withSheet .printing (withChannels (channel 7998303 14322 0 5500) running)))
    (fun t => let r := t.ledger.chan.get .ch2
      decide (r.level = 7985492 ∧ r.rs = 0 ∧ r.carry = 666) && t.tickets.queue.isEmpty) = true := by decide +kernel

/-- R43: a 700 mL tank with marks 0..46 set. -/
theorem test_identify : (State.reset.applyTank .s3 tank.identity tank.marks).supply.slot.get .s3 =
    { SlotRec.cleared with
      state := .active, identity := some tank.identity, capacity := 700000000, marks := 47, drawn := 257031250 } := by
  decide +kernel

/-- R102: the sheet demand, and that of an open-length sheet with the default minimum open length. -/
theorem test_sheet_demand : running.sheetDemand (sheet .queued) = 1310000 ∧
    running.sheetDemand { sheet .queued with planned := 0 } = 610000 := by decide +kernel

/-- R106: with 1,200,000 µm committed the final lengths accepted run from 1,200 to 1,670 mm. -/
theorem test_final_bounds : ([1199, 1200, 1670, 1671].map fun n =>
    running.finalOutOfBounds { sheet .printing with planned := 0, printed := 1200000 } n) = [true, false, false, true] := by
  decide +kernel

/-- R154: the report of 300, 88, 451, 300 and 12 on ch2, and a later one of 88 alone. -/
theorem test_check_report :
    let r : NozzleRec := { dead := [⟨12, 1⟩, ⟨88, 3⟩, ⟨300, 2⟩], retired := [451], overflow := false, grade := .fair }
    (r.applyReport [300, 88, 451, 300, 12] false).dead = [⟨12, 2⟩, ⟨88, 3⟩, ⟨300, 3⟩] ∧
      ((r.applyReport [300, 88, 451, 300, 12] false).applyReport [88] false).dead = [⟨88, 3⟩] := by decide +kernel

/-- R173: three tickets queued, 110 bytes read from place 0: the cursor stands at place 3. -/
theorem test_table_read : after (.tableRead .rp (.rise 880))
    { running with
      tickets := { running.tickets with queue := [ticket .queued, ticket .queued, ticket .queued] }
      ports := { running.ports with rp := { PortRec.reset with cursor := some { table := .ticket, place := 0 } } } }
    (fun t => decide ((t.ports.get .rp).cursor = some { table := .ticket, place := 3 } ∧
      (t.ports.get .rp).out.length = 111)) = true := by decide +kernel

/-- R162, R173: seven bytes of the health table, and then the other three of ch0's entry as they were captured and ch1's as it
has become meanwhile. -/
theorem test_table_read_between :
    let s := fun r => { running with
      ports := { running.ports with pp := { PortRec.reset with cursor := some ⟨.health, 0⟩, reading := r } } }
    let changed := { s (some (.table [0, 0, 0])) with
      ports := { running.ports with
        pp := { PortRec.reset with cursor := some ⟨.health, 1⟩, reading := some (.table [0, 0, 0]), out := [0], outBits := 8 } }
      nozzles := { Nozzles.reset with
        chan := Six.const { dead := [], retired := [7], overflow := true, grade := .poor }, generation := 1 } }
    after (.tableRead .pp (.hold 7)) (s none) (fun t => decide ((t.ports.get .pp).reading = some (.table [0, 0, 0]) ∧
      (t.ports.get .pp).cursor = some ⟨.health, 1⟩ ∧ (t.ports.get .pp).out = [0, 1, 0, 0, 0, 0, 1, 0])) = true ∧
    after (.tableRead .pp (.rise 64)) changed (fun t => decide ((t.ports.get .pp).cursor = some ⟨.health, 3⟩ ∧
      (t.ports.get .pp).out = [0, 0, 0, 0, 1, 0, 1, 1, 2])) = true := by decide +kernel

/-- R175, its example: what is latched between the capture of {TICKET_GRANTED} and the rise stays, a second TICKET_GRANTED
too. -/
theorem test_events_between :
    let s := State.raise { running with ports := { running.ports with
      cp := { PortRec.reset with events := 4, out := [0, 0], outBits := 16, reading := some (.events 4 0 1) } } } .grantWithdrawn
    after (.getEvents .cp (.rise 16)) s (fun t => decide ((t.ports.get .cp).events = 8 ∧
      (t.ports.get .cp).out = [0, 0, 0, 4])) = true ∧
    after (.getEvents .cp (.rise 16)) (s.raise .ticketGranted) (fun t => (t.ports.get .cp).events == 12) = true := by
  decide +kernel

/-- R104 and "Arrivals that meet at a sheet": a sheet chooses again where its roll is removed before the swap is taken, one that
a longer minimum open length has made too short meanwhile too. -/
theorem test_removal_chooses_again :
    let s := fun upper => { withFeed (fun f => { f with path := .fault, cause := .jam, roll := ⟨upper, { loaded with remaining := some 5 }⟩ })
      running with
      sheets := { running.sheets with queue := [{ sheet .loading with roll := some .lower, loadStep := some .swap }] }
      pins := { running.pins with rollPresent := Two.const true } }
    let chosen := fun (u : State) => u.sheets.queue.map fun x => (x.roll, x.loadStep)
    after (.rollRemoval .lower) (s RollRec.absent) (fun u => chosen u == [(some .lower, some .noMedia)]) = true ∧
      after (.rollRemoval .lower) (s loaded) (fun u => chosen u == [(some .upper, some .swap)]) = true := by decide +kernel

/-- R101, R104, R112: a FEED_CLEAR that changes no roll record has no sheet examined, and none choose again: neither a QUEUED
one that waits, with a shorter minimum open length meanwhile, nor one in SWAP whose roll a longer one has made too short. -/
theorem test_clear_reports_nothing :
    let fault := fun q lower => { withFeed (fun f => { f with path := .fault, cause := .jam, roll := ⟨threaded, lower⟩ })
      (idlePath running) with sheets := { running.sheets with queue := q } }
    after (.feedClear .pp) (fault [{ sheet .drying with id := 2, cut := .noCut, dryLeft := 9 }, sheet .queued] RollRec.absent)
      (fun u => u.sheets.queue.map Sheet.state == [.drying, .queued]) = true ∧
    after (.feedClear .pp) (fault [{ sheet .loading with roll := some .lower, loadStep := some .swap }]
        { loaded with remaining := some 1309999 })
      (fun u => u.feed.path == .swapping && u.sheets.queue.map Sheet.loadStep == [some .swap]) = true := by decide +kernel

/-- R63, R105: an advance that runs for a ticket withdrawn meanwhile still counts: with 1,180 mm printed of 1,200 and 20 mm
running, an ask for a micrometre more is refused. -/
theorem test_committed_running :
    let s := { withFeed (fun f => { f with path := .advancing, op := some (feedOp .advance .ticket) }) (idlePath running) with
      sheets := { running.sheets with queue := [{ sheet .printing with printed := 1180000 }] } }
    after (.swathAsk .rp 1 0 1 0 []) s (fun t => (t.ports.get .rp).reply.outcome == .badOperand) = true ∧
    after (.swathWithdraw .rp 5) { s with tickets := { s.tickets with queue := [{ ticket .queued with adv := .running }] } }
      (fun t => t.tickets.queue.isEmpty && t.committed (sheet .printing) == 20000) = true := by decide +kernel

/-- R48, default map of R39, and code 0FFh for NONE. -/
theorem test_map : mapOf? ⟨0, 0, 1, 2, 3, 4, 5, 1⟩ = some defaultMap ∧ mapEntry? 255 = some none ∧ mapEntry? 6 = none := by
  decide +kernel

/-- R51: a MARK on a chip with marks 0..46 sets mark 47 and starts the write cycle of 5 ms. -/
theorem test_chip_mark : (chipRespond { tank with latched := true } .mark).1 =
    { tank with latched := true, marks := BitVec.ofNat 128 (2 ^ 48 - 1), busyLeft := 5 } := by decide +kernel

/-- 10.4: the entry lengths of the twelve tables. -/
theorem test_entry_lengths : ([TableId.channel, .slot, .linkJob, .ticket, .sheet, .outcome, .roll, .station, .service, .health,
    .dead, .retired].map TableId.entryLength) = [25, 31, 6, 28, 52, 30, 10, 31, 10, 5, 4, 3] := by decide +kernel

/-- R179: GO enters RUN and answers ACCEPTED. -/
theorem test_go : after (.go .pp) State.reset (fun t => decide (t.mode.mode = .run ∧ t.mode.idleSleepLeft = some 900000 ∧
    (t.ports.get .pp).reply = ⟨1, 0x60, .accepted, 0⟩)) = true := by decide +kernel

/-- R165: FRAME_ERROR is position 1 of the event set, beside RESET_SEEN at position 0. -/
theorem test_frame_error : after (.frameError .cp 3) State.reset (fun t =>
    decide ((t.ports.get .cp).events = 3 ∧ (t.ports.get .rp).events = 1)) = true := by decide +kernel

/-- R167: SHEET_OPEN that rises on the Carriage Port after three operand bytes is NOT_THIS_PORT, and 0FEh is no command. -/
theorem test_misplaced : after (.unknownCommand .cp ⟨0x20, 3⟩) State.reset (fun t =>
      decide ((t.ports.get .cp).reply = ⟨1, 0x20, .notThisPort, 0⟩ ∧ (t.ports.get .cp).out = [0, 0, 0, 0])) = true ∧
    after (.unknownCommand .cp ⟨0xFE, 0⟩) State.reset (fun t =>
      decide ((t.ports.get .cp).reply = ⟨1, 0xFE, .unknownCommand, 0⟩)) = true := by decide +kernel

/-- R51: a chip that arrives holds no latch and runs no write cycle. -/
theorem test_chip_loses_latch : after (.slotTankArrival .s3 { tank with latched := true, busyLeft := 5 }) State.reset
    (fun t => decide (t.chips.slot.get .s3 = some tank)) = true := by decide +kernel

/-- R94: FEED_CLEAR with no media at the paper-end sensor leaves the roll EMPTY with the remaining it had. -/
theorem test_clear_keeps_remaining : after (.feedClear .pp)
    { withFeed (fun f => { f with path := .fault, cause := .jam }) (idlePath running) with
      pins := { (idlePath running).pins with paper := false } }
    (fun t => decide (t.feed.roll.get .upper = { threaded with state := .empty })) = true := by decide +kernel

/-- R101, R112, R183: a shorter minimum open length has a HELD head examined again, and not a QUEUED one that waits. -/
theorem test_min_open :
    let s := fun x => { withSheet x (idlePath running) with
      sheets := { running.sheets with queue := [{ sheet .drying with id := 2, cut := .noCut, dryLeft := 9 },
        { sheet x with planned := 0 }] } }
    let t := fun x => { withFeed (fun f => { f with roll := ⟨{ threaded with remaining := some 310000 }, RollRec.absent⟩ }) (s x) with
      due := { running.due with examine := false } }
    after (.configSet .pp 17 0 200) (t .held) (fun u => u.sheets.queue.map Sheet.state == [.drying, .loading]) = true ∧
    after (.configSet .pp 17 0 200) (t .queued) (fun u => u.sheets.queue.map Sheet.state == [.drying, .queued]) = true := by
  decide +kernel

/-- R117: a cap move toward an end that the sensor already shows completes at once. -/
theorem test_cap_at_once : (withStation (fun t => { t with state := .opened })
    (withActive (clean .panel 1) [.cap, .suction, .uncap, .wipe, .spit, .check] running)).driveStage.any
      (fun t => t.station.state == .capped && t.station.move.isNone) = true := by decide +kernel

/-- R148: an item that is given back keeps its last skip. -/
theorem test_given_back :
    (State.giveBack { running with service := { running.service with
      active := some { item := ⟨4, .spit (onlyHead .h1), .waste⟩, stages := [.spit] } } }).service.queue =
        [⟨4, .spit (onlyHead .h1), .waste⟩] := by decide +kernel

/-- Opcode table: no row gives bits, so no word spells a command. -/
theorem test_no_words : decodeTableWord 8 0x60 = none := by decide +kernel

/-! ### Witnesses: the machine and the ports -/

theorem wit_StepTakesFront : ({ running with pending := [.endOfMove, .strokeTimerExpiry] } : State).pending =
    .endOfMove :: [.strokeTimerExpiry] := by decide +kernel

theorem wit_TakenWriteReplies : (Instr.hubReset .pp .parked).write? = some (.pp, Cmd.hubReset) ∧
    State.reset.Takes .pp Cmd.hubReset ∧ State.reset.inStart = true := by
  exact ⟨rfl, by decide +kernel, by decide +kernel⟩

theorem wit_RefusedWriteChangesNothing : (Instr.hubReset .pp .parked).write? = some (.pp, Cmd.hubReset) ∧
    State.reset.Awake ∧ after (.hubReset .pp .parked) State.reset
      (fun t => (t.ports.get .pp).reply.outcome.refuses) = true := by
  exact ⟨rfl, by decide +kernel, by decide +kernel⟩

theorem wit_TestsBeforeTheOwningRule : running.Awake ∧ (Instr.go .rp).write? = some (.rp, Cmd.go) ∧
    Cmd.go.ports .rp = false ∧ Cmd.go.ports .pp = true ∧ sleeping.pins.resetLow = false ∧ sleeping.inSleep = true ∧
    table? 1 = some .channel ∧ TableId.channel.on .rp = false ∧ 0x6C ∈ commandCodes ∧ 0x6D ∉ commandCodes ∧
    (sleeping.ports.get .rp).reading = none ∧
    (({ running.ports with rp := { PortRec.reset with reading := some .asleep } }).get .rp).reading = some .asleep ∧
    after (.getEvents .rp (.rise 24)) { running with ports := { running.ports with
      rp := { PortRec.reset with reading := some .asleep } } } (fun t => decide ((t.ports.get .rp).reply = ⟨1, 3, .asleep, 0⟩ ∧
        (t.ports.get .rp).events = 1)) = true := by
  exact ⟨by decide +kernel, rfl, rfl, rfl, by decide +kernel, by decide +kernel, rfl, rfl, by decide, by decide, rfl, rfl,
    by decide +kernel⟩

theorem wit_StatusAndOrderAreSent : sleeping.pins.resetLow = false ∧ running.Takes .cp Cmd.getOrder := by decide +kernel

theorem wit_GetReplySendsRecord : State.reset.Takes .rp Cmd.getReply := by decide +kernel

/-- A read of 23 bits keeps RESET_SEEN, one of 24 removes it, in two parts too. -/
theorem wit_EventsAreReadAndMasked : State.reset.Takes .pp Cmd.getEvents ∧ State.reset.Takes .pp Cmd.setEventMask ∧
    (State.reset.ports.get .pp).reading = none ∧ after (.getEvents .pp (.rise 23)) State.reset (fun t => (t.ports.get .pp).events == 1) = true ∧
    after (.getEvents .pp (.rise 24)) State.reset (fun t => (t.ports.get .pp).events == 0) = true ∧
    after (.getEvents .pp (.hold 2)) State.reset (fun t => decide ((t.ports.get .pp).reading = some (.events 1 0 2))) = true ∧
    (let s := { State.reset with ports := { State.reset.ports with
      pp := { PortRec.reset with reading := some (.events 1 0 2) } } }
    after (.getEvents .pp (.rise 7)) s (fun t => (t.ports.get .pp).events == 1) = true ∧
    after (.getEvents .pp (.rise 8)) s (fun t => (t.ports.get .pp).events == 0) = true) ∧
    after (.setEventMask .pp (BitVec.allOnes 24)) State.reset (fun t => (t.ports.get .pp).mask == 0x7FFFFF && t.attention .pp) =
      true := by decide +kernel

theorem wit_TableSelSetsCursor : running.Takes .rp Cmd.tableSel ∧ table? 4 = some .ticket ∧ TableId.ticket.on .rp = true ∧
    TableId.ticket.places < 9 ∧ 8 ≤ TableId.ticket.places ∧ table? 12 = some .retired ∧ table? 1 = some .channel ∧
    TableId.channel.on .rp = false := by decide +kernel

theorem wit_TableReadStreamsEntries : running.Takes .rp Cmd.tableRead ∧ (running.ports.get .rp).cursor = none ∧
    (({ running.ports with rp := { PortRec.reset with cursor := some ⟨.ticket, 5⟩ } }).get .rp).cursor = some ⟨.ticket, 5⟩ ∧
    5 + 3 ≤ TableId.ticket.places ∧
    after (.tableRead .rp (.rise (8 * (28 * 3) + 223))) { running with ports := { running.ports with
        rp := { PortRec.reset with cursor := some ⟨.ticket, 5⟩ } } }
      (fun t => decide ((t.ports.get .rp).cursor = some ⟨.ticket, 8⟩ ∧ (t.ports.get .rp).out.length = 1 + 28 * 4)) = true ∧
    after (.tableRead .rp (.rise (8 * 28 + 1))) { running with ports := { running.ports with
        rp := { PortRec.reset with cursor := some ⟨.ticket, 8⟩ } } }
      (fun t => decide ((t.ports.get .rp).cursor = some ⟨.ticket, 8⟩ ∧
        (t.ports.get .rp).out = 0 :: List.replicate 28 0xFF ++ [0x80])) = true ∧
    (running.ports.get .rp).reading = none ∧
    (let s := { running with ports := { running.ports with
      rp := { PortRec.reset with cursor := some ⟨.ticket, 7⟩, reading := some (.table [1, 2]) } } }
    ((s.ports.get .rp).reading = some (.table [1, 2]) ∧ (s.ports.get .rp).cursor = some ⟨.ticket, 7⟩ ∧ 2 < 28) ∧
    after (.tableRead .rp (.hold 1)) s (fun t => decide ((t.ports.get .rp).reading = some (.table [2]) ∧
      (t.ports.get .rp).cursor = some ⟨.ticket, 7⟩)) = true ∧
    after (.tableRead .rp (.hold 2)) s (fun t => decide ((t.ports.get .rp).reading = some (.table []) ∧
      (t.ports.get .rp).cursor = some ⟨.ticket, 8⟩)) = true ∧
    after (.tableRead .rp (.hold 3)) s (fun t => decide ((t.ports.get .rp).reading =
      some (.table (List.replicate 27 0xFF)) ∧ (t.ports.get .rp).out = [1, 2, 0xFF])) = true) := by decide +kernel

theorem wit_PortRecordsArePrivate : (Instr.go .pp).port? ≠ some .rp ∧
    after (.go .pp) State.reset (fun t => t.inRun) = true := by
  exact ⟨by decide, by decide +kernel⟩

/-! ### Witnesses: sheets and tickets -/

theorem wit_NumbersAreFirstFree : (withTicket .queued (withSheet .printing running)).QueuesFit := by
  unfold State.QueuesFit; decide +kernel

theorem wit_SheetOpenAppends : running.Takes .rp Cmd.sheetOpen ∧ running.inRun = true ∧ rollPref? 2 = some .any ∧
    cutMode? 1 = some .noCut ∧ running.sheets.queue.length < 4 := by decide +kernel

/-- A demand of 1,310 mm that the roll covers, or misses by a micrometre; an older sheet that dries and a CUT one. -/
theorem wit_HeadSheetLoads :
    let s := fun x n => withRoll n (withSheet x running)
    let queued := fun (q : List Sheet) (t : State) => { t with sheets := { t.sheets with queue := q } }
    let dries := fun c n => queued [{ sheet .drying with id := 2, cut := c, dryLeft := 5 }, sheet .queued] (withRoll n running)
    let thread := fun n (t : State) => withFeed (fun f =>
      { f with path := .idle, pathRoll := some .upper, roll := ⟨{ threaded with remaining := some n }, RollRec.absent⟩ }) t
    let loading := fun g t => queued [{ sheet .loading with roll := some .upper, loadStep := some g }] t
    sheetStates (s .queued 1310000).examine = some [.loading] ∧ sheetStates (s .queued 1309999).examine = some [.held] ∧
      sheetStates (s .held 1309999).examine = some [.held] ∧
      sheetStates (thread 1310000 (dries .noCut 0)).examine = some [.drying, .loading] ∧
      sheetStates (thread 1309999 (dries .noCut 0)).examine = some [.drying, .queued] ∧
      sheetStates (dries .cut 1310000).examine = some [.drying, .queued] ∧
      (thread 1310000 (loading .swap running)).sheetAsks.any (fun t => t.sheets.queue.map Sheet.loadStep == [some .margin]) =
        true ∧
      (thread 1310000 (loading .margin running)).sheetAsks.any (fun t => t.feed.path == .advancing) = true ∧
      ({ loading .swap (withRoll 1310000 running) with
        pins := { running.pins with thread := true } } : State).sheetAsks.any (fun t => t.feed.path == .swapping) = true ∧
      (loading .swap (withRoll 1310000 running)).sheetAsks.any (fun t => t.feed.op.any fun o => o.stage == some .thread) =
        true ∧
      (let lost := fun n => ({ loading .swap (withRoll 1309999 running) with
        due := { running.due with rolls := some ⟨{ loaded with remaining := some n }, RollRec.absent⟩ } } : State)
      (lost 1310000).rollsChanged.any (fun t => t.sheets.queue.map Sheet.loadStep == [some .noMedia]) = true ∧
      (lost 1309999).rollsChanged.any (fun t => t.sheets.queue.map Sheet.loadStep == [some .swap]) = true ∧
      (lost 1309998).rollsChanged.any (fun t => t.sheets.queue.map Sheet.loadStep == [some .swap]) = true ∧
      (withFeed (fun f => { f with roll := Two.const RollRec.absent }) (lost 1309999)).rollsChanged.any (fun t =>
        t.sheets.queue.map Sheet.loadStep == [some .noMedia]) = true) ∧
      (loading .swap running).rollsChanged = none := by decide +kernel

/-- The operands at their bounds: no final length, and the largest one that 1,200 mm committed allow; and a sheet cancelled
while it waits, and while a ticket of it is FIRING. -/
theorem wit_SheetCloseAndCancelApply :
    (let s := withSheet .printing running
    let h := sheet .printing
    s.Takes .rp Cmd.sheetClose ∧ s.inRun = true ∧ s.findSheet 1 = some h ∧ h.cut = .cut ∧ s.committed h ≤ 470 * 1000 ∧
      470 * 1000 ≤ s.committed h + (500 - h.bottom) * 1000 ∧ 470 ≤ h.planned) ∧
    (withSheet .held running).Takes .pp Cmd.sheetCancel ∧ (withSheet .held running).findSheet 1 = some (sheet .held) ∧
    (withTicket .firing (withSheet .closing running)).Takes .rp Cmd.sheetCancel ∧
    (withTicket .firing (withSheet .closing running)).findSheet 1 = some (sheet .closing) := by decide +kernel

/-- A sheet that dries between an older one that dries on and a younger one that waits. -/
theorem wit_DryTimerEnds :
    let older := [{ sheet .drying with id := 2, cut := CutMode.noCut, dryLeft := 1 }]
    let younger := [{ sheet .queued with id := 3 }]
    let s := { idlePath running with sheets := { running.sheets with queue := older ++ sheet .drying :: younger } }
    s.pins.resetLow = false ∧ s.inRun = true ∧ ((older ++ younger).all fun x => x.id != 1 && !s.closingDone x &&
      x.state != .cancelling && (x.state != .drying || x.dryLeft != 0)) = true ∧
      after (.dryTimerExpiry 1) s (fun t => t.sheets.queue.map Sheet.state == [.drying, .cutting, .queued]) = true := by
  decide +kernel

/-- The room of a SPIT of H1, 35 nL a channel and 70 nL of waste, to the nanolitre. -/
theorem wit_NeedsAndRoom :
    let s := fun n k => withCartridge k (withChannels (channel n 0 0 0) running)
    let w := Work.spit (onlyHead .h1)
    9999 < 10000 ∧ (s 1500035 1).serviceFits w = true ∧ (s 1500034 1).serviceFits w = false ∧
      (s 1500035 0).serviceFits w = false ∧ (s 0 0).serviceFits (.check (onlyHead .h1)) = true ∧
      w.reservesInk = true ∧ w.heads.get Channel.ch2.head = true := by decide +kernel

theorem wit_SwathAskAppends :
    let s := withChannels (channel 8000000 0 0 0) (withSheet .loading running)
    let h := sheet .loading
    s.Takes .rp Cmd.swathAsk ∧ s.inRun = true ∧ pairsLegal 1 [(2, 3100000)] = true ∧ s.findSheet 1 = some h ∧
      s.tickets.queue.length < 8 ∧
      (Channel.all.all fun c => decide (needOf ((pairCounts [(2, 3100000)]).get c) (s.ledger.chan.get c).dv s.params.margin ≤
        12000000 - s.params.floor - s.params.reserve)) = true ∧
      s.committed h + 100000 ≤ h.planned * 1000 ∧ s.service.failed = Three.const false := by decide +kernel

/-- A ticket with the room it needs, to the nanolitre, and one that lacks it by one. -/
theorem wit_PassReservesOldestQueued :
    let s := fun n => { withTicket .queued (withChannels (channel n 0 0 0) running) with
      due := { running.due with pass := true } }
    (s 2714322).due.pass = true ∧ (s 2714322).tickets.queue.find? (fun x => x.state == .queued) = some (ticket .queued) ∧
      0 + 14322 + (s 2714322).params.floor + (s 2714322).params.reserve ≤ ((s 2714322).ledger.chan.get .ch2).volume ∧
      ((s 2714321).ledger.chan.get .ch2).volume < 0 + 14322 + (s 2714321).params.floor + (s 2714321).params.reserve := by
  decide +kernel

/-- A level and an exposure at the bounds of a grant, and one past each. -/
theorem wit_GrantsAreGivenAndWithdrawn :
    let s := fun x n e => withTicket x (withSheet .printing (withChannels (channel n 14322 0 0)
      (withStation (fun t => { t with state := .opened, exposure := Three.const e }) running)))
    ((s .reserved 1500001 7999).grantStep).isSome = true ∧ (s .reserved 1500000 0).grantStep = none ∧
      (s .reserved 8000000 8000).grantStep = none ∧ (s .granted 1500001 7999).withdrawStep = none ∧
      ((s .granted 1500000 0).withdrawStep).isSome = true ∧ ((s .granted 8000000 8000).withdrawStep).isSome = true ∧
      (s .firing 1500000 8000).withdrawStep = none := by decide +kernel

theorem wit_SwathWithdrawReleases :
    let s := withTicket .granted (withSheet .printing (withChannels (channel 8000000 14322 0 0) running))
    let r := { withFeed (fun f => { f with op := some (feedOp .advance .ticket) }) s with
      tickets := { s.tickets with queue := [{ ticket .reserved with adv := .running }] } }
    s.Takes .rp Cmd.swathWithdraw ∧ s.inRun = true ∧ s.tickets.queue.filter (fun x => x.number == 5) = [ticket .granted] ∧
      r.Takes .rp Cmd.swathWithdraw ∧ r.feed.op = some (feedOp .advance .ticket) ∧
      (feedOp .advance .ticket).purpose = .ticket ∧ (feedOp .advance .ticket).ticket = 5 ∧
      (feedOp .advance .ticket).length = (ticket .reserved).advance ∧ r.committed (sheet .printing) = 20000 := by
  decide +kernel

theorem wit_SwathsFireAndSettle :
    let g := withTicket .granted running
    let s := withTicket .firing running
    g.Takes .cp Cmd.swathTake ∧ g.inRun = true ∧ g.findTicket 5 = some (ticket .granted) ∧
    s.Takes .cp Cmd.swathDone ∧ s.inRun = true ∧ pairsLegal 1 [(2, 3050123)] = true ∧
      s.findTicket 5 = some (ticket .firing) ∧ s.tickets.queue.find? (fun x => x.state == .firing) = some (ticket .firing) := by
  decide +kernel

/-! ### Witnesses: the station and the service queue -/

theorem wit_ParkStateAndStationClearAct :
    let s := fun x => withStation (fun t => { t with state := .fault, cause := .sensor })
      { running with pins := { running.pins with cap := x } }
    State.reset.Takes .cp Cmd.parkState ∧ State.reset.station.state ≠ .opened ∧ State.reset.station.state ≠ .fault ∧
      (withStation (fun t => { t with state := .opened, order := order .park }) running).station.order.kind = .park ∧
      (s .capped).Takes .pp Cmd.stationClear ∧ (s .capped).station.state = .fault ∧ (s .opened).pins.cap = .opened ∧
      (s .between).pins.cap = .between := by decide +kernel

theorem wit_MovesEnd : (withStation (fun t => { t with state := .capping, move := some ⟨.cap, 0⟩ }) running).station.move =
      some ⟨.cap, 0⟩ ∧
    (withStation (fun t => { t with state := .uncapping, move := some ⟨.uncap, 0⟩ }) running).station.move =
      some ⟨.uncap, 0⟩ ∧
    (withStation (fun t => { t with state := .wiping, move := some ⟨.wipe, 0⟩ }) running).station.move = some ⟨.wipe, 0⟩ ∧
    running.station.move = none := by decide +kernel

theorem wit_ExposureAndCapDelayAct :
    let s := withStation (fun t => { t with state := .opened }) running
    let x := withStation (fun t => { t with spitSent := onlyHead .h1 }) s
    s.pins.resetLow = false ∧ s.inRun = true ∧ s.station.state = .opened ∧ s.station.spitSent.get .h1 = false ∧
      (Head.all.all fun h => !s.spitDueHead h && !s.cleanDueHead h) = true ∧ x.station.spitSent.get .h1 = true ∧
      x.station.cleanSent.get .h1 = false ∧ (Head.all.all fun h => !x.spitDueHead h && !x.cleanDueHead h) = true ∧
      s.service.active = none ∧ s.tickets.queue = [] ∧ s.service.queue = [] ∧ s.station.capDue = false := by
  decide +kernel

theorem wit_OrderTimerCountsFailure :
    (withStation (fun t => { t with state := .opened, order := order .spit, failures := 2 }) running).station.order.kind ≠
      .none := by decide +kernel

theorem wit_SpitsAndSuctionsSettle :
    let s := withStation (fun t => { t with state := .opened, order := order .spit }) running
    s.Takes .cp Cmd.orderDone ∧ s.inRun = true ∧ pairsLegal 2 [(2, 8192), (3, 8192)] = true ∧ s.station.order.kind = .spit ∧
      namesOutside s.station.order.mask [2, 3] = false ∧
      (withPump (.suction { head := .h2, level := 3, left := 0, orphan := false }) running).manifold.pump =
        .suction { head := .h2, level := 3, left := 0, orphan := false } := by decide +kernel

theorem wit_OrderDoneAppliesCheck :
    let s := withStation (fun t => { t with state := .opened, order := order .check }) running
    let reports : List CheckReport := [⟨2, 0, 1, [511]⟩, ⟨3, 1, 0, []⟩]
    s.Takes .cp Cmd.orderDone ∧ s.inRun = true ∧ checkLegal 2 reports = true ∧ s.station.order.kind = .check ∧
      namesOutside s.station.order.mask (reports.map CheckReport.channel) = false ∧
      checkIncomplete s.station.order.mask reports = false := by decide +kernel

theorem wit_CleanAskQueues : State.reset.Takes .pp Cmd.cleanAsk ∧ headMask? 7 = some (Three.const true) ∧
    headMask? 1 = some (onlyHead .h0) := by decide +kernel

/-- The SPIT goes first where it fits; where coverage is short it is passed over, and the CHECK starts in the sheet gap. -/
theorem wit_ServiceArbiterSelects :
    let s := fun k => { withQueue (withCartridge k (withChannels (channel 1500035 0 0 0) running)) with
      due := { running.due with arbiter := true } }
    (s 1).due.arbiter = true ∧ (s 1).inRun = true ∧ (s 1).service.active = none ∧ (s 1).tickets.queue = [] ∧
      (s 1).station.state = .capped ∧ ((s 1).service.queue.map Item.born).Nodup ∧ (s 1).activeSheet = none ∧
      (s 1).serviceArbiter.any (fun t => t.service.active.any fun a => a.item.born == 2) = true ∧
      (s 0).serviceArbiter.any (fun t => (t.service.active.any fun a => a.item.born == 1) &&
        t.service.queue.map Item.skip == [.waste]) = true ∧
      (withTicket .granted (s 1)).serviceArbiter.any (fun t => t.service.active.isNone) = true := by decide +kernel

/-- Each clause: the stage, the station's state and the carriage's place. -/
theorem wit_StagesAreDriven :
    let s := fun g x p (c : CapReading) => withStation (fun t => { t with state := x, park := p })
      (withActive (clean .panel 1) [g, .check] { running with pins := { running.pins with cap := c } })
    (s .park .opened .parked .opened).driveStage.isSome = true ∧
      (s .park .opened .away .opened).driveStage.any (fun t => t.station.order.kind == .park) = true ∧
      (s .cap .capped .parked .capped).driveStage.isSome = true ∧
      (s .suction .opened .parked .opened).driveStage.any (fun t => t.station.state == .capping) = true ∧
      (s .uncap .opened .parked .opened).driveStage.isSome = true ∧
      (s .spit .capped .parked .capped).driveStage.any (fun t => t.station.state == .uncapping) = true ∧
      (s .wipe .opened .parked .opened).driveStage.any (fun t => t.station.state == .wiping) = true ∧
      (s .suction .capped .parked .capped).driveStage.any (fun t => t.manifold.request.isSome) = true ∧
      (s .spit .opened .parked .opened).driveStage.any (fun t => t.station.order.kind == .spit) = true ∧
      (s .check .opened .parked .opened).driveStage.any (fun t => t.station.order.kind == .check) = true ∧
      (s .check .fault .parked .opened).driveStage = none := by decide +kernel

/-- A cleaning at its last stage that leaves ch2 POOR: the second attempt asks for a third, the third marks the head. -/
theorem wit_ItemsEndOrAreGivenBack :
    let poor : NozzleRec := { dead := [], retired := [], overflow := true, grade := .poor }
    let s := fun o n => withActive (clean o n) [.check] { running with nozzles := { running.nozzles with
      chan := running.nozzles.chan.set .ch2 poor } }
    (s .health 2).endStage.service.queue.map Item.work = [.clean .h1 3 .health .now 3] ∧
      (s .health 3).endStage.service.failed = onlyHead .h1 ∧ (s .panel 3).endStage.service.failed = Three.const false ∧
      (s .panel 1).service.active.isSome = true ∧ (s .health 1).giveBack.service.queue.length = 1 ∧
      (withActive (.check (onlyHead .h1)) [.check] running).endStage.service.active = none := by decide +kernel

theorem wit_CheckReportsAndRetirement :
    ({ dead := [⟨12, 1⟩, ⟨88, 3⟩], retired := [451], overflow := false, grade := .good } : NozzleRec).Legal := by
  unfold NozzleRec.Legal; decide +kernel

theorem wit_RetiredRestoreReplaces : State.reset.Takes .pp Cmd.retiredRestore ∧ State.reset.inStart = true ∧
    running.Takes .pp Cmd.retiredRestore ∧ running.inRun = true ∧ Channel.ofNat? 5 = some .ch5 ∧ Channel.ofNat? 6 = none ∧
    sleeping.inSleep = true ∧
    after (.retiredRestore .pp 5 16 ((List.range 16).map (496 + ·))) State.reset
      (fun t => (t.nozzles.chan.get .ch5).retired.getLast? == some 511) = true ∧
    after (.retiredRestore .pp 5 17 (List.range 17)) State.reset (fun t => (t.ports.get .pp).reply.outcome == .badOperand) = true ∧
    after (.retiredRestore .pp 5 1 [512]) State.reset (fun t => (t.ports.get .pp).reply.outcome == .badOperand) = true ∧
    after (.retiredRestore .pp 6 17 [512]) running (fun t => (t.ports.get .pp).reply.outcome == .wrongState) = true := by
  decide +kernel

/-! ### Witnesses: the manifold, the slots and the link -/

/-- ch2 with its ACTIVE tank of 700 mL, marks 0..45, and a drawn volume. -/
def drawing (drawn : Nat) (x : SessionState) (s : State) : State :=
  let r : SlotRec := { SlotRec.cleared with state := .active, marks := 46, capacity := 700000000, drawn := drawn }
  { s with
    supply := { s.supply with slot := s.supply.slot.set .s3 r }
    manifold := { s.manifold with session := s.manifold.session.set .ch2 { Session.reset with state := x } } }

/-- A stroke that the 46 marks cover to the nanolitre, 251,562,500 nL, and one past them. -/
theorem wit_RefillSessionsFollowTheirTests :
    let s := fun d x => drawing d x (withChannels (channel 5999999 0 0 0) running)
    (s 251312500 .idle).supply.activeSlot .ch2 = some .s3 ∧
      (((s 251312500 .idle).strokeTest .ch2).session .ch2).state = .want ∧
      (((s 251312501 .idle).strokeTest .ch2).session .ch2).state = .waitMark ∧
      (((s 251312501 .idle).strokeTest .ch2).session .ch2).target = 47 ∧
      (((s 700000000 .idle).strokeTest .ch2).session .ch2).state = .idle ∧
      ((s 251312500 .idle).sessionReacts .ch2).isSome = true ∧
      (drawing 0 .idle (withChannels (channel 6000000 0 0 0) running)).sessionReacts .ch2 = none ∧
      ((withPump (.suction { head := .h0, level := 2, left := 1, orphan := false }) (s 0 .suspended)).sessionReacts .ch2) = none ∧
      ((s 0 .suspended).sessionReacts .ch2).isSome = true ∧ ((s 0 .waitMark).sessionReacts .ch2).isSome = true ∧
      (((s 0 .stroke).afterStroke .ch2 true).session .ch2).state = .idle ∧
      (((s 0 .stroke).afterStroke .ch2 false).session .ch2).state = .want := by decide +kernel

/-- A FREE pump with ch2 in WANT, its probe dry and wet, a suction request, and a pump that is not FREE. -/
theorem wit_PumpArbiterServes :
    let s := drawing 251312500 .want (withChannels (channel 5999999 0 0 0) running)
    let req := some { head := Head.h0, level := 3 }
    s.manifold.pump = .free ∧ s.manifold.request = none ∧ (s.session .ch2).state = .want ∧
      Channel.next^[2 + 1] s.manifold.lastServed = .ch2 ∧
      s.pumpArbiter.any (fun t => t.manifold.pump != .free) = true ∧
      ({ s with pins := { s.pins with probeWet := Six.const true } } : State).pumpArbiter.any
        (fun t => (t.ledger.chan.get .ch2).level == 12000000) = true ∧
      ({ s with manifold := { s.manifold with request := req } } : State).pumpArbiter.any
        (fun t => t.manifold.pump == .suction { head := .h0, level := 3, left := 8000, orphan := false }) = true ∧
      running.pumpArbiter = none ∧ ((s.requestSuction .h0 3).session .ch2).state = .suspended := by decide +kernel

theorem wit_StrokesComplete :
    let r : StrokeRun := { channel := .ch2, volume := 250000, source := .s3, stands := true, left := 0 }
    let s := fun b => ({ drawing 0 .stroke running with
      due := { running.due with arbiter := b, stroke := some { channel := .ch2, tripped := true } } } : State)
    (withPump (.stroke r) running).pins.resetLow = false ∧ (withPump (.stroke r) running).manifold.pump = .stroke r ∧
      ((s false).session .ch2).state = .stroke ∧ (s false).due.arbiter = false ∧
      (s false).strokeStep.any (fun t => (t.session .ch2).state == .idle) = true ∧
      (s true).strokeStep.any (fun t => (t.session .ch2).state == .stroke) = true := by decide +kernel

/-- R14: the stroke of ch2 completes and its next one needs a mark; the re-attempted ticket fails on ch0, whose session asks
for its mark first. -/
theorem test_reattempt_precedes_session :
    let s := withTicket .queued (withPump (.stroke { channel := .ch2, volume := 250000, source := .s3, stands := true, left := 0 })
      (drawing 251312501 .stroke (withChannels (channel 7000000 0 0 0) running)))
    after .strokeTimerExpiry { s with
        tickets := { s.tickets with queue := [{ ticket .queued with need := (Six.const 0).set .ch0 9000000 }] }
        supply := { s.supply with
          slot := (s.supply.slot).set .s0 { SlotRec.cleared with state := .active, capacity := 700000000 } } }
      (fun t => t.supply.link.jobs.map (fun j => (j.pos, j.target)) == [(.slot .s0, 1), (.slot .s3, 47)]) = true := by
  decide +kernel

/-- R11, R55, R60: the answer that a soft reset waited for reaches the target of ch2's session, which takes a stroke and asks
for no job; with a target of one more it asks again behind the IDENTIFY job. -/
theorem test_emptying_after_reached_target :
    let run : LinkRun := { cmd := .mapRead, waiting := false, left := 1, ident := none, ending := false }
    let s := fun n =>
      let l := linked (LinkJob.mark (.slot .s3) 47) run .active
      { withChannels (channel 7000000 0 0 0) l with
        mode := running.mode
        supply := { l.supply with
          link := { l.supply.link with draining := true }
          slot := (l.supply.slot.set .s3 { l.supply.slot.get .s3 with drawn := 251312501 }).set .s5
            { SlotRec.cleared with state := .identifying } }
        manifold := { l.manifold with
          session := (l.manifold.session).set .ch2 { Session.reset with state := .waitMark, waitSlot := some .s3, target := n } } }
    after (.linkAnswer .clean) (s 47) (fun t => t.supply.link.jobs.map LinkJob.pos == [.slot .s5] &&
        (t.session .ch2).state == .stroke) = true ∧
      after (.linkAnswer .clean) (s 48) (fun t => t.supply.link.jobs.map LinkJob.pos == [.slot .s5, .slot .s3] &&
        (t.session .ch2).state == .waitMark) = true := by decide +kernel

/-- A cartridge's chip refused for its capacity code, READY with 127 marks and FULL with 128; and the waste accounted at
the near-full and the full volume. -/
theorem wit_WasteCartridgeIsJudged :
    let i := fun n => { kind := 2, colour := 0, capCode := n, lot := 1, serial := 1 : Identity }
    let u := fun n k => (running.applyIdentity .waste (i n) (BitVec.ofNat 128 (2 ^ k - 1))).supply.waste
    let s := fun k wa => ({ withCartridge k running with ledger := { running.ledger with wa := wa } } : State).refreshWaste
    (u 2 0).state = .refused ∧ (u 1 127).state = .ready ∧ (u 1 127).wcap = 220000000 ∧ (u 0 128).state = .full ∧
      (s 128 109999999).supply.waste.state = .ready ∧ (s 128 110000000).supply.waste.state = .full ∧
      (s 128 98999999).supply.waste.nearFull = false ∧ (s 128 99000000).supply.waste.nearFull = true ∧
      (s 64 55000000).ledger.uncovered = false ∧ (s 64 55000001).ledger.uncovered = true ∧
      (s 64 55000001).supply.link.jobs.map LinkJob.target = [65] ∧ running.WasteCurrent := by
  refine ⟨?_, ?_, ?_, ?_, ?_, ?_, ?_, ?_, ?_, ?_, ?_, ⟨?_, ?_, ?_⟩⟩ <;> decide +kernel

theorem wit_SuppliesComeAndGo : State.reset.Awake ∧ State.reset.pins.slotPresent.get .s7 = false ∧
    ({ State.reset.pins with slotPresent := Eight.const true }).slotPresent.get .s0 = true ∧
    State.reset.pins.wastePresent = false ∧ ({ State.reset.pins with wastePresent := true }).wastePresent = true := by
  decide +kernel

theorem wit_ChipsAnswerAndIdentify : tank.answering = true ∧ tank.busyLeft = 0 ∧
    ({ tank with busyLeft := 1 } : Chip).busyLeft = 1 ∧ ({ tank with answering := false } : Chip).answering = false ∧
    ({ tank with latched := true } : Chip).latched = true ∧ tank.marks.getLsbD 47 = false ∧
    ((List.range 47).all fun j => tank.marks.getLsbD j) = true ∧ blankIdentity tank.identity = false ∧
    blankIdentity ⟨0, 0, 0, 0, 0⟩ = true ∧ markCount tank.marks = some 47 ∧ markCount (BitVec.allOnes 128) = some 128 ∧
    markCount 2 = none ∧ Config.tankCapacity 2 = some 700000000 ∧ defaultMap.get .s3 = some .ch2 := by decide +kernel

/-- A job at each clause: waiting for the chip, the commands it sends, an IDENTIFY job and a MARK job at their map reads, a
third attempt, a third timeout, and a job of the waste position. -/
theorem wit_LinkJobsRun :
    let j := LinkJob.identify (.slot .s3)
    let run : LinkRun := { cmd := .mapRead, waiting := false, left := 1, ident := some tank.identity, ending := false }
    let s := linked j run .identifying
    s.pins.resetLow = false ∧ s.supply.link = { jobs := j :: [], run := some run, draining := false } ∧
      s.chips.slot.get .s3 = some tank ∧ tank.answering = true ∧ tank.busyLeft = 0 ∧ j.busy ≠ 2 ∧
      (linked { j with busy := 2 } (LinkRun.start .idRead) .identifying).supply.link.jobs = [{ j with busy := 2 }] ∧
      (LinkRun.start .idRead).waiting = true ∧ (LinkRun.start .idRead).ending = false ∧
      ((linked (LinkJob.mark (.slot .s3) 47) { run with ident := none } .active).supply.slot.get .s3).marks < 47 ∧
      markCount tank.marks = some 47 ∧
      after (.linkAnswer .clean) (linked { LinkJob.mark (.slot .s3) 48 with attempts := 2 } { run with ident := none } .active)
        (fun t => t.supply.link.jobs.map LinkJob.attempts == [0] && (t.supply.slot.get .s3).marks == 47) = true ∧
      after (.linkAnswer .clean)
        (let s := linked { LinkJob.mark (.slot .s3) 48 with attempts := 2 } { run with ident := none } .active
         { s with supply := { s.supply with slot := s.supply.slot.set .s3 { s.supply.slot.get .s3 with marks := 47 } } })
        (fun t => (t.supply.slot.get .s3).state == .faulted && t.supply.link.jobs.isEmpty) = true ∧
      after (.linkAnswer .clean)
        (let s := withCartridge 46 (linked (LinkJob.mark .waste 48) { run with ident := none } .active)
         { s with chips := { s.chips with waste := some tank } })
        (fun t => t.supply.waste.marks == 47 && t.supply.link.jobs.map LinkJob.pos == [.waste]) = true ∧
      ([.idRead, .arm, .mark] : List ChipCommand).all (fun c => after (.linkAnswer .clean)
        (linked j { LinkRun.start c with waiting := false } .identifying) (fun t => t.supply.link.run.any (·.waiting))) = true := by
  decide +kernel

theorem wit_SlotMapAndAcceptanceApply :
    State.reset.Takes .pp Cmd.slotMapSet ∧ State.reset.mode.lock = false ∧ mapOf? ⟨0, 1, 1, 2, 3, 4, 5, 255⟩ ≠ none ∧
      (mapOf? ⟨0, 1, 1, 2, 3, 4, 5, 255⟩).all mapLegal = true ∧ State.reset.activeSheet = none ∧
      State.reset.manifold.session = Six.const Session.reset ∧ running.Takes .pp Cmd.tankAccept ∧ running.inRun = true ∧
      SlotId.ofNat? 7 = some .s7 ∧
      (({ running.supply with slot := Eight.const { SlotRec.cleared with state := .unidentified } }).slot.get .s7).state =
        .unidentified ∧ running.supply.map.get .s7 = some .ch1 ∧
      -- in START, with the other slot of ch1 holding 40 mL
      (let s := { State.reset with supply := { Supply.reset with
        slot := ((Eight.const SlotRec.cleared).set .s7 { SlotRec.cleared with state := .unidentified }).set .s2
          { SlotRec.cleared with state := .active, capacity := 40000000 } } }
      s.Takes .pp Cmd.tankAccept ∧ s.inStart = true ∧ s.supply.map.get .s2 = some .ch1 ∧
      after (.tankAccept .pp 7 39) s (fun t => (t.supply.slot.get .s7).state == .active &&
        (t.supply.slot.get .s2).state == .standby) = true ∧
      after (.tankAccept .pp 7 40) s (fun t => (t.supply.slot.get .s7).state == .manual &&
        (t.supply.slot.get .s2).state == .active) = true) := by decide +kernel

theorem wit_LevelRestoreEstablishes : State.reset.LevelsCurrent ∧ State.reset.inStart = true ∧ running.inRun = true ∧
    sleeping.inSleep = true ∧ Channel.ofNat? 5 = some .ch5 ∧
    after (.levelRestore .pp 5 12000000) State.reset (fun t => (t.ports.get .pp).reply.outcome == .accepted) = true ∧
    after (.levelRestore .pp 5 12000001) State.reset (fun t => (t.ports.get .pp).reply == ⟨1, 0x65, .clamped, 12000000⟩) = true ∧
    after (.levelRestore .pp 6 0) running (fun t => (t.ports.get .pp).reply.outcome == .wrongState) = true := by
  refine ⟨fun c => ?_, by decide +kernel⟩
  cases c <;> decide +kernel

/-! ### Witnesses: rolls and the feed path -/

theorem wit_RollsComeAndGo : running.Awake ∧ running.pins.rollPresent.get .lower = false ∧ (idlePath running).Awake ∧
    (idlePath running).pins.rollPresent.get .upper = true ∧ (idlePath running).feed.pathRoll = some .upper ∧
    (idlePath running).feed.path = .idle ∧ ((idlePath running).feed.roll.get .upper).state ≠ .empty ∧
    ({ (idlePath running).pins with rollPresent := ⟨true, true⟩ }).rollPresent.get .lower = true ∧
    (let s := fun x p => withFeed (fun f => { f with path := p, roll := ⟨{ threaded with state := x }, RollRec.absent⟩ }) (idlePath running)
    after (.rollRemoval .upper) (s .empty .idle) (fun t => t.feed.path == .unthreaded && t.feed.pathRoll == none) = true ∧
      ([.cutting, .fault] : List PathState).all (fun p => after (.rollRemoval .upper) (s .threaded p) (fun t =>
        t.feed == { (s .threaded p).feed with roll := Two.const RollRec.absent, pathRoll := none })) = true) := by
  decide +kernel

theorem wit_PathSensorsAct :
    let op := feedOp .advance .ticket
    let s := withFeed (fun f => { f with path := .advancing, op := some op }) (idlePath running)
    let w := { feedOp .swap .load with target := some .lower, stage := some .select }
    let x := withFeed (fun f => { f with path := .swapping, op := some w })
      { idlePath running with pins := { (idlePath running).pins with thread := false } }
    let c := { feedOp .cut .cut with cutterLeft := true }
    s.pins.resetLow = false ∧ s.feed.path = .advancing ∧ s.feed.op = some op ∧ s.feed.pathRoll = some .upper ∧
      (s.feed.roll.get .upper).state = .threaded ∧ (idlePath running).feed.path = .idle ∧
      (withFeed (fun f => { f with roll := ⟨threaded.ended, RollRec.absent⟩ }) (idlePath running)).feed.pathRollState =
        .empty ∧ x.feed.path = .swapping ∧ x.feed.op = some w ∧ x.pins.thread = false ∧
      (withFeed (fun f => { f with path := .cutting, op := some c }) (idlePath running)).feed.op = some c ∧
      c.orphan = false ∧
      (after (.threadSensorChange false) s fun t => t.feed.cause == .threadLost) = true ∧
      (after (.paperEnd false) (idlePath running) fun t => (t.feed.roll.get .upper).state == .empty) = true ∧
      (after (.threadSensorChange false) (withFeed (fun f => { f with op := some { w with stage := some .unthread } }) x)
        fun t => t.feed.op.any fun o => o.stage == some .select) = true ∧
      (after (.threadSensorChange true) (withFeed (fun f => { f with op := some { w with stage := some .thread } }) x)
        fun t => t.feed.path == .idle && t.feed.pathRoll == some .lower) = true := by decide +kernel

theorem wit_FeedOperationsEnd :
    let s := fun k p x => withFeed (fun f => { f with path := x, op := some (feedOp k p) }) (idlePath running)
    (s .advance .ticket .advancing).feed.op = some (feedOp .advance .ticket) ∧
      (s .advance .ticket .advancing).feed.pathRoll = some .upper ∧ (feedOp .advance .ticket).orphan = false ∧
      (s .swap .load .swapping).feed.path = .swapping ∧ (s .cut .cut .cutting).feed.path = .cutting ∧
      after .endOfMove (withSheet .loading (s .advance .margin .advancing)) (fun t => t.sheets.queue.map Sheet.state ==
        [.printing]) = true ∧
      after .endOfMove (withSheet .cutting (s .advance .tail .advancing)) (fun t => t.sheets.queue.map Sheet.finish ==
        [some .cut]) = true := by decide +kernel

theorem wit_FeedClearAndRollLoadApply :
    let s := withFeed (fun f => { f with path := .fault, cause := .jam, roll := ⟨loaded, RollRec.absent⟩ }) (idlePath running)
    s.Takes .pp Cmd.feedClear ∧ s.feed.path = .fault ∧ s.pins.cutterHome = true ∧ s.pins.thread = true ∧
      s.pins.paper = true ∧ (s.feed.roll.get s.pins.actuator).state = .loaded ∧
      (∀ x ∈ [RollState.loaded, .threaded, .empty], after (.feedClear .pp)
        (withFeed (fun f => { f with roll := ⟨{ loaded with state := x }, threaded⟩ }) s) (fun t =>
          t.feed.roll == ⟨{ loaded with state := if x = .empty then .empty else .threaded }, loaded⟩) = true) ∧
      ({ s.pins with cutterHome := false, thread := false }).cutterHome = false ∧
      after (.feedClear .pp) { s with pins := { s.pins with actuator := .lower } } (fun t => t.feed.cause == .sensorMismatch) =
        true ∧ roll? 0 = some .upper ∧
      roll? 1 = some .lower ∧ s.Takes .pp Cmd.rollLoad ∧ s.activeSheet = none := by decide +kernel

/-! ### Witnesses: modes, configuration and resets -/

theorem wit_GoEntersRun : State.reset.Takes .pp Cmd.go ∧ State.reset.inStart = true ∧ running.Takes .pp Cmd.go ∧
    running.inRun = true ∧
    (withStation (fun t => { t with state := .opened }) State.reset).service.failed.get .h0 = false := by decide +kernel

theorem wit_SleepIsEnteredAndLeft :
    let s := { running with mode := { running.mode with idleSleepLeft := some 0 } }
    s.pins.resetLow = false ∧ s.inRun = true ∧ s.sheets.queue = [] ∧ s.tickets.queue = [] ∧ s.station.state = .capped ∧
      s.manifold.pump = .free ∧ s.manifold.session = Six.const Session.reset ∧ s.feed.path = .unthreaded ∧
      s.supply.link.jobs = [] ∧ s.service.queue = [] ∧ s.service.active = none ∧ s.mode.idleSleepLeft ≠ none ∧
      sleeping.inSleep = true ∧ sleeping.pending = [] ∧ sleeping.mode.idleServiceLeft = some (86399999 + 1) := by
  decide +kernel

/-- The surveys of a path UNTHREADED, THREADED, with no roll at the actuator, and with the cutter away. -/
theorem wit_PowerUpSetsEverything : held.pins.resetLow = true ∧ (Instr.getStatus .rp 8).port? = some .rp ∧
    after (.powerOn .parked) State.reset (fun t => t.feed.path == .unthreaded) = true ∧
    after (.powerOn .parked) (idlePath running) (fun t => (t.feed.roll.get .upper).state == .threaded) = true ∧
    after (.powerOn .parked) { idlePath running with pins := { (idlePath running).pins with actuator := .lower } }
      (fun t => t.feed.cause == .sensorMismatch) = true ∧
    after (.powerOn .parked) { held with pins := { held.pins with cutterHome := false } }
      (fun t => t.feed.cause == .cutterAway) = true ∧
    after (.resetLineRelease .parked) { held with pins := { held.pins with wastePresent := true } }
      (fun t => t.supply.link.jobs.map LinkJob.pos == [.waste]) = true := by decide +kernel

theorem wit_HubResetIsSoft : running.pins.resetLow = false ∧ running.inRun = true ∧
    (withPump (.suction { head := .h0, level := 2, left := 0, orphan := false })
      (withTicket .firing running)).runningSuction = some (.h0, 2) := by decide +kernel

theorem wit_ConfigSetApplies : running.Takes .pp Cmd.configSet ∧ running.mode.lock = false ∧
    running.params.refuses 2 500000 = false ∧ running.blocksQueued 2 500000 = false ∧
    running.params.refuses 17 5001 = false ∧ running.blocksQueued 17 5001 = false ∧ channelMask? 63 = some (Six.const true) ∧
    running.ledger.chan = Six.const ChannelRec.reset := by decide +kernel

theorem wit_ConfigLockLocks :
    let s := { running with mode := { running.mode with lock := true } }
    s.pins.resetLow = false ∧ s.inSleep = false ∧ s.mode.lock = true ∧ s.inRun = true ∧ held.pins.resetLow = true := by
  decide +kernel

/-! ### Witnesses: the whole machine -/

theorem wit_ModesAndConfigurationChangeByName : after (.probeTrip .ch0 true) running (fun t => t.inRun) = true := by
  decide +kernel

/-- A sheet prints, its oldest ticket is RESERVED and a younger one waits; a SPIT of H1 is active at its order; a MARK job of
slot 3 runs and one of the cartridge waits; and a withdrawal waits. -/
def busy : State :=
  { linked (LinkJob.mark (.slot .s3) 48) (LinkRun.start .arm) .active with
    pending := [.swathWithdraw .rp 6]
    mode := running.mode
    pins := { Pins.reset with slotPresent := (Eight.const false).set .s3 true, wastePresent := true }
    ledger := { Ledger.reset with
      chan := ((Six.const ChannelRec.reset).set .ch2 (channel 8000000 14322 35 0)).set .ch3 (channel 8000000 0 35 0)
      wr := 70, spitPart := ((Six.const 0).set .ch2 35).set .ch3 35 }
    supply := { (linked (LinkJob.mark (.slot .s3) 48) (LinkRun.start .arm) .active).supply with
      waste := { state := .ready, wcap := 110000000, marks := 1, nearFull := false }
      link := { jobs := [LinkJob.mark (.slot .s3) 48, LinkJob.mark .waste 2], run := some (LinkRun.start .arm), draining := false } }
    sheets := { Sheets.reset with queue := [sheet .printing] }
    tickets := { Admission.reset with queue := [ticket .reserved, { ticket .queued with number := 6 }] }
    station := { Station.reset with state := .opened, park := .away, order := order .spit }
    service := { Service.reset with
      queue := [⟨1, .check (onlyHead .h1), .none⟩, ⟨2, clean .panel 1, .none⟩]
      active := some { item := ⟨0, .spit (onlyHead .h1), .none⟩, stages := [.spit] }, nextBorn := 3 } }

theorem wit_StepsKeepRecordsLegal : busy.mode.params.Legal ∧ busy.MapLegal ∧ busy.NozzlesLegal ∧
    after (.swathWithdraw .rp 6) (busy.setPending []) (fun t => t.tickets.queue.map Ticket.number == [5]) = true := by
  refine ⟨?_, ?_, ⟨fun c => ?_, by decide +kernel⟩, by decide +kernel⟩
  · unfold Params.Legal; decide +kernel
  · unfold State.MapLegal; decide +kernel
  · unfold NozzleRec.Legal; cases c <;> decide +kernel

theorem wit_StepsKeepLedgerCurrent : busy.ChannelsLegal ∧ busy.LevelsCurrent := by
  refine ⟨fun c => ?_, fun c => ?_⟩ <;> cases c <;> decide +kernel

theorem wit_StepsKeepQueuesWithinPlaces : busy.QueuesFit ∧ busy.ServiceQueueFits ∧ busy.LinkQueueFits := by
  refine ⟨?_, ?_, ⟨by decide +kernel, by decide +kernel, ?_, ?_, ?_, ?_, ?_⟩⟩
  · unfold State.QueuesFit; decide +kernel
  · unfold State.ServiceQueueFits; decide +kernel
  · intro _ j hj k hk
    rcases List.mem_cons.1 hj with rfl | hj
    · cases hk; rfl
    · cases List.mem_singleton.1 hj; cases hk
  · exact fun _ _ _ _ => rfl
  · intro _ k; cases k <;> decide +kernel
  · exact fun _ _ => rfl
  · intro r h; exact absurd h (by simp [busy, linked, State.reset, Manifold.reset])

theorem wit_StepsKeepReservations : busy.Reservations := by
  refine ⟨fun c => ?_, fun c => ?_, by decide +kernel, fun c => ?_, by decide +kernel, by decide +kernel⟩ <;>
    cases c <;> decide +kernel

theorem wit_StepsKeepServiceHolds : busy.ServiceHolds := by
  have act : busy.service.active = some { item := ⟨0, .spit (onlyHead .h1), .none⟩, stages := [.spit] } := rfl
  refine ⟨fun h => (nomatch act.symm.trans h), ?_, ?_, ?_, ?_, fun _ => ⟨_, act, rfl⟩, fun h => (nomatch h), ?_,
    fun h => (nomatch h), fun m h => (nomatch h), fun m h => (nomatch h), fun q h => (nomatch h), fun r h => (nomatch h),
    fun _ => .inl rfl, fun h => (nomatch h)⟩
  · rintro a h; cases act.symm.trans h; decide
  · rintro a h; cases act.symm.trans h; intro c; cases c <;> decide +kernel
  · rintro a h; cases act.symm.trans h; exact fun h => absurd (List.mem_singleton.2 rfl) h
  · rintro a h; cases act.symm.trans h; intro _ c; cases c <;> decide +kernel
  · rintro _ a h; cases act.symm.trans h; decide +kernel

theorem wit_StepsNeverClearMarks :
    let s := { linked (LinkJob.mark (.slot .s3) 48) (LinkRun.start .arm) .active with pending := [.linkAnswer .clean] }
    s.marksAt (.slot .s3) = some tank.marks ∧ s.pending.head? = some (.linkAnswer .clean) ∧
      (Instr.linkAnswer .clean).brings (.slot .s3) = false := by decide +kernel

end Sys2Proof.Tests
end

section
/-!
SUPPORT. The book: the part of the state that the ledger's invariants speak of. A move is one thing that an operation of the
hub can do to it; every step of the hub makes a run of moves (`step_booked`), so an invariant of the book needs a proof for
each move alone.
-/

namespace Sys2Proof.Machine

/-! ### The book and its moves -/

/-- The parameters, the channel records, the waste reserved, the parts of the service reservation, and the tickets. -/
@[ext] structure Book where
  params : Params
  chan : Six ChannelRec
  wr : Nat
  spitPart : Six Nat
  suctionPart : Six Nat
  queue : List Ticket

def State.book (s : State) : Book :=
  { params := s.mode.params, chan := s.ledger.chan, wr := s.ledger.wr, spitPart := s.ledger.spitPart,
    suctionPart := s.ledger.suctionPart, queue := s.tickets.queue }

/-- R2 reads the level, its establishment and the reservations alone. -/
theorem levelStateOf_of_not_moved (p : Params) {r r' : ChannelRec} (h : r.moved r' = false) :
    levelStateOf p r' = levelStateOf p r := by
  simp only [ChannelRec.moved, Bool.or_eq_false_iff, bne_eq_false_iff_eq] at h
  obtain ⟨⟨⟨hl, hs⟩, hv⟩, he⟩ := h
  simp [levelStateOf, hl, hs, hv, he]

/-- R2 reads F and S alone of the parameters. -/
theorem levelStateOf_congr {p p' : Params} (hf : p.floor = p'.floor) (hr : p.reserve = p'.reserve) (r : ChannelRec) :
    levelStateOf p r = levelStateOf p' r := by
  simp only [levelStateOf, hf, hr]

/-! ### The needs that are held -/

@[simp] theorem heldNeeds_nil (c : Channel) : heldNeeds [] c = 0 := rfl

theorem heldNeeds_cons (t : Ticket) (q : List Ticket) (c : Channel) :
    heldNeeds (t :: q) c = (if t.state.reserves then t.need.get c else 0) + heldNeeds q c := by
  simp only [heldNeeds, List.filter_cons]
  split <;> simp

/-- A QUEUED ticket holds nothing. -/
theorem heldNeeds_append_queued (q : List Ticket) {t : Ticket} (ht : t.state = .queued) (c : Channel) :
    heldNeeds (q ++ [t]) c = heldNeeds q c := by
  simp [heldNeeds, List.filter_append, ht, TicketState.reserves]

/-- A change of tickets that leaves their needs, and whether they hold them, leaves the sum. -/
theorem heldNeeds_map {q : List Ticket} {g : Ticket → Ticket}
    (h : ∀ t ∈ q, (g t).need = t.need ∧ (g t).state.reserves = t.state.reserves) (c : Channel) :
    heldNeeds (q.map g) c = heldNeeds q c := by
  induction q with
  | nil => rfl
  | cons t q ih =>
    obtain ⟨hn, hs⟩ := h t List.mem_cons_self
    rw [List.map_cons, heldNeeds_cons, heldNeeds_cons, hn, hs, ih fun t ht => h t (List.mem_cons_of_mem _ ht)]

/-- The tickets that leave and those that stay hold what all of them held. -/
theorem heldNeeds_filter_not (p : Ticket → Bool) (q : List Ticket) (c : Channel) :
    heldNeeds (q.filter fun t => !p t) c = heldNeeds q c - heldNeeds (q.filter p) c := by
  have split_sum : heldNeeds (q.filter p) c + heldNeeds (q.filter fun t => !p t) c = heldNeeds q c := by
    induction q with
    | nil => rfl
    | cons t q ih => cases hp : p t <;> simp [hp, heldNeeds_cons] <;> omega
  omega

/-- Numbers that are distinct name one ticket each (R62). -/
theorem eq_of_number_eq {q : List Ticket} (hn : (q.map Ticket.number).Nodup) {t t' : Ticket} (ht : t ∈ q) (ht' : t' ∈ q)
    (e : t'.number = t.number) : t' = t := List.inj_on_of_nodup_map hn ht' ht e

/-- Where numbers are distinct, the tickets that bear a ticket's number are that ticket. -/
theorem filter_number_eq {q : List Ticket} (hn : (q.map Ticket.number).Nodup) {t : Ticket} (ht : t ∈ q) :
    (q.filter fun x => x.number == t.number) = [t] := by
  induction q with
  | nil => cases ht
  | cons a q ih =>
    obtain ⟨ha, hq⟩ := List.nodup_cons.1 hn
    rcases List.mem_cons.1 ht with rfl | ht
    · have none_else : (q.filter fun x => x.number == t.number) = [] :=
        List.filter_eq_nil_iff.2 fun x hx e => ha (List.mem_map.2 ⟨x, hx, by simpa using e⟩)
      simp [none_else]
    · have hne : a.number ≠ t.number := fun e => ha (e ▸ List.mem_map_of_mem ht)
      simp [hne, ih hq ht]

/-- A QUEUED ticket that becomes RESERVED holds its need beside what was held (R23). -/
theorem heldNeeds_reserve {q : List Ticket} (hn : (q.map Ticket.number).Nodup) {t : Ticket} (ht : t ∈ q)
    (hs : t.state = .queued) (c : Channel) :
    heldNeeds (q.map fun x => if x.number == t.number then { x with state := .reserved } else x) c =
      heldNeeds q c + t.need.get c := by
  induction q with
  | nil => cases ht
  | cons a q ih =>
    obtain ⟨ha, hq⟩ := List.nodup_cons.1 hn
    rcases List.mem_cons.1 ht with rfl | ht
    · have rest : (q.map fun x => if x.number == t.number then { x with state := TicketState.reserved } else x) = q :=
        (List.map_congr_left fun x hx =>
          if_neg fun e => ha (List.mem_map.2 ⟨x, hx, by simpa using e⟩)).trans (List.map_id q)
      simp only [List.map_cons, rest, heldNeeds_cons, hs]
      simp [TicketState.reserves]
      omega
    · have hne : a.number ≠ t.number := fun e => ha (e ▸ List.mem_map_of_mem ht)
      simp only [List.map_cons, heldNeeds_cons, ih hq ht]
      simp [hne]
      omega

/-- A ticket that leaves takes its need with it (R30, R32). -/
theorem heldNeeds_drop {q : List Ticket} (hn : (q.map Ticket.number).Nodup) {t : Ticket} (ht : t ∈ q)
    (hs : t.state.reserves = true) (c : Channel) :
    heldNeeds (q.filter fun x => x.number != t.number) c = heldNeeds q c - t.need.get c := by
  have h := heldNeeds_filter_not (fun x => x.number == t.number) q c
  rwa [filter_number_eq hn ht, heldNeeds_cons, if_pos hs, heldNeeds_nil, Nat.add_zero] at h

/-- What leaves a queue from anywhere takes no ticket out of its tail. -/
theorem mem_tail_of_mem_filter_tail {p : Ticket → Bool} {q : List Ticket} {t : Ticket} (h : t ∈ (q.filter p).tail) :
    t ∈ q.tail := by
  cases q with
  | nil => cases h
  | cons a q =>
    rw [List.filter_cons] at h
    split at h
    · exact List.mem_of_mem_filter h
    · exact List.mem_of_mem_filter (List.mem_of_mem_tail h)

/-- A ledger operation is, channel by channel, what it is given to be, with the level state recomputed (R2). -/
theorem ledgerChans_get (p : Params) (old : Six ChannelRec) (f : Channel → ChannelRec → ChannelRec) (c : Channel) :
    (ledgerChans p old f).get c = { f c (old.get c) with levelState := ((ledgerChans p old f).get c).levelState } := by
  simp only [ledgerChans, Six.get_tab]
  split <;> rfl

/-- A record that the operation leaves alone stands as it was. -/
theorem ledgerChans_get_of_eq (p : Params) (old : Six ChannelRec) {f : Channel → ChannelRec → ChannelRec} {c : Channel}
    (h : f c (old.get c) = old.get c) : (ledgerChans p old f).get c = old.get c := by
  have still : (old.get c).moved (old.get c) = false := by simp [ChannelRec.moved]
  simp [ledgerChans, h, still]

/-- The record with a part of Rv released, an amount debited, and the given carry. -/
def ChannelRec.freed (r : ChannelRec) (v d q : Nat) : ChannelRec := { r with rv := r.rv - v, level := r.level - d, carry := q }

namespace Book

/-- One ledger operation on the channel records (R2). -/
def enter (b : Book) (f : Channel → ChannelRec → ChannelRec) : Book := { b with chan := ledgerChans b.params b.chan f }

def modTicket (b : Book) (n : Nat) (g : Ticket → Ticket) : Book :=
  { b with queue := b.queue.map fun t => if t.number == n then g t else t }

def keepTickets (b : Book) (keep : Ticket → Bool) : Book := { b with queue := b.queue.filter keep }

/-- Every level state is recomputed (R2). -/
def recompute (b : Book) : Book := { b with chan := b.chan.map (ChannelRec.recompute b.params) }

/-- The parts become the given ones, and the waste reserved with them. -/
def setParts (b : Book) (wr : Nat) (sp su : Channel → Nat) : Book :=
  { b with wr := wr, spitPart := Six.tab sp, suctionPart := Six.tab su }

/-- What a debit can make of the carries: the carry as it was, or a remainder (R19). -/
def Carries (b : Book) (q : Channel → Nat) : Prop := ∀ c, q c = (b.chan.get c).carry ∨ q c < Config.tenths

/-- One thing that an operation of the hub can do to the book. -/
inductive Move (b : Book) : Book → Prop
  /-- R23: a QUEUED ticket becomes RESERVED. -/
  | reserve (t : Ticket) (ht : t ∈ b.queue) (hq : t.state = .queued) :
      Move b ((b.enter fun c r => { r with rs := r.rs + t.need.get c }).modTicket t.number
        fun x => { x with state := .reserved })
  /-- R25: tickets leave unsettled. -/
  | release (leaves : Ticket → Bool) :
      Move b ((b.enter fun c r => { r with rs := r.rs - heldNeeds (b.queue.filter leaves) c }).keepTickets
        fun t => !leaves t)
  /-- R30, R32: a FIRING ticket is settled or lost. -/
  | settle (t : Ticket) (d q : Channel → Nat) (ht : t ∈ b.queue) (hf : t.state = .firing) (hq : b.Carries q) :
      Move b ((b.enter fun c r =>
        { r with rs := r.rs - t.need.get c, level := r.level - d c, carry := q c }).keepTickets
        fun x => x.number != t.number)
  /-- R27: a service item's parts are reserved. -/
  | hold (sp su : Channel → Nat) :
      Move b ((b.enter fun c r => { r with rv := r.rv + sp c + su c }).setParts
        (b.wr + (Channel.all.map fun c => sp c + su c).sum) (fun c => b.spitPart.get c + sp c)
        (fun c => b.suctionPart.get c + su c))
  /-- R29, R33, R34: parts are released, with or without a debit. -/
  | free (sp su d q : Channel → Nat) (hsp : ∀ c, sp c ≤ b.spitPart.get c) (hsu : ∀ c, su c ≤ b.suctionPart.get c)
      (hq : b.Carries q) :
      Move b ((b.enter fun c r => r.freed (sp c + su c) (d c) (q c)).setParts
        (b.wr - (Channel.all.map fun c => sp c + su c).sum) (fun c => b.spitPart.get c - sp c)
        (fun c => b.suctionPart.get c - su c))
  /-- R4, R7, R14: levels are set or credited. -/
  | level (f : Channel → ChannelRec → ChannelRec) (hf : ∀ c r, f c r =
        { r with level := (f c r).level, established := (f c r).established })
      (hl : ∀ c r, (f c r).level = r.level ∨ (f c r).level ≤ Config.cap) : Move b (b.enter f)
  /-- R68, R69, R71: a ticket that holds reservations goes on holding them; RESERVED is left by the oldest ticket alone. -/
  | turn (t : Ticket) (x : TicketState) (ht : t ∈ b.queue) (hr : t.state.reserves = true) (hx : x.reserves = true)
      (ho : x = .reserved ∨ t.state ≠ .reserved ∨ b.queue.head? = some t) :
      Move b (b.modTicket t.number fun y => { y with state := x })
  /-- R66, R67: a ticket's advance goes on. -/
  | advance (n : Nat) (g : Ticket → AdvanceState) : Move b (b.modTicket n fun t => { t with adv := g t })
  /-- R64: a new ticket is appended. -/
  | append (t : Ticket) (hn : t.number ∉ b.queue.map Ticket.number) (hq : t.state = .queued) :
      Move b { b with queue := b.queue ++ [t] }
  /-- R183: parameters other than F and S are applied. -/
  | params (p : Params) (hf : p.floor = b.params.floor) (hr : p.reserve = b.params.reserve) :
      Move b { b with params := p }
  /-- R2, R183: F or S is applied. -/
  | floors (p : Params) : Move b { b with params := p }.recompute
  /-- R20: a drop volume is applied. -/
  | drops (m : Six Bool) (v : Nat) (h1 : 10 ≤ v) (h2 : v ≤ 255) :
      Move b { b with chan := Six.tab fun c => if m.get c then { b.chan.get c with dv := v } else b.chan.get c }
  /-- R38, R79: a soft reset. -/
  | soft (d : Channel → Nat) :
      Move b ((((b.enter fun c r => { r with level := r.level - d c, rs := 0, rv := 0 }).setParts 0 (fun _ => 0)
        (fun _ => 0)).recompute).keepTickets fun _ => false)
  /-- R178: power-on and the reset line. -/
  | power : Move b State.reset.book

/-- A run of moves. -/
abbrev Run : Book → Book → Prop := Relation.ReflTransGen Move

/-- What each move keeps, a run keeps. -/
theorem Run.keeps {P : Book → Prop} (h : ∀ b b', Move b b' → P b → P b') {b b' : Book} (r : Run b b') (hb : P b) : P b' := by
  induction r with
  | refl => exact hb
  | tail _ m ih => exact h _ _ m ih

/-! ### Reading a changed book -/

section
variable (b : Book) (f : Channel → ChannelRec → ChannelRec) (c : Channel)

/-- The recomputation of R2 changes the level state alone. -/
theorem enter_get : (b.enter f).chan.get c =
    { f c (b.chan.get c) with levelState := ((b.enter f).chan.get c).levelState } := ledgerChans_get ..

@[simp] theorem enter_level : ((b.enter f).chan.get c).level = (f c (b.chan.get c)).level := by rw [enter_get]
@[simp] theorem enter_rs : ((b.enter f).chan.get c).rs = (f c (b.chan.get c)).rs := by rw [enter_get]
@[simp] theorem enter_rv : ((b.enter f).chan.get c).rv = (f c (b.chan.get c)).rv := by rw [enter_get]
@[simp] theorem enter_carry : ((b.enter f).chan.get c).carry = (f c (b.chan.get c)).carry := by rw [enter_get]
@[simp] theorem enter_dv : ((b.enter f).chan.get c).dv = (f c (b.chan.get c)).dv := by rw [enter_get]
@[simp] theorem enter_queue : (b.enter f).queue = b.queue := rfl
@[simp] theorem enter_params : (b.enter f).params = b.params := rfl
@[simp] theorem enter_wr : (b.enter f).wr = b.wr := rfl
@[simp] theorem enter_spitPart : (b.enter f).spitPart = b.spitPart := rfl
@[simp] theorem enter_suctionPart : (b.enter f).suctionPart = b.suctionPart := rfl

/-- A ledger operation is what it makes of the records that stand. -/
theorem enter_congr {f g : Channel → ChannelRec → ChannelRec} (h : ∀ c, f c (b.chan.get c) = g c (b.chan.get c)) :
    b.enter f = b.enter g := by
  simp only [enter, ledgerChans, h]

end

/-! ### Carries, drop volumes and level states (O55) -/

/-- The invariant of `State.ChannelsLegal`. -/
def Legal (b : Book) : Prop :=
  ∀ c, (b.chan.get c).carry < Config.tenths ∧ 10 ≤ (b.chan.get c).dv ∧ (b.chan.get c).dv ≤ 255

/-- The invariant of `State.LevelsCurrent`. -/
def Current (b : Book) : Prop := ∀ c, (b.chan.get c).levelState = levelStateOf b.params (b.chan.get c)

/-- A ledger operation whose debits leave remainders keeps the carries remainders and the drop volumes. -/
theorem Legal.enter {b : Book} (h : b.Legal) {f : Channel → ChannelRec → ChannelRec}
    (hd : ∀ c, (f c (b.chan.get c)).dv = (b.chan.get c).dv)
    (hq : ∀ c, (f c (b.chan.get c)).carry = (b.chan.get c).carry ∨ (f c (b.chan.get c)).carry < Config.tenths) :
    (b.enter f).Legal := by
  intro c
  obtain ⟨hc, hlo, hhi⟩ := h c
  rw [enter_carry, enter_dv, hd]
  exact ⟨(hq c).elim (fun e => e ▸ hc) id, hlo, hhi⟩

/-- Each ledger operation recomputes the level states that it may have made stale. -/
theorem Current.enter {b : Book} (h : b.Current) {f : Channel → ChannelRec → ChannelRec}
    (hl : ∀ c, (f c (b.chan.get c)).levelState = (b.chan.get c).levelState) : (b.enter f).Current := by
  intro c
  by_cases hm : (b.chan.get c).moved (f c (b.chan.get c)) = true
  · simp [Book.enter, ledgerChans, hm, ChannelRec.recompute, levelStateOf]
  · have hm' := Bool.eq_false_iff.2 hm
    simp only [Book.enter, ledgerChans, Six.get_tab, hm', Bool.false_eq_true, if_false, hl, h c]
    exact (levelStateOf_of_not_moved _ hm').symm

theorem Current.recompute (b : Book) : b.recompute.Current := by
  intro c
  simp [Book.recompute, ChannelRec.recompute, levelStateOf]

theorem Legal.recompute {b : Book} (h : b.Legal) : b.recompute.Legal := by
  intro c
  simpa [Book.recompute, ChannelRec.recompute] using h c

theorem Move.keeps_legal {b b' : Book} (m : Move b b') (h : b.Legal) : b'.Legal := by
  cases m with
  | reserve t ht hq => exact h.enter (fun _ => rfl) fun _ => .inl rfl
  | release leaves => exact h.enter (fun _ => rfl) fun _ => .inl rfl
  | settle t d q ht hf hq => exact h.enter (fun _ => rfl) hq
  | hold sp su => exact h.enter (fun _ => rfl) fun _ => .inl rfl
  | free sp su d q hsp hsu hq => exact h.enter (fun _ => rfl) hq
  | level f hf hl => exact h.enter (fun c => by rw [hf]) fun c => .inl (by rw [hf])
  | turn | advance | append | params => exact h
  | floors p => exact Legal.recompute (b := { b with params := p }) h
  | drops m v h1 h2 =>
    intro c
    simp only [Six.get_tab]
    split
    · exact ⟨(h c).1, h1, h2⟩
    · exact h c
  | soft d => exact (h.enter (fun _ => rfl) fun _ => .inl rfl).recompute
  | power => intro c; cases c <;> decide

theorem Move.keeps_current {b b' : Book} (m : Move b b') (h : b.Current) : b'.Current := by
  cases m with
  | reserve | release | settle | hold | free => exact h.enter fun _ => rfl
  | level f hf hl => exact h.enter fun c => by rw [hf]
  | turn | advance | append => exact h
  | params p hf hr => intro c; exact (h c).trans (levelStateOf_congr hf.symm hr.symm _)
  | floors p => exact Current.recompute _
  | drops m v h1 h2 =>
    intro c
    simp only [Six.get_tab]
    split <;> exact h c
  | soft d => exact Current.recompute _
  | power => intro c; cases c <;> decide

/-! ### The sums of the ledger (O57) -/

/-- The invariant of `State.Reservations`. -/
structure Balanced (b : Book) : Prop where
  swath : ∀ c, (b.chan.get c).rs = heldNeeds b.queue c
  service : ∀ c, (b.chan.get c).rv = b.spitPart.get c + b.suctionPart.get c
  waste : b.wr = (Channel.all.map fun c => b.spitPart.get c + b.suctionPart.get c).sum
  level : ∀ c, (b.chan.get c).level ≤ Config.cap
  numbers : (b.queue.map Ticket.number).Nodup
  oldest : ∀ t ∈ b.queue.tail, t.state = .queued ∨ t.state = .reserved


/-- Tickets that leave keep the numbers distinct and the younger tickets QUEUED or RESERVED. -/
theorem Balanced.keepTickets {b : Book} (h : b.Balanced) (keep : Ticket → Bool) :
    ((b.queue.filter keep).map Ticket.number).Nodup ∧
      ∀ t ∈ (b.queue.filter keep).tail, t.state = .queued ∨ t.state = .reserved :=
  ⟨h.numbers.sublist (List.filter_sublist.map _), fun t ht => h.oldest t (mem_tail_of_mem_filter_tail ht)⟩

/-- A change of the tickets of one number that keeps the number keeps the numbers distinct. -/
theorem Balanced.modTicket_numbers {b : Book} (h : b.Balanced) (n : Nat) {g : Ticket → Ticket}
    (hg : ∀ t, (g t).number = t.number) : ((b.modTicket n g).queue.map Ticket.number).Nodup := by
  have same : (b.modTicket n g).queue.map Ticket.number = b.queue.map Ticket.number := by
    simp only [Book.modTicket, List.map_map]
    exact List.map_congr_left fun t _ => by simp only [Function.comp_apply]; split <;> simp [hg]
  rw [same]
  exact h.numbers

/-- Every younger ticket of a changed queue was a younger ticket. -/
theorem modTicket_tail {b : Book} {n : Nat} {g : Ticket → Ticket} {t : Ticket} (h : t ∈ (b.modTicket n g).queue.tail) :
    ∃ x ∈ b.queue.tail, t = if x.number == n then g x else x := by
  rw [Book.modTicket, ← List.map_tail] at h
  obtain ⟨x, hx, rfl⟩ := List.mem_map.1 h
  exact ⟨x, hx, rfl⟩

/-- The oldest ticket is none of the younger ones. -/
theorem Balanced.head_not_mem_tail {b : Book} (h : b.Balanced) {t : Ticket} (ht : b.queue.head? = some t) :
    t ∉ b.queue.tail := by
  have hn := List.Nodup.of_map _ h.numbers
  revert ht hn
  cases b.queue with
  | nil => simp
  | cons a q => rintro ⟨⟩ hn; exact (List.nodup_cons.1 hn).1

theorem Balanced.reserve {b : Book} (h : b.Balanced) {t : Ticket} (ht : t ∈ b.queue) (hq : t.state = .queued) :
    ((b.enter fun c r => { r with rs := r.rs + t.need.get c }).modTicket t.number
      fun x => { x with state := .reserved }).Balanced where
  swath c := by
    refine (enter_rs ..).trans ?_
    rw [h.swath]
    exact (heldNeeds_reserve h.numbers ht hq c).symm
  service c := (enter_rv ..).trans (h.service c)
  waste := h.waste
  level c := (enter_level ..).trans_le (h.level c)
  numbers := h.modTicket_numbers _ fun _ => rfl
  oldest y hy := by
    obtain ⟨x, hx, rfl⟩ := modTicket_tail hy
    split
    · exact .inr rfl
    · exact h.oldest x hx

theorem Balanced.release {b : Book} (h : b.Balanced) (leaves : Ticket → Bool) :
    ((b.enter fun c r => { r with rs := r.rs - heldNeeds (b.queue.filter leaves) c }).keepTickets
      fun t => !leaves t).Balanced where
  swath c := by
    refine (enter_rs ..).trans ?_
    rw [h.swath]
    exact (heldNeeds_filter_not leaves b.queue c).symm
  service c := (enter_rv ..).trans (h.service c)
  waste := h.waste
  level c := (enter_level ..).trans_le (h.level c)
  numbers := (h.keepTickets _).1
  oldest := (h.keepTickets _).2

theorem Balanced.settle {b : Book} (h : b.Balanced) {t : Ticket} (d q : Channel → Nat) (ht : t ∈ b.queue)
    (hf : t.state = .firing) :
    ((b.enter fun c r => { r with rs := r.rs - t.need.get c, level := r.level - d c, carry := q c }).keepTickets
      fun x => x.number != t.number).Balanced where
  swath c := by
    refine (enter_rs ..).trans ?_
    rw [h.swath]
    exact (heldNeeds_drop h.numbers ht (by rw [hf]; rfl) c).symm
  service c := (enter_rv ..).trans (h.service c)
  waste := h.waste
  level c := (enter_level ..).trans_le ((Nat.sub_le _ _).trans (h.level c))
  numbers := (h.keepTickets _).1
  oldest := (h.keepTickets _).2

/-- Waste and parts grow together. -/
theorem sum_parts_add (a b c d : Channel → Nat) :
    (Channel.all.map fun x => a x + b x).sum + (Channel.all.map fun x => c x + d x).sum =
      (Channel.all.map fun x => a x + c x + (b x + d x)).sum := by
  simp only [Channel.all, List.map_cons, List.map_nil, List.sum_cons, List.sum_nil]
  omega

theorem Balanced.hold {b : Book} (h : b.Balanced) (sp su : Channel → Nat) :
    ((b.enter fun c r => { r with rv := r.rv + sp c + su c }).setParts (b.wr + (Channel.all.map fun c => sp c + su c).sum)
      (fun c => b.spitPart.get c + sp c) (fun c => b.suctionPart.get c + su c)).Balanced where
  swath c := (enter_rs ..).trans (h.swath c)
  service c := by
    have hr := h.service c
    simp only [setParts, enter_rv, Six.get_tab]
    omega
  waste := by
    simp only [setParts, Six.get_tab]
    rw [h.waste, sum_parts_add]
  level c := (enter_level ..).trans_le (h.level c)
  numbers := h.numbers
  oldest := h.oldest

theorem Balanced.free {b : Book} (h : b.Balanced) (sp su d q : Channel → Nat) (hsp : ∀ c, sp c ≤ b.spitPart.get c)
    (hsu : ∀ c, su c ≤ b.suctionPart.get c) :
    ((b.enter fun c r => r.freed (sp c + su c) (d c) (q c)).setParts
      (b.wr - (Channel.all.map fun c => sp c + su c).sum) (fun c => b.spitPart.get c - sp c)
      (fun c => b.suctionPart.get c - su c)).Balanced where
  swath c := (enter_rs ..).trans (h.swath c)
  service c := by
    have hr := h.service c
    have h1 := hsp c
    have h2 := hsu c
    simp only [setParts, enter_rv, Six.get_tab, ChannelRec.freed]
    omega
  waste := by
    have total := sum_parts_add (fun c => b.spitPart.get c - sp c) (fun c => b.suctionPart.get c - su c) sp su
    simp only [Nat.sub_add_cancel (hsp _), Nat.sub_add_cancel (hsu _)] at total
    simp only [setParts, Six.get_tab, h.waste]
    omega
  level c := (enter_level ..).trans_le ((Nat.sub_le _ _).trans (h.level c))
  numbers := h.numbers
  oldest := h.oldest

theorem Balanced.setLevels {b : Book} (h : b.Balanced) {f : Channel → ChannelRec → ChannelRec}
    (hf : ∀ c r, f c r = { r with level := (f c r).level, established := (f c r).established })
    (hl : ∀ c r, (f c r).level = r.level ∨ (f c r).level ≤ Config.cap) : (b.enter f).Balanced where
  swath c := (enter_rs ..).trans ((congrArg ChannelRec.rs (hf c _)).trans (h.swath c))
  service c := (enter_rv ..).trans ((congrArg ChannelRec.rv (hf c _)).trans (h.service c))
  waste := h.waste
  level c := (enter_level ..).trans_le ((hl c _).elim (fun e => e.trans_le (h.level c)) id)
  numbers := h.numbers
  oldest := h.oldest

/-- A change of the tickets of one number that keeps what they hold, and leaves the younger ones QUEUED or RESERVED. -/
theorem Balanced.modTicket {b : Book} (h : b.Balanced) (n : Nat) {g : Ticket → Ticket}
    (hg : ∀ t, (g t).number = t.number ∧ (g t).need = t.need)
    (hs : ∀ t ∈ b.queue, t.number = n → (g t).state.reserves = t.state.reserves)
    (ho : ∀ t ∈ b.queue.tail, t.number = n → (g t).state = .queued ∨ (g t).state = .reserved) :
    (b.modTicket n g).Balanced where
  swath c := by
    refine (h.swath c).trans (heldNeeds_map (fun t ht => ?_) c).symm
    split
    · next e => exact ⟨(hg t).2, hs t ht (by simpa using e)⟩
    · exact ⟨rfl, rfl⟩
  service := h.service
  waste := h.waste
  level := h.level
  numbers := h.modTicket_numbers n fun t => (hg t).1
  oldest y hy := by
    obtain ⟨x, hx, rfl⟩ := modTicket_tail hy
    split
    · next e => exact ho x hx (by simpa using e)
    · exact h.oldest x hx

theorem Balanced.turn {b : Book} (h : b.Balanced) {t : Ticket} {x : TicketState} (ht : t ∈ b.queue)
    (hr : t.state.reserves = true) (hx : x.reserves = true)
    (ho : x = .reserved ∨ t.state ≠ .reserved ∨ b.queue.head? = some t) :
    (b.modTicket t.number fun y => { y with state := x }).Balanced := by
  refine h.modTicket _ (fun _ => ⟨rfl, rfl⟩) (fun y hy e => ?_) fun y hy e => ?_
  · rw [eq_of_number_eq h.numbers ht hy e, hr]
    exact hx
  · obtain rfl := eq_of_number_eq h.numbers ht (List.mem_of_mem_tail hy) e
    rcases ho with rfl | hne | hh
    · exact .inr rfl
    · rcases h.oldest _ hy with hs | hs
      · rw [hs] at hr; cases hr
      · exact absurd hs hne
    · exact absurd hy (h.head_not_mem_tail hh)

theorem Balanced.append {b : Book} (h : b.Balanced) {t : Ticket} (hn : t.number ∉ b.queue.map Ticket.number)
    (hq : t.state = .queued) : Balanced { b with queue := b.queue ++ [t] } where
  swath c := (h.swath c).trans (heldNeeds_append_queued _ hq c).symm
  service := h.service
  waste := h.waste
  level := h.level
  numbers := by
    rw [List.map_append]
    exact List.nodup_append.2 ⟨h.numbers, by simp, by simpa using fun x hx e => hn (List.mem_map.2 ⟨x, hx, e⟩)⟩
  oldest y hy := by
    rw [List.tail_append] at hy
    split at hy
    · cases hy
    · rcases List.mem_append.1 hy with hy | hy
      · exact h.oldest y hy
      · rw [List.mem_singleton.1 hy]
        exact .inl hq

/-- The sums do not read the level states. -/
theorem Balanced.recompute {b : Book} (h : b.Balanced) : b.recompute.Balanced where
  swath c := by simpa [Book.recompute, ChannelRec.recompute] using h.swath c
  service c := by simpa [Book.recompute, ChannelRec.recompute] using h.service c
  waste := h.waste
  level c := by simpa [Book.recompute, ChannelRec.recompute] using h.level c
  numbers := h.numbers
  oldest := h.oldest

theorem Balanced.drops {b : Book} (h : b.Balanced) (m : Six Bool) (v : Nat) :
    Balanced { b with chan := Six.tab fun c => if m.get c then { b.chan.get c with dv := v } else b.chan.get c } where
  swath c := by simpa [apply_ite ChannelRec.rs] using h.swath c
  service c := by simpa [apply_ite ChannelRec.rv] using h.service c
  waste := h.waste
  level c := by simpa [apply_ite ChannelRec.level] using h.level c
  numbers := h.numbers
  oldest := h.oldest

/-- With no ticket and no part nothing is held. -/
theorem Balanced.soft {b : Book} (h : b.Balanced) (d : Channel → Nat) :
    ((((b.enter fun c r => { r with level := r.level - d c, rs := 0, rv := 0 }).setParts 0 (fun _ => 0)
        (fun _ => 0)).recompute).keepTickets fun _ => false).Balanced where
  swath c := by simp [Book.keepTickets, Book.recompute, ChannelRec.recompute, setParts]
  service c := by simp [Book.keepTickets, Book.recompute, ChannelRec.recompute, setParts]
  waste := by simp [Book.keepTickets, Book.recompute, setParts, Channel.all]
  level c := by
    simp only [Book.keepTickets, Book.recompute, ChannelRec.recompute, setParts, Six.get_map, enter_level]
    exact (Nat.sub_le _ _).trans (h.level c)
  numbers := by simp [Book.keepTickets]
  oldest := by simp [Book.keepTickets]

theorem Move.keeps_balanced {b b' : Book} (m : Move b b') (h : b.Balanced) : b'.Balanced := by
  cases m with
  | reserve t ht hq => exact h.reserve ht hq
  | release leaves => exact h.release leaves
  | settle t d q ht hf hq => exact h.settle d q ht hf
  | hold sp su => exact h.hold sp su
  | free sp su d q hsp hsu hq => exact h.free sp su d q hsp hsu
  | level f hf hl => exact h.setLevels hf hl
  | turn t x ht hr hx ho => exact h.turn ht hr hx ho
  | advance n g => exact h.modTicket n (fun _ => ⟨rfl, rfl⟩) (fun _ _ _ => rfl) fun t ht _ => h.oldest t ht
  | append t hn hq => exact h.append hn hq
  | params p hf hr => exact { h with }
  | floors p => exact Balanced.recompute (b := { b with params := p }) { h with }
  | drops m v h1 h2 => exact h.drops m v
  | soft d => exact h.soft d
  | power =>
    refine ⟨fun c => ?_, fun c => ?_, by decide, fun c => ?_, by decide, by simp [State.book, State.reset, Admission.reset]⟩
      <;> cases c <;> decide

end Book
end Sys2Proof.Machine
end

section
/-!
SUPPORT. What each operation does to the book: nothing (its `_book` lemma, from its frame where the operation has one), or a
run of moves (its `_booked` lemma).
-/

namespace Sys2Proof.Machine

/-- From one state to another the book makes a run of moves. -/
def Booked (s t : State) : Prop := Book.Run s.book t.book

theorem Booked.refl (s : State) : Booked s s := Relation.ReflTransGen.refl

theorem Booked.trans {s t u : State} (h : Booked s t) (k : Booked t u) : Booked s u := Relation.ReflTransGen.trans h k

theorem Booked.of_eq {s t : State} (h : t.book = s.book) : Booked s t := by
  unfold Booked
  rw [h]

theorem Booked.of_move {s t : State} {b : Book} (h : t.book = b) (m : Book.Move s.book b) : Booked s t :=
  .single (h ▸ m)

/-- A state with the same book is as good to go on from. -/
theorem Booked.from_eq {s s' t : State} (h : Booked s' t) (hs : s'.book = s.book) : Booked s t := (Booked.of_eq hs).trans h

theorem Booked.when {s : State} (b : Bool) {f : State → State} (h : Booked s (f s)) : Booked s (s.when b f) := by
  cases b
  · exact Booked.refl s
  · exact h

/-- A frame outside the mode, the ledger and the tickets leaves the book. -/
theorem Frame.book {bs : List Block} {s t : State} (h : Frame bs s t)
    (hb : decide (Block.mode ∉ bs ∧ Block.ledger ∉ bs ∧ Block.tickets ∉ bs) = true) : t.book = s.book := by
  obtain ⟨h1, h2, h3⟩ := of_decide_eq_true hb
  have hm : t.mode = s.mode := h .mode h1
  have hl : t.ledger = s.ledger := h .ledger h2
  have ht : t.tickets = s.tickets := h .tickets h3
  simp only [State.book, hm, hl, ht]

section
variable (s : State)

/-! ### The updates -/

@[simp] theorem State.setPending_book (x : List Instr) : (s.setPending x).book = s.book := by rfl
@[simp] theorem State.setPins_book (x : Pins) : (s.setPins x).book = s.book := by rfl
@[simp] theorem State.setChips_book (x : Chips) : (s.setChips x).book = s.book := by rfl
@[simp] theorem State.setManifold_book (x : Manifold) : (s.setManifold x).book = s.book := by rfl
@[simp] theorem State.setSupply_book (x : Supply) : (s.setSupply x).book = s.book := by rfl
@[simp] theorem State.setFeed_book (x : Feed) : (s.setFeed x).book = s.book := by rfl
@[simp] theorem State.setSheets_book (x : Sheets) : (s.setSheets x).book = s.book := by rfl
@[simp] theorem State.setStation_book (x : Station) : (s.setStation x).book = s.book := by rfl
@[simp] theorem State.setService_book (x : Service) : (s.setService x).book = s.book := by rfl
@[simp] theorem State.setDue_book (x : Due) : (s.setDue x).book = s.book := by rfl
@[simp] theorem State.modPort_book (p : Port) (f : PortRec → PortRec) : (s.modPort p f).book = s.book := by rfl
@[simp] theorem State.replied_book (r : State) (p : Port) (c : Nat) (k : ReplyCode) (v n : Nat) :
    (s.replied r p c k v n).book = s.book := by rfl

@[simp] theorem State.when_book (b : Bool) {f : State → State} (h : ∀ t, (f t).book = t.book) :
    (s.when b f).book = s.book := by
  cases b
  · rfl
  · exact h s

@[simp] theorem State.foldl_book {α : Type} (l : List α) {f : State → α → State} (h : ∀ t x, (f t x).book = t.book) :
    (l.foldl f s).book = s.book := by
  induction l generalizing s with
  | nil => rfl
  | cons x l ih => exact (ih (f s x)).trans (h s x)

/-! ### Operations that leave the book, by their frames -/

@[simp] theorem State.duePass_book : s.duePass.book = s.book := by rfl
@[simp] theorem State.dueArbiter_book : s.dueArbiter.book = s.book := by rfl
@[simp] theorem State.dueExamine_book : s.dueExamine.book = s.book := by rfl
@[simp] theorem State.dueStroke_book (c : Channel) (b : Bool) : (s.dueStroke c b).book = s.book := by rfl
@[simp] theorem State.inkMoved_book : s.inkMoved.book = s.book := s.inkMoved_frame.book rfl
@[simp] theorem State.wasteMoved_book : s.wasteMoved.book = s.book := s.wasteMoved_frame.book rfl
@[simp] theorem State.reportRolls_book (old : Two RollRec) : (s.reportRolls old).book = s.book := (s.reportRolls_frame old).book rfl
@[simp] theorem State.modSheet_book (n : Nat) (f : Sheet → Sheet) : (s.modSheet n f).book = s.book := by rfl
@[simp] theorem State.raise_book (e : Event) : (s.raise e).book = s.book := by rfl
@[simp] theorem State.raiseIf_book (b : Bool) (e : Event) : (s.raiseIf b e).book = s.book := (s.raiseIf_frame b e).book rfl
@[simp] theorem State.raiseOn_book (p : Port) (e : Event) : (s.raiseOn p e).book = s.book := by rfl
@[simp] theorem State.raiseLevels_book (x y : Six ChannelRec) : (s.raiseLevels x y).book = s.book :=
  (s.raiseLevels_frame x y).book rfl
@[simp] theorem State.setLink_book (l : Link) : (s.setLink l).book = s.book := by rfl
@[simp] theorem State.requestIdentify_book (pos : LinkPos) : (s.requestIdentify pos).book = s.book := by rfl
@[simp] theorem State.requestMark_book (pos : LinkPos) (n : Nat) : (s.requestMark pos n).book = s.book := by rfl
@[simp] theorem State.setWaste_book (w : WasteRec) : (s.setWaste w).book = s.book := by rfl
@[simp] theorem State.refreshFull_book : s.refreshFull.book = s.book := s.refreshFull_frame.book rfl
@[simp] theorem State.askCoverage_book (w : Work) : (s.askCoverage w).book = s.book := (s.askCoverage_frame w).book rfl
@[simp] theorem State.setDemands_book (cs : List Channel) : (s.setDemands cs).book = s.book := (s.setDemands_frame cs).book rfl
@[simp] theorem State.putSlot_book (k : SlotId) (r : SlotRec) : (s.putSlot k r).book = s.book := (s.putSlot_frame k r).book rfl
@[simp] theorem State.promoteFor_book (k : SlotId) : (s.promoteFor k).book = s.book := (s.promoteFor_frame k).book rfl
@[simp] theorem State.placeSlot_book (k : SlotId) (c : Channel) (r : SlotRec) : (s.placeSlot k c r).book = s.book :=
  (s.placeSlot_frame k c r).book rfl
@[simp] theorem State.dropJob_book (pos : LinkPos) : (s.dropJob pos).book = s.book := by rfl
@[simp] theorem State.tankArrives_book (k : SlotId) : (s.tankArrives k).book = s.book := (s.tankArrives_frame k).book rfl
@[simp] theorem State.tankLeaves_book (k : SlotId) : (s.tankLeaves k).book = s.book := (s.tankLeaves_frame k).book rfl
@[simp] theorem State.addDrawn_book (k : SlotId) (v : Nat) : (s.addDrawn k v).book = s.book := (s.addDrawn_frame k v).book rfl
@[simp] theorem State.recomputeLow_book : s.recomputeLow.book = s.book := s.recomputeLow_frame.book rfl
@[simp] theorem State.takeMap_book (m : Eight (Option Channel)) : (s.takeMap m).book = s.book := (s.takeMap_frame m).book rfl
@[simp] theorem State.acceptTank_book (k : SlotId) (c : Channel) (n : Nat) : (s.acceptTank k c n).book = s.book :=
  (s.acceptTank_frame k c n).book rfl
@[simp] theorem State.setSession_book (c : Channel) (x : Session) : (s.setSession c x).book = s.book := by rfl
@[simp] theorem State.putSession_book (c : Channel) (x : SessionState) : (s.putSession c x).book = s.book := by rfl
@[simp] theorem State.clearDemand_book (c : Channel) : (s.clearDemand c).book = s.book := by rfl
@[simp] theorem State.strokeTest_book (c : Channel) : (s.strokeTest c).book = s.book := (s.strokeTest_frame c).book rfl
@[simp] theorem State.setPump_book (p : Pump) : (s.setPump p).book = s.book := by rfl
@[simp] theorem State.afterStroke_book (c : Channel) (b : Bool) : (s.afterStroke c b).book = s.book :=
  (s.afterStroke_frame c b).book rfl
@[simp] theorem State.requestSuction_book (h : Head) (l : Nat) : (s.requestSuction h l).book = s.book :=
  (s.requestSuction_frame h l).book rfl
@[simp] theorem State.setQueue_book (q : List Item) : (s.setQueue q).book = s.book := by rfl
@[simp] theorem State.requestSpit_book (h : Head) : (s.requestSpit h).book = s.book := (s.requestSpit_frame h).book rfl
@[simp] theorem State.requestClean_book (h : Head) (l : Nat) (o : CleanOrigin) (u : Urgency) (a : Nat) :
    (s.requestClean h l o u a).book = s.book := (s.requestClean_frame h l o u a).book rfl
@[simp] theorem State.requestCheck_book (m : Three Bool) : (s.requestCheck m).book = s.book := (s.requestCheck_frame m).book rfl
@[simp] theorem State.returnItem_book (i : Item) : (s.returnItem i).book = s.book := (s.returnItem_frame i).book rfl
@[simp] theorem State.clearCapDue_book : s.clearCapDue.book = s.book := by rfl
@[simp] theorem State.putNozzles_book (x : Six NozzleRec) : (s.putNozzles x).book = s.book := (s.putNozzles_frame x).book rfl
@[simp] theorem State.applyCheck_book (r : List CheckReport) : (s.applyCheck r).book = s.book := (s.applyCheck_frame r).book rfl
@[simp] theorem State.resetExposures_book (m : Three Bool) : (s.resetExposures m).book = s.book :=
  (s.resetExposures_frame m).book rfl
@[simp] theorem State.placeOrder_book (k : OrderKind) (m : Three Bool) (d : Nat) (o : OrderOrigin) :
    (s.placeOrder k m d o).book = s.book := by rfl
@[simp] theorem State.finishOrder_book : s.finishOrder.book = s.book := by rfl
@[simp] theorem State.enterOpen_book : s.enterOpen.book = s.book := by rfl
@[simp] theorem State.enterCapped_book : s.enterCapped.book = s.book := s.enterCapped_frame.book rfl
@[simp] theorem State.startMove_book (k : MoveKind) (x : StationState) (ms : Nat) : (s.startMove k x ms).book = s.book := by rfl
@[simp] theorem State.endStage_book : s.endStage.book = s.book := s.endStage_frame.book rfl
@[simp] theorem State.orphanSuction_book : s.orphanSuction.book = s.book := s.orphanSuction_frame.book rfl
@[simp] theorem State.countDone_book : s.countDone.book = s.book := s.countDone_frame.book rfl
@[simp] theorem State.removeSheet_book (n : Nat) (o : SheetOutcome) : (s.removeSheet n o).book = s.book :=
  (s.removeSheet_frame n o).book rfl
@[simp] theorem State.appendSheet_book (p : RollPref) (m w l t b d : Nat) (c : CutMode) :
    (s.appendSheet p m w l t b d c).book = s.book := by rfl
@[simp] theorem State.examineSheet_book (h : Sheet) : (s.examineSheet h).book = s.book := (s.examineSheet_frame h).book rfl
@[simp] theorem State.setRoll_book (r : Roll) (x : RollRec) : (s.setRoll r x).book = s.book := by rfl
@[simp] theorem State.modPathRoll_book (f : RollRec → RollRec) : (s.modPathRoll f).book = s.book :=
  (s.modPathRoll_frame f).book rfl
@[simp] theorem State.endOp_book (p : PathState) : (s.endOp p).book = s.book := by rfl
@[simp] theorem State.startOp_book (p : PathState) (o : FeedOp) : (s.startOp p o).book = s.book := by rfl
@[simp] theorem State.pathFaults_book (w : FeedCause) (e : Event) : (s.pathFaults w e).book = s.book := by rfl
@[simp] theorem State.completeSwap_book (o : FeedOp) (r : Roll) : (s.completeSwap o r).book = s.book :=
  (s.completeSwap_frame o r).book rfl
@[simp] theorem State.proceedSwap_book (o : FeedOp) : (s.proceedSwap o).book = s.book := (s.proceedSwap_frame o).book rfl
@[simp] theorem State.completeCut_book (o : FeedOp) : (s.completeCut o).book = s.book := (s.completeCut_frame o).book rfl
@[simp] theorem State.cleanAll_book (o : CleanOrigin) : (s.cleanAll o).book = s.book := (s.cleanAll_frame o).book rfl

/-! ### Modes: the parameters stand -/

@[simp] theorem State.loadIdleSleep_book : s.loadIdleSleep.book = s.book := by rfl
@[simp] theorem State.enterSleep_book : s.enterSleep.book = s.book := by rfl
@[simp] theorem State.enterRun_book : s.enterRun.book = s.book := by rfl

/-! ### The waste accounted and the uncovered flag are not in the book -/

@[simp] theorem State.setWa_book (n : Nat) : (s.setWa n).book = s.book := by rfl

@[simp] theorem State.refreshUncovered_book : s.refreshUncovered.book = s.book := by
  simp only [State.refreshUncovered, State.when_book, State.wasteMoved_book, State.requestMark_book, implies_true]
  rfl

@[simp] theorem State.refreshWaste_book : s.refreshWaste.book = s.book := by simp [State.refreshWaste]

@[simp] theorem State.wasteArrives_book : s.wasteArrives.book = s.book := by simp [State.wasteArrives]

@[simp] theorem State.wasteLeaves_book : s.wasteLeaves.book = s.book := by simp [State.wasteLeaves]

@[simp] theorem State.faultPosition_book (pos : LinkPos) : (s.faultPosition pos).book = s.book := by
  cases pos <;> simp [State.faultPosition]

@[simp] theorem State.applyTank_book (k : SlotId) (i : Identity) (m : BitVec 128) : (s.applyTank k i m).book = s.book := by
  unfold State.applyTank
  repeat' split
  all_goals simp

@[simp] theorem State.applyWaste_book (i : Identity) (m : BitVec 128) : (s.applyWaste i m).book = s.book := by
  unfold State.applyWaste
  repeat' split
  all_goals simp

@[simp] theorem State.applyIdentity_book (pos : LinkPos) (i : Identity) (m : BitVec 128) :
    (s.applyIdentity pos i m).book = s.book := by
  cases pos <;> simp [State.applyIdentity]

/-! ### The link -/

@[simp] theorem State.endJob_book : s.endJob.book = s.book := by rfl

@[simp] theorem State.confirmMarks_book (pos : LinkPos) (n : Nat) : (s.confirmMarks pos n).book = s.book := by
  cases pos <;> simp [State.confirmMarks]

@[simp] theorem State.judgeAttempt_book (j : LinkJob) (m : BitVec 128) : (s.judgeAttempt j m).book = s.book := by
  unfold State.judgeAttempt
  repeat' split
  all_goals simp

@[simp] theorem State.nextCommand_book (r : LinkRun) (x : ChipCommand) : (s.nextCommand r x).book = s.book := by rfl

@[simp] theorem State.takeAnswer_book (j : LinkJob) (r : LinkRun) (a : LinkAnswer) : (s.takeAnswer j r a).book = s.book := by
  unfold State.takeAnswer
  repeat' split
  all_goals simp

@[simp] theorem State.endRemapped_book (j : LinkJob) : (s.endRemapped j).book = s.book := by rfl

@[simp] theorem State.startJob_book (j : LinkJob) : (s.startJob j).book = s.book := by
  unfold State.startJob
  repeat' split
  all_goals simp

theorem State.sessionReacts_book {s t : State} {c : Channel} (h : s.sessionReacts c = some t) : t.book = s.book := by
  unfold State.sessionReacts at h
  repeat' split at h
  all_goals cases h
  all_goals simp

@[simp] theorem State.askAgain_book (c : Channel) : (s.askAgain c).book = s.book := by
  unfold State.askAgain
  split
  · cases h : s.sessionReacts c with
    | none => rfl
    | some t => exact State.sessionReacts_book h
  · rfl

@[simp] theorem State.drainLink_book : s.drainLink.book = s.book := by simp [State.drainLink]

@[simp] theorem State.afterTransaction_book : s.afterTransaction.book = s.book := by simp [State.afterTransaction]

@[simp] theorem State.busyTimesOut_book (j : LinkJob) (r : LinkRun) : (s.busyTimesOut j r).book = s.book := by
  unfold State.busyTimesOut
  repeat' split
  all_goals simp

@[simp] theorem State.resetLink_book : s.resetLink.book = s.book := by
  unfold State.resetLink
  split <;> simp

end

section
variable {s t : State}

theorem State.linkAnswers_book {d : LinkDelivery} (h : s.linkAnswers d = some t) : t.book = s.book := by
  unfold State.linkAnswers at h
  split at h
  · obtain rfl := Option.some.inj h
    repeat' split
    all_goals simp
  · cases h

theorem State.waitTimesOut_book (h : s.waitTimesOut = some t) : t.book = s.book := by
  unfold State.waitTimesOut at h
  repeat' split at h
  all_goals cases h
  all_goals simp

theorem State.answerTimesOut_book (h : s.answerTimesOut = some t) : t.book = s.book := by
  unfold State.answerTimesOut at h
  repeat' split at h
  all_goals cases h
  all_goals simp

theorem State.startLink_book (h : s.startLink = some t) : t.book = s.book := by
  unfold State.startLink at h
  split at h
  · cases h
  · split at h
    · obtain rfl := Option.some.inj h
      exact s.drainLink_book
    · split at h
      · cases h
      · obtain ⟨j, -, rfl⟩ := Option.map_eq_some_iff.1 h
        exact s.startJob_book j

theorem State.sessionStep_book (h : s.sessionStep = some t) : t.book = s.book := by
  obtain ⟨c, -, hc⟩ := List.exists_of_findSome?_eq_some h
  exact State.sessionReacts_book hc

end

end Sys2Proof.Machine
end

section
/-!
SUPPORT. The operations that move the book (`_booked`): those of the ledger and the tickets, each by its move, and those that
call them.
-/

namespace Sys2Proof.Machine

section
variable (s : State)

/-! ### The ledger -/

@[simp] theorem State.ledgerOp_ledger (f : Channel → ChannelRec → ChannelRec) :
    (s.ledgerOp f).ledger = { s.ledger with chan := ledgerChans s.params s.ledger.chan f } := by
  have raised := (State.raiseLevels_frame (s.setChan (ledgerChans s.params s.ledger.chan f)) s.ledger.chan
    (ledgerChans s.params s.ledger.chan f)) .ledger (by decide)
  exact ((Frame.when _ _ State.inkMoved_frame) .ledger (by decide)).trans raised

@[simp] theorem State.ledgerOp_book (f : Channel → ChannelRec → ChannelRec) : (s.ledgerOp f).book = s.book.enter f := by
  simp only [State.ledgerOp, State.when_book, State.inkMoved_book, implies_true, State.raiseLevels_book]
  rfl

/-- The book with another ledger. -/
theorem State.setLedger_book (x : Ledger) : (s.setLedger x).book =
    { s.book with chan := x.chan, wr := x.wr, spitPart := x.spitPart, suctionPart := x.suctionPart } := by rfl

@[simp] theorem State.modTicket_book (n : Nat) (g : Ticket → Ticket) : (s.modTicket n g).book = s.book.modTicket n g := by rfl

/-- What a conversion leaves is a remainder, and the carry where it converts nothing (R19). -/
theorem convert_carry (n dv q : Nat) : (convert n dv q).2 = q ∨ (convert n dv q).2 < Config.tenths := by
  unfold convert
  split
  · exact .inl rfl
  · exact .inr (Nat.mod_lt _ (by decide))

theorem State.debits_carries (pairs : List (Nat × Nat)) : s.book.Carries fun c => ((s.debits pairs).get c).2 := by
  intro c
  simp only [State.debits, Six.get_tab]
  split
  · exact convert_carry _ _ _
  · exact .inl rfl

/-- The carries as they stand. -/
theorem Book.carries_self (b : Book) : b.Carries fun c => (b.chan.get c).carry := fun _ => .inl rfl

theorem State.setLevel_booked (c : Channel) {n : Nat} (hn : n ≤ Config.cap) : Booked s (s.setLevel c n) := by
  refine .of_move (s.ledgerOp_book _) (.level _ (fun x r => ?_) fun x r => ?_)
  · split <;> rfl
  · split
    · exact .inr hn
    · exact .inl rfl

theorem State.creditStroke_booked (c : Channel) (v : Nat) : Booked s (s.creditStroke c v) := by
  refine .of_move (s.ledgerOp_book _) (.level _ (fun x r => ?_) fun x r => ?_)
  · split <;> rfl
  · split
    · exact .inr (Nat.min_le_left _ _)
    · exact .inl rfl

/-! ### The service reservation -/

theorem State.reserveService_booked (w : Work) : Booked s (s.reserveService w) := by
  refine .of_move ?_ (.hold (s.spitParts w).get (suctionParts w).get)
  simp only [State.reserveService, State.refreshUncovered_book, State.setLedger_book, State.ledgerOp_book,
    State.ledgerOp_ledger]
  rfl

/-- A release of parts, with the debits that go with it, is the move `free`. -/
theorem Booked.of_free {s t : State} (sp su d q : Channel → Nat) {f : Channel → ChannelRec → ChannelRec}
    (lsp : ∀ c, sp c ≤ s.ledger.spitPart.get c) (lsu : ∀ c, su c ≤ s.ledger.suctionPart.get c) (hq : s.book.Carries q)
    (hf : ∀ c, f c (s.ledger.chan.get c) = (s.ledger.chan.get c).freed (sp c + su c) (d c) (q c))
    (ht : t.book = (s.book.enter f).setParts (s.ledger.wr - (Channel.all.map fun c => sp c + su c).sum)
      (fun c => s.ledger.spitPart.get c - sp c) (fun c => s.ledger.suctionPart.get c - su c)) : Booked s t := by
  refine .of_move ?_ (.free sp su d q lsp lsu hq)
  rw [ht, Book.enter_congr (g := fun c r => r.freed (sp c + su c) (d c) (q c)) s.book hf]
  rfl

theorem State.releaseParts_booked : Booked s s.releaseParts := by
  refine .of_free s.ledger.spitPart.get s.ledger.suctionPart.get (fun _ => 0) (fun c => (s.ledger.chan.get c).carry)
    (f := fun c r => { r with rv := r.rv - s.ledger.spitPart.get c - s.ledger.suctionPart.get c })
    (fun _ => le_rfl) (fun _ => le_rfl) s.book.carries_self (fun c => ?_) ?_
  · simp [ChannelRec.freed, Nat.sub_sub]
  · simp only [State.releaseParts, State.refreshUncovered_book, State.setLedger_book, State.ledgerOp_book,
      State.ledgerOp_ledger, Nat.sub_self]
    rfl

theorem State.settleSpit_booked (m : Three Bool) (pairs : List (Nat × Nat)) : Booked s (s.settleSpit m pairs) := by
  refine .of_free (fun c => if maskHas m c then s.ledger.spitPart.get c else 0) (fun _ => 0)
    (fun c => if maskHas m c then ((s.debits pairs).get c).1 else 0)
    (fun c => if maskHas m c then ((s.debits pairs).get c).2 else (s.ledger.chan.get c).carry)
    (f := fun c r => if maskHas m c then
      r.freed (s.ledger.spitPart.get c) ((s.debits pairs).get c).1 ((s.debits pairs).get c).2 else r)
    (fun c => ?_) (fun _ => Nat.zero_le _) (fun c => ?_) (fun c => ?_) ?_
  · split
    · exact le_rfl
    · exact Nat.zero_le _
  · beta_reduce
    split
    · exact s.debits_carries pairs c
    · exact .inl rfl
  · split <;> rfl
  · simp only [State.settleSpit, State.refreshWaste_book, State.setLedger_book, State.ledgerOp_book, State.ledgerOp_ledger]
    refine Book.ext rfl rfl rfl (Six.ext_get _ _ fun c => ?_) (Six.ext_get _ _ fun c => ?_) rfl
    · simp only [Book.setParts, Six.get_tab]
      split <;> simp
    · simp [Book.setParts]

theorem State.settleSuction_booked (h : Head) (level : Nat) (release : Bool) :
    Booked s (s.settleSuction h level release) := by
  refine .of_free (fun _ => 0) (fun c => if release && c.head == h then s.ledger.suctionPart.get c else 0)
    (fun c => if c.head == h then Config.suctionVolume level else 0) (fun c => (s.ledger.chan.get c).carry)
    (f := fun c r => if c.head == h then
      r.freed (if release && c.head == h then s.ledger.suctionPart.get c else 0) (Config.suctionVolume level) r.carry else r)
    (fun _ => Nat.zero_le _) (fun c => ?_) s.book.carries_self (fun c => ?_) ?_
  · split
    · exact le_rfl
    · exact Nat.zero_le _
  · by_cases e : c.head = h <;> simp [e, ChannelRec.freed]
  · simp only [State.settleSuction, State.refreshWaste_book, State.setLedger_book, State.ledgerOp_book,
      State.ledgerOp_ledger, Six.get_tab]
    refine Book.ext rfl rfl ?_ (Six.ext_get _ _ fun c => ?_) (Six.ext_get _ _ fun c => ?_) rfl
    · simp [Book.setParts, Six.tab, Six.toList, Channel.all]
    · simp [Book.setParts]
    · simp [Book.setParts]

/-! ### Tickets -/

theorem State.reserveTicket_booked {t : Ticket} (ht : t ∈ s.tickets.queue) (hq : t.state = .queued) :
    Booked s (s.reserveTicket t) := by
  refine .of_move ?_ (.reserve t ht hq)
  simp [State.reserveTicket, State.reserveInk, State.holdCapDelay]

theorem State.setTicketQueue_book (q : List Ticket) : (s.setTicketQueue q).book = { s.book with queue := q } := by rfl

theorem State.removeTickets_booked (leaves : Ticket → Bool) : Booked s (s.removeTickets leaves) := by
  unfold State.removeTickets
  dsimp only
  split
  · exact Booked.refl s
  · refine .of_move ?_ (.release leaves)
    simp only [State.duePass_book, State.when_book, State.dueArbiter_book, implies_true, State.raiseIf_book,
      State.setTicketQueue_book, State.releaseInk, State.ledgerOp_book]
    rfl

/-- What leaves with a FIRING ticket is the ledger's debit and the ticket (R72). -/
theorem State.dropFiring_book (n : Nat) : (s.dropFiring n).book = s.book.keepTickets fun t => t.number != n := by rfl

theorem State.settleTicket_booked {t : Ticket} (ht : t ∈ s.tickets.queue) (hf : t.state = .firing)
    (pairs : List (Nat × Nat)) : Booked s (s.settleTicket t pairs) := by
  refine .of_move ?_ (.settle t (fun c => ((s.debits pairs).get c).1) _ ht hf (s.debits_carries pairs))
  simp only [State.settleTicket, State.raise_book, State.dropFiring_book, State.settleSwath, State.modSheet_book,
    State.ledgerOp_book]

theorem State.loseTicket_booked {t : Ticket} (ht : t ∈ s.tickets.queue) (hf : t.state = .firing) :
    Booked s (s.loseTicket t) := by
  refine .of_move ?_ (.settle t t.need.get _ ht hf s.book.carries_self)
  simp only [State.loseTicket, State.raise_book, State.dropFiring_book, State.settleLost, State.modSheet_book,
    State.debitNeed, State.ledgerOp_book]
  rw [Book.enter_congr]
  exact fun _ => rfl

theorem State.modTicket_adv_booked (n : Nat) (g : Ticket → AdvanceState) :
    Booked s (s.modTicket n fun t => { t with adv := g t }) := .of_move (s.modTicket_book n _) (.advance n g)

/-- A search from a number finds one that is taken only where the numbers that it passes are all taken. -/
theorem iterate_mem_of_firstFree_mem {taken : List Nat} {k n : Nat} (h : firstFree taken k n ∈ taken) :
    ∀ j ≤ k, nextByte^[j] n ∈ taken := by
  induction k generalizing n with
  | zero => rintro j hj; obtain rfl := Nat.le_zero.1 hj; exact h
  | succ k ih =>
    unfold firstFree at h
    split at h
    · next hn =>
      rintro (_ | j) hj
      · exact List.contains_iff_mem.1 hn
      · exact ih h j (Nat.le_of_succ_le_succ hj)
    · next hn => exact absurd (List.contains_iff_mem.2 h) hn

/-- The numbers from 1 to 255 in turn (R62). -/
theorem nextByte_iterate (n j : Nat) (hj : j ≤ 255) : nextByte^[j] n =
    if n + j ≤ max n 255 then n + j else if 255 ≤ n then j else n + j - 255 := by
  induction j with
  | zero => simp
  | succ j ih =>
    rw [Function.iterate_succ_apply', ih (by omega)]
    generalize hx : (if n + j ≤ max n 255 then n + j else if 255 ≤ n then j else n + j - 255) = x
    unfold nextByte
    clear ih
    split_ifs at hx ⊢ <;> omega

/-- Fewer tickets than numbers leave a number free, which the search finds (R62). -/
theorem State.ticketNumber_free (h : s.tickets.queue.length < Config.ticketPlaces) :
    s.ticketNumber ∉ s.tickets.queue.map Ticket.number := by
  intro hm
  have passed := iterate_mem_of_firstFree_mem hm
  have distinct : ((List.range Config.ticketPlaces).map fun j => nextByte^[j] s.tickets.nextNumber).Nodup := by
    refine List.Nodup.map_on (fun i hi j hj e => ?_) List.nodup_range
    have hi' : i < 8 := List.mem_range.1 hi
    have hj' : j < 8 := List.mem_range.1 hj
    rw [nextByte_iterate _ i (by omega), nextByte_iterate _ j (by omega)] at e
    split_ifs at e <;> omega
  have within : ((List.range Config.ticketPlaces).map fun j => nextByte^[j] s.tickets.nextNumber) ⊆
      s.tickets.queue.map Ticket.number := by
    intro x hx
    obtain ⟨j, hj, rfl⟩ := List.mem_map.1 hx
    have hj' : j < 8 := List.mem_range.1 hj
    exact passed j (by omega)
  have few := (List.subperm_of_subset distinct within).length_le
  simp at few
  omega

theorem State.appendTicket_booked (h : s.tickets.queue.length < Config.ticketPlaces) (sheet index advance : Nat)
    (predicted : Six Nat) : Booked s (s.appendTicket sheet index advance predicted) :=
  .of_move rfl (.append _ (s.ticketNumber_free h) rfl)

/-! ### Moves of the manifold, the service and the station -/

theorem State.completeStroke_booked (r : StrokeRun) (tripped : Bool) : Booked s (s.completeStroke r tripped) := by
  unfold State.completeStroke
  have drawn : Booked s ((s.setPump .free).when r.stands fun t => t.addDrawn r.source r.volume) := .of_eq (by simp)
  cases tripped
  · exact drawn.trans (State.creditStroke_booked _ _ _)
  · exact drawn.trans (State.setLevel_booked _ _ le_rfl)

theorem State.fillFound_booked (c : Channel) : Booked s (s.fillFound c) := s.setLevel_booked c le_rfl

theorem State.startStroke_book (c : Channel) : (s.startStroke c).book = s.book := by
  unfold State.startStroke
  split <;> rfl

theorem State.serveCandidate_booked (c : Channel) : Booked s (s.serveCandidate c) := by
  unfold State.serveCandidate
  repeat' split
  · exact s.fillFound_booked c
  all_goals exact .of_eq (by simp [State.startStroke_book])

theorem State.giveBack_booked : Booked s s.giveBack := by
  unfold State.giveBack
  split
  · exact Booked.refl s
  · exact s.releaseParts_booked.trans (.of_eq (by simp))

theorem State.startItem_book (i : Item) : (s.startItem i).book = s.book := by rfl

theorem State.passOver_book (i : Item) : (s.passOver i).book = s.book := by simp [State.passOver]

theorem tryItems_booked (l : List Item) : Booked s (tryItems l s) := by
  induction l generalizing s with
  | nil => exact Booked.refl s
  | cons i rest ih =>
    unfold tryItems
    split
    · exact .of_eq (s.startItem_book i)
    · split
      · exact (s.reserveService_booked i.work).trans (.of_eq (State.startItem_book _ i))
      · exact .trans (.of_eq (s.passOver_book i)) (ih _)

theorem State.enterFault_booked (w : StationCause) : Booked s (s.enterFault w) :=
  .trans (.of_eq (by simp)) (State.giveBack_booked _)

theorem State.orderTimesOut_booked : Booked s s.orderTimesOut :=
  .trans (.trans (.of_eq (by simp)) (.when _ (State.giveBack_booked _))) (.when _ (State.enterFault_booked _ _))

theorem State.endSuction_booked (r : SuctionRun) : Booked s (s.endSuction r) := by
  have settled : Booked s ((s.setPump .free).settleSuction r.head r.level (!r.orphan)) :=
    State.settleSuction_booked (s.setPump .free) _ _ _
  unfold State.endSuction
  dsimp only
  split
  · exact settled
  · exact settled.trans (.of_eq (by simp))

/-! ### Moves of the sheets and of the feed unit -/

theorem State.cancelSheet_booked (id : Nat) (o : SheetOutcome) : Booked s (s.cancelSheet id o) := by
  unfold State.cancelSheet
  dsimp only
  split
  · exact s.removeTickets_booked _
  · exact (s.removeTickets_booked _).trans (.of_eq (State.removeSheet_book _ _ _))

theorem State.cancelIf_booked (id : Nat) (o : SheetOutcome) : Booked s (s.cancelIf id o) := by
  unfold State.cancelIf
  split
  · exact Booked.refl s
  · split
    · exact s.cancelSheet_booked id o
    · exact Booked.refl s

theorem State.cancelActive_booked (o : SheetOutcome) : Booked s (s.cancelActive o) := by
  unfold State.cancelActive
  split
  · exact Booked.refl s
  · exact s.cancelIf_booked _ o

theorem State.paperEndOn_booked (r : Roll) : Booked s (s.paperEndOn r) := by
  unfold State.paperEndOn
  split
  · exact Booked.refl s
  · split
    · exact s.cancelIf_booked _ _
    · exact Booked.refl s

theorem State.stoppedPaperEnd_booked (p : Purpose) (n : Nat) : Booked s (s.stoppedPaperEnd p n) := by
  cases p with
  | tail => exact .of_eq (s.removeSheet_book n _)
  | ticket | margin | load | cut => exact s.cancelIf_booked n _

theorem State.feedFaulted_booked (o : FeedOp) : Booked s (s.feedFaulted o) := by
  unfold State.feedFaulted
  split
  · exact Booked.refl s
  · split
    · exact .of_eq (s.modSheet_book _ _)
    · exact Booked.refl s
    all_goals exact s.cancelIf_booked _ _

theorem State.advanceDone_booked (o : FeedOp) : Booked s (s.advanceDone o) := by
  unfold State.advanceDone
  split
  · exact Booked.refl s
  · split
    · have becomes_done : (fun t : Ticket => if t.adv == .running then { t with adv := .done } else t) =
          fun t => { t with adv := if t.adv == .running then .done else t.adv } := by
        funext t
        split <;> rfl
      rw [becomes_done]
      exact .trans (.of_eq (s.modSheet_book _ _)) (State.modTicket_adv_booked _ _ _)
    · repeat' split
      all_goals exact .of_eq (by simp)
    all_goals exact .of_eq (by simp)

theorem State.completeAdvance_booked (o : FeedOp) : Booked s (s.completeAdvance o) :=
  .trans (.of_eq (by simp)) (State.advanceDone_booked _ o)

theorem State.stopAdvance_booked (o : FeedOp) (r : Roll) : Booked s (s.stopAdvance o r) :=
  .trans (.trans (.of_eq (by simp)) (.when _ (State.stoppedPaperEnd_booked _ _ _))) (State.paperEndOn_booked _ r)

theorem State.faultAdvance_booked (o : FeedOp) (w : FeedCause) : Booked s (s.faultAdvance o w) :=
  .trans (.of_eq (by simp)) (State.feedFaulted_booked _ o)

theorem State.faultSwap_booked (o : FeedOp) (w : FeedCause) : Booked s (s.faultSwap o w) :=
  .trans (.of_eq (by simp)) (State.feedFaulted_booked _ o)

theorem State.requestAdvance_booked (p : Purpose) (d n k : Nat) : Booked s (s.requestAdvance p d n k) := by
  unfold State.requestAdvance
  split
  · exact s.stoppedPaperEnd_booked p n
  · exact .of_eq (s.startOp_book _ _)

theorem State.chooseAgain_book (h : Sheet) : (s.chooseAgain h).book = s.book := by
  unfold State.chooseAgain
  repeat' split
  all_goals rfl

theorem State.requestSwap_book (h : Sheet) (r : Roll) : (s.requestSwap h r).book = s.book := by
  unfold State.requestSwap
  split
  · exact s.chooseAgain_book h
  · split
    · rfl
    · exact State.proceedSwap_book _ _

theorem State.requestCut_book (h : Sheet) : (s.requestCut h).book = s.book := by
  unfold State.requestCut
  split <;> rfl

theorem State.rollLeaves_booked (r : Roll) : Booked s (s.rollLeaves r) := by
  unfold State.rollLeaves
  dsimp only
  have gone : Booked s ((s.setRoll r RollRec.absent).reportRolls s.feed.roll) := .of_eq (by simp)
  generalize (s.setRoll r RollRec.absent).reportRolls s.feed.roll = s1 at gone ⊢
  split
  case h_1 =>
    split
    · exact gone
    · split
      · exact gone
      · exact gone.trans (.trans (.of_eq (by rfl)) (State.cancelActive_booked _ _))
  case h_2 =>
    split
    · split
      · exact gone.trans (.trans (.of_eq (by rfl)) (State.feedFaulted_booked _ _))
      · exact gone
    · exact gone
  case h_3 =>
    split
    · split
      · exact gone.trans (State.faultSwap_booked _ _ _)
      · exact gone
    · exact gone
  case h_6 => exact gone
  all_goals
    split
    · exact gone
    · exact gone

end

end Sys2Proof.Machine
end

section
/-!
SUPPORT. Every reaction, the settling, every command and every step make a run of moves of the book (`step_booked`).
-/

namespace Sys2Proof.Machine

section
variable {s t : State}

/-! ### Reactions -/

theorem State.thresholds_book (h : s.thresholds = some t) : t.book = s.book := by
  unfold State.thresholds at h
  repeat' split at h
  all_goals cases h
  all_goals simp

theorem State.withdrawStep_booked (h : s.withdrawStep = some t) : Booked s t := by
  unfold State.withdrawStep at h
  split at h
  · cases h
  · next x hx =>
    split at h
    · next hc =>
      cases h
      obtain ⟨hg, -⟩ := Bool.and_eq_true_iff.1 hc
      have granted : x.state = .granted := by simpa using hg
      exact .of_move (s.modTicket_book _ _)
        (.turn x .reserved (List.mem_of_head? hx) (by rw [granted]; rfl) rfl (.inl rfl))
    · cases h

theorem State.passStep_booked (h : s.passStep = some t) : Booked s t := by
  unfold State.passStep at h
  split at h
  · split at h
    · cases h
      exact Booked.refl s
    · next x hx =>
      have queued : x.state = .queued := by simpa using List.find?_some hx
      dsimp only at h
      split at h
      · cases h
        exact s.reserveTicket_booked (List.mem_of_find?_eq_some hx) queued
      · cases h
        exact .of_eq (by simp)
  · cases h

theorem State.sheetStep_book (h : s.sheetStep = some t) : t.book = s.book := by
  unfold State.sheetStep at h
  split at h
  · cases h
    rfl
  · split at h
    · cases h
      exact s.removeSheet_book _ _
    · obtain ⟨x, -, rfl⟩ := Option.map_eq_some_iff.1 h
      unfold State.dryEnds
      split <;> simp

theorem State.examine_book (h : s.examine = some t) : t.book = s.book := by
  unfold State.examine at h
  split at h
  · obtain rfl := Option.some.inj h
    repeat' split
    all_goals simp
  · cases h

theorem State.rollsChanged_book (h : s.rollsChanged = some t) : t.book = s.book := by
  unfold State.rollsChanged at h
  split at h
  · cases h
  · obtain rfl := Option.some.inj h
    repeat' split
    all_goals simp [State.chooseAgain_book]

theorem State.askLoading_booked {h : Sheet} (e : s.askLoading h = some t) : Booked s t := by
  unfold State.askLoading at e
  split at e
  · split at e
    · cases e
      exact .of_eq (s.requestSwap_book _ _)
    · cases e
  · split at e
    · cases e
      exact s.requestAdvance_booked _ _ _ _
    · cases e
  · split at e
    · cases e
      exact .of_eq (s.chooseAgain_book _)
    · cases e
  · cases e

theorem State.askCutting_booked {h : Sheet} (e : s.askCutting h = some t) : Booked s t := by
  unfold State.askCutting at e
  split at e
  · cases e
    exact .of_eq (s.removeSheet_book _ _)
  · split at e
    · split at e
      · cases e
        exact s.requestAdvance_booked _ _ _ _
      · cases e
        exact .of_eq (s.requestCut_book _)
      · cases e
    · cases e

theorem State.sheetAsks_booked (h : s.sheetAsks = some t) : Booked s t := by
  have loading : ∀ {a : Sheet}, (if a.state == .loading then s.askLoading a else none) = some t → Booked s t := by
    intro a e
    split at e
    · exact State.askLoading_booked e
    · cases e
  unfold State.sheetAsks at h
  split at h
  · split at h
    · next hc => cases h; exact State.askCutting_booked hc
    · split at h
      · cases h
      · exact loading h
  · split at h
    · cases h
    · exact loading h

theorem State.advanceStep_booked (h : s.advanceStep = some t) : Booked s t := by
  unfold State.advanceStep at h
  split at h
  · cases h
  · split at h
    · cases h
      exact (s.modTicket_adv_booked _ fun _ => .running).trans (State.requestAdvance_booked _ _ _ _ _)
    · cases h

theorem State.serviceArbiter_booked (h : s.serviceArbiter = some t) : Booked s t := by
  unfold State.serviceArbiter at h
  split at h
  · cases h
    dsimp only
    split
    · exact (tryItems_booked _ _).from_eq (s.setDue_book _)
    · exact Booked.refl s
  · cases h

theorem State.strokeStep_booked (h : s.strokeStep = some t) : Booked s t := by
  obtain ⟨e, -, ha | ⟨-, rfl⟩⟩ := State.strokeStep_cases h
  · exact State.serviceArbiter_booked ha
  · exact .of_eq (State.afterStroke_book _ _ _)

theorem State.pumpArbiter_booked (h : s.pumpArbiter = some t) : Booked s t := by
  unfold State.pumpArbiter at h
  split at h
  · cases h
  · cases h
  · split at h
    · cases h
      exact Booked.refl s
    · obtain ⟨c, -, rfl⟩ := Option.map_eq_some_iff.1 h
      exact s.serveCandidate_booked c

@[simp] theorem State.startCap_book (s : State) : s.startCap.book = s.book := by simp [State.startCap]

@[simp] theorem State.startUncap_book (s : State) : s.startUncap.book = s.book := by simp [State.startUncap]

theorem State.askSuction_book (s : State) (h : Head) (l : Nat) : (s.askSuction h l).book = s.book := by
  simp [State.askSuction]

theorem State.bringParked_book (h : s.bringParked = some t) : t.book = s.book := by
  unfold State.bringParked at h
  split at h
  · cases h; rfl
  · cases h

theorem State.bringMove_book {mv : State → State} (hm : (mv s).book = s.book) (h : s.bringMove mv = some t) :
    t.book = s.book := by
  unfold State.bringMove at h
  split at h
  · cases h; exact hm
  · exact State.bringParked_book h

theorem State.placeStageOrder_book {w : Work} {k : OrderKind} {d : Nat} (h : s.placeStageOrder w k d = some t) :
    t.book = s.book := by
  unfold State.placeStageOrder at h
  split at h
  · split at h
    · cases h; rfl
    · cases h
  · exact State.bringMove_book s.startUncap_book h
  all_goals cases h

theorem State.doStage_book {w : Work} {g : Stage} (h : s.doStage w g = some t) : t.book = s.book := by
  unfold State.doStage at h
  split at h
  case h_6 | h_7 => exact State.placeStageOrder_book h
  case h_1 =>
    split at h
    · cases h; exact s.endStage_book
    · exact State.bringParked_book h
  case h_2 =>
    split at h
    · cases h; exact s.endStage_book
    · exact State.bringMove_book s.startCap_book h
    all_goals cases h
  case h_3 =>
    split at h
    · cases h; exact s.endStage_book
    · exact State.bringMove_book s.startUncap_book h
    all_goals cases h
  case h_4 =>
    split at h
    · exact State.bringMove_book (by rfl) h
    · exact State.bringMove_book s.startUncap_book h
    all_goals cases h
  case h_5 =>
    split at h
    · split at h
      · cases h
      · obtain rfl := Option.some.inj h
        exact s.askSuction_book _ _
    · exact State.bringMove_book s.startCap_book h
    · cases h

theorem State.driveStage_book (h : s.driveStage = some t) : t.book = s.book := by
  unfold State.driveStage at h
  split at h
  · cases h
  · split at h
    · cases h
    · split at h
      · exact State.doStage_book h
      · cases h

theorem State.capDueActs_book (h : s.capDueActs = some t) : t.book = s.book := by
  unfold State.capDueActs at h
  repeat' split at h
  all_goals cases h
  all_goals simp [State.placePark]

theorem State.uncapForTicket_book (h : s.uncapForTicket = some t) : t.book = s.book := by
  unfold State.uncapForTicket at h
  split at h
  · cases h; exact s.startUncap_book
  · cases h

theorem State.grantStep_booked (h : s.grantStep = some t) : Booked s t := by
  unfold State.grantStep at h
  split at h
  · cases h
  · next x hx =>
    split at h
    · next hc =>
      cases h
      have reserved : x.state = .reserved := by simp only [Bool.and_eq_true, beq_iff_eq] at hc; exact hc.1.1
      exact .of_move (s.modTicket_book _ _)
        (.turn x .granted (List.mem_of_head? hx) (by rw [reserved]; rfl) rfl (.inr (.inr hx)))
    · cases h

theorem reactions_booked {f : State → Option State} (hf : f ∈ reactions) (h : f s = some t) : Booked s t := by
  simp only [reactions, List.mem_cons, List.not_mem_nil, or_false] at hf
  rcases hf with rfl | rfl | rfl | rfl | rfl | rfl | rfl | rfl | rfl | rfl | rfl | rfl | rfl | rfl | rfl | rfl | rfl
  · exact .of_eq (State.thresholds_book h)
  · exact State.withdrawStep_booked h
  · exact State.passStep_booked h
  · exact .of_eq (State.sheetStep_book h)
  · exact .of_eq (State.examine_book h)
  · exact .of_eq (State.rollsChanged_book h)
  · exact State.sheetAsks_booked h
  · exact State.advanceStep_booked h
  · exact .of_eq (State.sessionStep_book h)
  · exact State.strokeStep_booked h
  · exact State.pumpArbiter_booked h
  · exact State.serviceArbiter_booked h
  · exact .of_eq (State.driveStage_book h)
  · exact .of_eq (State.capDueActs_book h)
  · exact .of_eq (State.uncapForTicket_book h)
  · exact State.grantStep_booked h
  · exact .of_eq (State.startLink_book h)

theorem follow_booked (n : Nat) (s : State) : Booked s (follow n s) := by
  induction n generalizing s with
  | zero => exact Booked.refl s
  | succ n ih =>
    unfold follow
    split
    · exact Booked.refl s
    · next t h =>
      obtain ⟨f, hf, hs⟩ := List.exists_of_findSome?_eq_some h
      exact (reactions_booked hf hs).trans (ih t)

theorem State.settle_booked (s : State) : Booked s s.settle := (follow_booked _ s).trans (.when _ (Booked.refl _))

/-- What the reactions make of a state that a run has reached. -/
theorem Booked.settle (h : Booked s t) : Booked s t.settle := h.trans t.settle_booked

theorem State.wake_booked (s : State) : Booked s s.wake := by
  unfold State.wake
  split
  · exact .settle (.of_eq s.enterRun_book)
  · exact Booked.refl s

/-! ### The frames of the commands -/

theorem State.takeWrite_booked (p : Port) (cmd : Command) (n : Nat) {d : State → Answer} (h : Booked s (d s).after) :
    Booked s (s.takeWrite p cmd n d) := by
  unfold State.takeWrite
  split
  · exact Booked.refl s
  · split
    · exact (State.wake_booked _).from_eq (s.replied_book s p cmd.code .notThisPort 0 n)
    · split
      · exact (State.wake_booked _).from_eq (s.replied_book s p cmd.code .asleep 0 n)
      · exact h.trans (.of_eq (State.replied_book _ _ _ _ _ _ _))

theorem State.takeRead_booked (s : State) (p : Port) (cmd : Command) (bits : Nat) (data : List Byte) :
    Booked s (s.takeRead p cmd bits data id) := by
  unfold State.takeRead
  split
  · exact Booked.refl s
  · split
    · exact (State.wake_booked _).from_eq (s.modPort_book p _)
    · split
      · exact (State.wake_booked _).from_eq (s.modPort_book p _)
      · exact .of_eq (s.modPort_book p _)

theorem State.takePart_booked (s : State) (p : Port) (cmd : Command) (c : Clocks) (data : List Byte)
    (act : PortRec → PortRec) : Booked s (s.takePart p cmd c data act) := by
  unfold State.takePart
  dsimp only
  split
  · exact Booked.refl s
  · split
    · exact (Booked.when _ (State.wake_booked _)).from_eq (s.modPort_book p _)
    · exact (Booked.when _ (State.wake_booked _)).from_eq (s.modPort_book p _)

theorem State.discard_booked (s : State) (p : Port) (bits : Nat) : Booked s (s.discard p bits) := by
  unfold State.discard
  split
  · exact Booked.refl s
  · exact (State.wake_booked _).from_eq (by rfl)

/-- A sensor change sets its pins and, unless the line is held, acts. -/
theorem State.sensed_booked {act : State → State} (hs : s.book = t.book) (h : Booked t (act t)) :
    Booked s (t.sensed act) := by
  unfold State.sensed
  split
  · exact .of_eq hs.symm
  · exact .trans (.of_eq hs.symm) h

theorem State.sensedSome_booked {act : State → Option State} (hs : s.book = t.book)
    (h : ∀ u, act t = some u → Booked t u) : Booked s (t.sensedSome act) := by
  refine State.sensed_booked hs ?_
  cases hu : act t with
  | none => exact Booked.refl t
  | some u => exact (h u hu).settle

theorem State.sensedAwake_booked {act : State → State} (hs : s.book = t.book) (h : ∀ u, Booked u (act u)) :
    Booked s (t.sensedAwake act) :=
  State.sensed_booked hs (.settle (t.wake_booked.trans (h _)))

end

end Sys2Proof.Machine
end

section
/-!
SUPPORT. Every command and every step makes a run of moves of the book (`step_booked`).
-/

namespace Sys2Proof.Machine

section
variable (s : State)

/-! ### The commands of all ports -/

theorem decideTableSel_booked (p : Port) (table place : Nat) : Booked s (decideTableSel p table place s).after := by
  unfold decideTableSel
  split
  · exact Booked.refl s
  split
  · exact Booked.refl s
  split
  · exact Booked.refl s
  exact .of_eq (s.modPort_book p _)

/-! ### The Raster Port -/

theorem decideSheetOpen_booked (pref media width planned top bottom dry mode : Nat) :
    Booked s (decideSheetOpen pref media width planned top bottom dry mode s).after := by
  unfold decideSheetOpen
  split
  · exact Booked.refl s
  split
  swap
  · exact Booked.refl s
  split
  · exact Booked.refl s
  split
  · exact Booked.refl s
  exact .settle (.of_eq (by rfl))

theorem decideSheetClose_booked (id final : Nat) : Booked s (decideSheetClose id final s).after := by
  unfold decideSheetClose
  split
  · exact Booked.refl s
  split
  · exact Booked.refl s
  split
  · exact Booked.refl s
  split
  · exact Booked.refl s
  split
  · exact Booked.refl s
  exact .settle (.of_eq (by rfl))

theorem decideSheetCancel_booked (id : Nat) : Booked s (decideSheetCancel id s).after := by
  unfold decideSheetCancel
  split
  · exact Booked.refl s
  split
  · exact Booked.refl s
  split
  · exact Booked.refl s
  split
  case h_4 | h_5 => exact .settle (.of_eq (s.removeSheet_book id _))
  case h_6 | h_7 | h_8 => exact (s.cancelSheet_booked id _).settle
  all_goals exact Booked.refl s

theorem decideSwathAsk_booked (sheet index advance count : Nat) (pairs : List (Nat × Nat)) :
    Booked s (decideSwathAsk sheet index advance count pairs s).after := by
  unfold decideSwathAsk
  split
  · exact Booked.refl s
  split
  · exact Booked.refl s
  split
  · exact Booked.refl s
  dsimp only
  split
  · exact Booked.refl s
  split
  · exact Booked.refl s
  next room =>
    split
    · exact Booked.refl s
    split
    · exact Booked.refl s
    exact (s.appendTicket_booked (Nat.lt_of_not_le room) sheet index advance (pairCounts pairs)).settle

theorem decideSwathWithdraw_booked (n : Nat) : Booked s (decideSwathWithdraw n s).after := by
  unfold decideSwathWithdraw
  split
  · exact Booked.refl s
  split
  · exact Booked.refl s
  split
  · exact Booked.refl s
  exact (s.removeTickets_booked _).settle

/-! ### The Carriage Port -/

theorem State.takeTicket_booked {n : Nat} {t : Ticket} (ht : s.findTicket n = some t) (hg : t.state = .granted) :
    Booked s (s.takeTicket n) := by
  have named : t.number = n := by simpa using List.find?_some ht
  subst named
  exact .of_move rfl
    (.turn t .firing (List.mem_of_find?_eq_some ht) (by rw [hg]; rfl) rfl (.inr (.inl (by rw [hg]; decide))))

theorem decideSwathTake_booked (n : Nat) : Booked s (decideSwathTake n s).after := by
  unfold decideSwathTake
  split
  · exact Booked.refl s
  split
  · exact Booked.refl s
  next t ht =>
    split
    · exact Booked.refl s
    split
    · next hg => exact (s.takeTicket_booked ht hg).settle
    · exact Booked.refl s

theorem decideSwathDone_booked (n count : Nat) (pairs : List (Nat × Nat)) :
    Booked s (decideSwathDone n count pairs s).after := by
  unfold decideSwathDone
  split
  · exact Booked.refl s
  split
  · exact Booked.refl s
  split
  · exact Booked.refl s
  next t ht =>
    split
    · exact Booked.refl s
    split
    · next hf => exact (s.settleTicket_booked (List.mem_of_find?_eq_some ht) hf pairs).settle
    · exact Booked.refl s

theorem State.reportParked_book : s.reportParked.book = s.book := by simp [State.reportParked]

theorem State.reportAway_booked : Booked s s.reportAway := by
  unfold State.reportAway
  dsimp only
  split
  · exact Booked.refl s
  · exact Booked.refl s
  all_goals exact (State.enterFault_booked _ _).from_eq (s.setStation_book _)

theorem decideParkState_booked (code : Nat) : Booked s (decideParkState code s).after := by
  unfold decideParkState
  split
  · exact Booked.refl s
  · exact .settle (.of_eq s.reportParked_book)
  · exact s.reportAway_booked.settle

theorem State.spitDone_booked (pairs : List (Nat × Nat)) : Booked s (s.spitDone pairs) :=
  (s.settleSpit_booked s.station.order.mask pairs).trans (.of_eq (by simp [State.spitDone]))

theorem decideOrderDone_booked (kind count : Nat) (pairs : List (Nat × Nat)) (reports : List CheckReport) :
    Booked s (decideOrderDone kind count pairs reports s).after := by
  have spit : Booked s (decideSpitDone count pairs s).after := by
    unfold decideSpitDone
    split
    · exact Booked.refl s
    split
    · exact Booked.refl s
    split
    · exact Booked.refl s
    exact (s.spitDone_booked pairs).settle
  have check : Booked s (decideCheckDone count reports s).after := by
    unfold decideCheckDone
    split
    · exact Booked.refl s
    split
    · exact Booked.refl s
    split
    · exact Booked.refl s
    split
    · exact Booked.refl s
    exact .settle (.of_eq (by simp [State.checkDone]))
  unfold decideOrderDone
  repeat' split
  · exact Booked.refl s
  · exact spit
  · exact check
  · exact Booked.refl s

/-! ### The Panel Port -/

theorem State.goRun_book : s.goRun.book = s.book := by simp [State.goRun]

theorem decideGo_booked : Booked s (decideGo s).after := by
  unfold decideGo
  split
  · exact .settle (.of_eq s.goRun_book)
  · exact Booked.refl s

theorem decideSleepNow_booked : Booked s (decideSleepNow s).after := by
  unfold decideSleepNow
  split
  · exact .of_eq s.enterSleep_book
  · exact Booked.refl s

theorem State.recomputeLevels_book : s.recomputeLevels.book = s.book.recompute := by
  simp only [State.recomputeLevels, State.raiseLevels_book]
  rfl

/-- A parameter other than F and S leaves them. -/
theorem Params.put_floors (p : Params) {n : Nat} (v : Nat) (h2 : n ≠ 2) (h3 : n ≠ 3) :
    (p.put n v).floor = p.floor ∧ (p.put n v).reserve = p.reserve := by
  unfold Params.put
  split <;> simp_all

/-- A value of F or S has every level state recomputed; any other parameter leaves them as they are (R183). -/
theorem State.applyParam_booked (n v : Nat) : Booked s (s.applyParam n v) := by
  unfold State.applyParam
  split
  · exact Booked.refl s
  · have floors : Booked s (s.setParams (s.params.put n v)).recomputeLevels.duePass.settle :=
      .settle (.of_move (State.recomputeLevels_book _) (.floors _))
    by_cases h2 : n = 2
    · subst h2; exact floors
    · by_cases h3 : n = 3
      · subst h3; exact floors
      · obtain ⟨hf, hr⟩ := Params.put_floors s.params v h2 h3
        have applied : Booked s (s.setParams (s.params.put n v)) := .of_move rfl (.params _ hf hr)
        refine applied.trans ?_
        unfold State.paramActs
        split
        · exact absurd rfl h2
        · exact absurd rfl h3
        · exact State.settle_booked _
        · exact State.settle_booked _
        · exact .of_eq (by simp)
        · exact .of_eq (by simp)
        · exact .of_eq (by simp)
        · exact .of_eq (by simp)
        · exact .settle (.of_eq (by simp))
        · exact Booked.refl _

/-- A clamped drop volume is in its range (11.3). -/
theorem clampParam_dv (v : Nat) : 10 ≤ clampParam 1 v ∧ clampParam 1 v ≤ 255 := by
  simp only [clampParam, clampRange]
  omega

theorem decideConfigSet_booked (n mask v : Nat) : Booked s (decideConfigSet n mask v s).after := by
  unfold decideConfigSet
  split
  · exact Booked.refl s
  · split
    · exact Booked.refl s
    · split
      · unfold decideDv
        split
        · exact Booked.refl s
        · next m _ =>
          split
          · exact Booked.refl s
          · exact .of_move rfl (.drops m (clampParam 1 v) (clampParam_dv v).1 (clampParam_dv v).2)
      · split
        · exact Booked.refl s
        · split
          · exact Booked.refl s
          · exact s.applyParam_booked _ _

theorem decideSlotMapSet_booked (entries : Eight Nat) : Booked s (decideSlotMapSet entries s).after := by
  unfold decideSlotMapSet
  split
  · exact Booked.refl s
  split
  · exact Booked.refl s
  split
  · exact Booked.refl s
  split
  · exact Booked.refl s
  split
  · exact Booked.refl s
  dsimp only [Answer.accept]
  exact .settle (.of_eq (s.takeMap_book _))

theorem decideTankAccept_booked (slot ml : Nat) : Booked s (decideTankAccept slot ml s).after := by
  unfold decideTankAccept
  split
  · exact Booked.refl s
  split
  · exact Booked.refl s
  split
  · exact .settle (.of_eq (s.acceptTank_book _ _ _))
  · exact Booked.refl s

theorem decideLevelRestore_booked (channel level : Nat) : Booked s (decideLevelRestore channel level s).after := by
  unfold decideLevelRestore
  split
  · exact Booked.refl s
  split
  · exact Booked.refl s
  exact (s.setLevel_booked _ (Nat.min_le_right _ _)).settle

theorem decideRetiredRestore_booked (channel count : Nat) (indices : List Nat) :
    Booked s (decideRetiredRestore channel count indices s).after := by
  unfold decideRetiredRestore
  split
  · exact Booked.refl s
  split
  · exact Booked.refl s
  split
  · exact Booked.refl s
  exact .of_eq (s.putNozzles_book _)

theorem decideRollLoad_booked (roll media width length : Nat) : Booked s (decideRollLoad roll media width length s).after := by
  unfold decideRollLoad
  split
  · exact Booked.refl s
  split
  · exact Booked.refl s
  split
  · exact Booked.refl s
  exact .settle (.of_eq (State.reportRolls_book _ _))

theorem decideCleanAsk_booked (mask level urgency : Nat) : Booked s (decideCleanAsk mask level urgency s).after := by
  unfold decideCleanAsk
  split
  · exact Booked.refl s
  split
  · exact Booked.refl s
  split
  · exact .settle (.of_eq (s.requestCheck_book _))
  split
  · exact Booked.refl s
  exact .settle (.of_eq (by simp [State.panelCleans]))

theorem decideFeedClear_booked : Booked s (decideFeedClear s).after := by
  unfold decideFeedClear
  split
  · exact Booked.refl s
  dsimp only
  split
  · exact Booked.refl s
  exact .settle (.of_eq (State.reportRolls_book _ _))

theorem decideStationClear_booked (park : ParkState) : Booked s (decideStationClear park s).after := by
  unfold decideStationClear
  split
  · exact Booked.refl s
  dsimp only
  split
  · exact .settle (.of_eq (by simp [State.stationCleared]))
  · exact Booked.refl s

/-! ### Resets -/

theorem State.raiseSurveys_book (f : Bool) : (s.raiseSurveys f).book = s.book := by simp [State.raiseSurveys]

theorem State.powerUp_booked (why : ResetCause) (park : ParkState) : Booked s (s.powerUp why park) :=
  .settle (.of_move (State.raiseSurveys_book _ _) .power)

theorem State.setTickets_book (x : Admission) : (s.setTickets x).book = { s.book with queue := x.queue } := by rfl

theorem State.setMode_book {x : ModeUnit} (h : x.params = s.mode.params) : (s.setMode x).book = s.book := by
  simp only [State.book, State.setMode_mode, State.setMode_ledger, State.setMode_tickets, h]

theorem Book.keepTickets_none (b : Book) : (b.keepTickets fun _ => false) = { b with queue := [] } := by
  simp [Book.keepTickets]

/-- R38: the ledger's part of a soft reset. -/
theorem State.softLedger_book : s.softLedger.book =
    ((s.book.enter fun c r => { r with level := r.level - (s.firingNeed c + s.suctionDebit c), rs := 0, rv := 0 }).setParts 0
      (fun _ => 0) (fun _ => 0)).recompute := by
  simp only [State.softLedger, State.refreshWaste_book, State.recomputeLevels_book, State.setLedger_book,
    State.ledgerOp_book, State.ledgerOp_ledger]
  rfl

/-- Beside the ledger's part a soft reset has the tickets leave. -/
theorem State.softReset_book (park : ParkState) : (s.softReset park).book =
    ((s.setPorts (PerPort.const PortRec.reset)).setPins { s.pins with parkSwitch := park }).softLedger.book.keepTickets
      fun _ => false := by
  unfold State.softReset
  rw [Book.keepTickets_none, State.enterRun_book, State.setMode_book, State.raiseSurveys_book, State.resetLink_book,
    State.setService_book, State.setStation_book, State.setFeed_book, State.setSheets_book, State.setTickets_book,
    State.setManifold_book]
  rfl

theorem State.softReset_booked (park : ParkState) : Booked s (s.softReset park) :=
  .of_move ((s.softReset_book park).trans
    (congrArg (fun b : Book => b.keepTickets fun _ => false) (State.softLedger_book _))) (.soft _)

end

/-! ### Sensor changes and timers -/

section
variable {s t : State}

theorem State.strokeExpires_booked (h : s.strokeExpires = some t) : Booked s t := by
  unfold State.strokeExpires at h
  split at h
  · cases h; exact s.completeStroke_booked _ _
  · cases h
  · cases h

theorem State.suctionExpires_booked (h : s.suctionExpires = some t) : Booked s t := by
  unfold State.suctionExpires at h
  split at h
  · cases h; exact s.endSuction_booked _
  · cases h
  · cases h

theorem State.paperEnds_booked (h : s.paperEnds = some t) : Booked s t := by
  unfold State.paperEnds at h
  split at h
  · cases h
  · next r _ =>
    have ended : Booked s (((s.modPathRoll RollRec.ended).reportRolls s.feed.roll).paperEndOn r) :=
      (State.paperEndOn_booked _ r).from_eq (by simp)
    split at h
    · cases h
    · split at h
      · obtain ⟨o, -, rfl⟩ := Option.map_eq_some_iff.1 h
        exact s.stopAdvance_booked o r
      · cases h; exact ended
      · cases h; exact ended
      · cases h; exact ended
      · cases h
      · cases h

theorem State.threadChanges_booked {present : Bool} (h : s.threadChanges present = some t) : Booked s t := by
  unfold State.threadChanges at h
  split at h
  · split at h
    · cases h
    · split at h
      · cases h; exact .of_eq (s.setFeed_book _)
      · cases h; exact (State.cancelActive_booked _ _).from_eq (s.pathFaults_book _ _)
  · split at h
    · cases h
    · obtain ⟨o, -, rfl⟩ := Option.map_eq_some_iff.1 h
      exact s.faultAdvance_booked o _
  · obtain ⟨o, -, rfl⟩ := Option.map_eq_some_iff.1 h
    exact .of_eq (s.proceedSwap_book o)
  all_goals cases h

theorem State.actuatorReports_book (h : s.actuatorReports = some t) : t.book = s.book := by
  unfold State.actuatorReports at h
  split at h
  · cases h; exact s.proceedSwap_book _
  · cases h

theorem State.cutterReports_book {home : Bool} (h : s.cutterReports home = some t) : t.book = s.book := by
  unfold State.cutterReports at h
  split at h
  · split at h
    · split at h
      · cases h; exact s.completeCut_book _
      · cases h
    · cases h; rfl
  · cases h

theorem State.moveEnds_booked (h : s.moveEnds = some t) : Booked s t := by
  unfold State.moveEnds at h
  split at h
  · cases h; exact s.completeAdvance_booked _
  · cases h

theorem State.watchdogExpires_booked (h : s.watchdogExpires = some t) : Booked s t := by
  unfold State.watchdogExpires at h
  split at h
  · cases h; exact s.faultAdvance_booked _ _
  · cases h

theorem State.swapExpires_booked (h : s.swapExpires = some t) : Booked s t := by
  unfold State.swapExpires at h
  split at h
  · cases h; exact s.faultSwap_booked _ _
  · cases h

theorem State.cutExpires_book (h : s.cutExpires = some t) : t.book = s.book := by
  unfold State.cutExpires at h
  split at h
  · cases h; rfl
  all_goals cases h

theorem State.capReports_book {x : CapReading} (h : s.capReports x = some t) : t.book = s.book := by
  unfold State.capReports at h
  split at h
  · split at h
    · cases h; exact s.enterCapped_book
    · cases h
  · split at h
    · cases h; exact s.enterOpen_book
    · cases h
  · cases h

theorem State.capMoveExpires_booked (h : s.capMoveExpires = some t) : Booked s t := by
  unfold State.capMoveExpires at h
  split at h
  · split at h
    · cases h
    · cases h; exact s.enterFault_booked _
  · cases h

theorem State.wipeExpires_book (h : s.wipeExpires = some t) : t.book = s.book := by
  unfold State.wipeExpires at h
  split at h
  · split at h
    · cases h; simp
    · cases h
  · cases h

theorem State.capDelayExpires_book (h : s.capDelayExpires = some t) : t.book = s.book := by
  unfold State.capDelayExpires at h
  split at h
  · cases h; rfl
  · cases h

theorem State.exposureReaches_book {x : Head} {ms : Nat} (h : s.exposureReaches x ms = some t) : t.book = s.book := by
  unfold State.exposureReaches at h
  split at h
  · cases h; rfl
  · cases h

theorem State.orderExpires_booked (h : s.orderExpires = some t) : Booked s t := by
  unfold State.orderExpires at h
  split at h
  · cases h; exact s.orderTimesOut_booked
  · cases h

theorem State.swathExpires_booked (h : s.swathExpires = some t) : Booked s t := by
  obtain ⟨x, hx, rfl⟩ := Option.map_eq_some_iff.1 h
  have firing : x.state = .firing := by simpa using List.find?_some hx
  exact s.loseTicket_booked (List.mem_of_find?_eq_some hx) firing

theorem State.dryExpires_book {id : Nat} (h : s.dryExpires id = some t) : t.book = s.book := by
  unfold State.dryExpires at h
  split at h
  · cases h; rfl
  · cases h

end

/-! ### Commands and steps -/

/-- Every command makes a run of moves of the book. -/
theorem exec_booked {c : Instr} {s t : State} (h : exec c s = .next t) : Booked s t := by
  cases c
  all_goals obtain rfl := Host.Outcome.next.inj h
  case powerOn => exact s.powerUp_booked _ _
  case resetLineAssert => exact Booked.refl s
  case resetLineRelease =>
    split
    · exact s.powerUp_booked _ _
    · exact Booked.refl s
  case frameError => exact s.discard_booked _ _
  case unknownCommand =>
    split
    · exact Booked.refl s
    · exact (State.wake_booked _).from_eq (s.replied_book s _ _ _ _ _)
  case getStatus =>
    split
    · exact Booked.refl s
    · exact Booked.refl s
  case getReply => exact s.takeRead_booked _ _ _ _
  case getOrder => exact s.takeRead_booked _ _ _ _
  case getEvents => exact s.takePart_booked _ _ _ _ _
  case tableRead => exact s.takePart_booked _ _ _ _ _
  case setEventMask => exact State.takeWrite_booked _ _ _ (Booked.refl s)
  case tableSel => exact State.takeWrite_booked _ _ _ (decideTableSel_booked s _ _ _)
  case sheetOpen => exact State.takeWrite_booked _ _ _ (decideSheetOpen_booked s _ _ _ _ _ _ _ _)
  case sheetClose => exact State.takeWrite_booked _ _ _ (decideSheetClose_booked s _ _)
  case sheetCancel => exact State.takeWrite_booked _ _ _ (decideSheetCancel_booked s _)
  case swathAsk => exact State.takeWrite_booked _ _ _ (decideSwathAsk_booked s _ _ _ _ _)
  case swathWithdraw => exact State.takeWrite_booked _ _ _ (decideSwathWithdraw_booked s _)
  case swathTake => exact State.takeWrite_booked _ _ _ (decideSwathTake_booked s _)
  case swathDone => exact State.takeWrite_booked _ _ _ (decideSwathDone_booked s _ _ _)
  case parkState => exact State.takeWrite_booked _ _ _ (decideParkState_booked s _)
  case orderDone => exact State.takeWrite_booked _ _ _ (decideOrderDone_booked s _ _ _ _)
  case go => exact State.takeWrite_booked _ _ _ (decideGo_booked s)
  case configSet => exact State.takeWrite_booked _ _ _ (decideConfigSet_booked s _ _ _)
  case configLock => exact State.takeWrite_booked _ _ _ (Booked.refl s)
  case slotMapSet => exact State.takeWrite_booked _ _ _ (decideSlotMapSet_booked s _)
  case tankAccept => exact State.takeWrite_booked _ _ _ (decideTankAccept_booked s _ _)
  case levelRestore => exact State.takeWrite_booked _ _ _ (decideLevelRestore_booked s _ _)
  case retiredRestore => exact State.takeWrite_booked _ _ _ (decideRetiredRestore_booked s _ _ _)
  case rollLoad => exact State.takeWrite_booked _ _ _ (decideRollLoad_booked s _ _ _ _)
  case cleanAsk => exact State.takeWrite_booked _ _ _ (decideCleanAsk_booked s _ _ _)
  case feedClear => exact State.takeWrite_booked _ _ _ (decideFeedClear_booked s)
  case stationClear => exact State.takeWrite_booked _ _ _ (decideStationClear_booked s _)
  case sleepNow => exact State.takeWrite_booked _ _ _ (decideSleepNow_booked s)
  case hubReset park =>
    split
    · exact (s.softReset_booked park).settle.trans (.of_eq (State.modPort_book _ _ _))
    · exact State.takeWrite_booked _ _ _ (Booked.refl s)
  case probeTrip c wet =>
    refine State.sensedSome_booked (s.setPins_book _).symm fun u hu => ?_
    split at hu
    · obtain ⟨r, -, rfl⟩ := Option.map_eq_some_iff.1 hu
      exact State.completeStroke_booked _ _ _
    · cases hu
  case strokeTimerExpiry => exact State.sensedSome_booked rfl fun u hu => State.strokeExpires_booked hu
  case suctionStageEnd => exact State.sensedSome_booked rfl fun u hu => State.suctionExpires_booked hu
  case slotTankArrival =>
    split
    · exact Booked.refl s
    · exact State.sensedAwake_booked (by rfl) fun u => .of_eq (u.tankArrives_book _)
  case slotTankRemoval =>
    split
    · exact State.sensedAwake_booked (by rfl) fun u => .of_eq (u.tankLeaves_book _)
    · exact Booked.refl s
  case wasteCartridgeArrival =>
    split
    · exact Booked.refl s
    · exact State.sensedAwake_booked (by rfl) fun u => .of_eq u.wasteArrives_book
  case wasteCartridgeRemoval =>
    split
    · exact State.sensedAwake_booked (by rfl) fun u => .of_eq u.wasteLeaves_book
    · exact Booked.refl s
  case linkAnswer => exact State.sensedSome_booked rfl fun u hu => .of_eq (State.linkAnswers_book hu)
  case linkAnswerTimeout => exact State.sensedSome_booked rfl fun u hu => .of_eq (State.answerTimesOut_book hu)
  case busyTimeout => exact State.sensedSome_booked rfl fun u hu => .of_eq (State.waitTimesOut_book hu)
  case rollArrival =>
    split
    · exact Booked.refl s
    · exact State.sensedAwake_booked (by rfl) fun u => .of_eq (State.reportRolls_book _ _)
  case rollRemoval =>
    split
    · exact State.sensedAwake_booked (by rfl) fun u => u.rollLeaves_booked _
    · exact Booked.refl s
  case paperEnd =>
    refine State.sensedSome_booked (s.setPins_book _).symm fun u hu => ?_
    split at hu
    · cases hu
    · exact State.paperEnds_booked hu
  case threadSensorChange =>
    exact State.sensedSome_booked (s.setPins_book _).symm fun u hu => State.threadChanges_booked hu
  case actuatorPositionReport =>
    exact State.sensedSome_booked (s.setPins_book _).symm fun u hu => .of_eq (State.actuatorReports_book hu)
  case cutterHomeSwitchChange =>
    exact State.sensedSome_booked (s.setPins_book _).symm fun u hu => .of_eq (State.cutterReports_book hu)
  case endOfMove => exact State.sensedSome_booked rfl fun u hu => State.moveEnds_booked hu
  case advanceWatchdogExpiry => exact State.sensedSome_booked rfl fun u hu => State.watchdogExpires_booked hu
  case swapTimerExpiry => exact State.sensedSome_booked rfl fun u hu => State.swapExpires_booked hu
  case cutTimerExpiry => exact State.sensedSome_booked rfl fun u hu => .of_eq (State.cutExpires_book hu)
  case capSensorReport =>
    exact State.sensedSome_booked (s.setPins_book _).symm fun u hu => .of_eq (State.capReports_book hu)
  case capMoveTimerExpiry => exact State.sensedSome_booked rfl fun u hu => State.capMoveExpires_booked hu
  case wipeTimerExpiry => exact State.sensedSome_booked rfl fun u hu => .of_eq (State.wipeExpires_book hu)
  case capDelayExpiry => exact State.sensedSome_booked rfl fun u hu => .of_eq (State.capDelayExpires_book hu)
  case exposureSpitThreshold => exact State.sensedSome_booked rfl fun u hu => .of_eq (State.exposureReaches_book hu)
  case exposureCleanThreshold => exact State.sensedSome_booked rfl fun u hu => .of_eq (State.exposureReaches_book hu)
  case orderTimerExpiry => exact State.sensedSome_booked rfl fun u hu => State.orderExpires_booked hu
  case swathTimerExpiry => exact State.sensedSome_booked rfl fun u hu => State.swathExpires_booked hu
  case dryTimerExpiry => exact State.sensedSome_booked rfl fun u hu => .of_eq (State.dryExpires_book hu)
  case idleSleepExpiry =>
    refine State.sensed_booked rfl ?_
    split
    · exact .of_eq s.enterSleep_book
    · exact Booked.refl s
  case idleServiceExpiry =>
    refine State.sensed_booked rfl ?_
    split
    · exact .settle (.of_eq (by simp))
    · exact Booked.refl s

/-- A millisecond, or a timer put into the queue, makes a run of moves of the book. -/
theorem State.tick_booked (s : State) : Booked s s.tick := by
  unfold State.tick
  split
  · exact Booked.refl s
  · split
    · split <;> exact Booked.refl s
    · split
      · exact Booked.refl s
      · exact .settle (Booked.refl s)

/-- Every step makes a run of moves of the book. -/
theorem step_booked {s t : State} (h : step s = .next t) : Booked s t := by
  unfold step at h
  split at h
  · obtain rfl := Host.Outcome.next.inj h
    exact s.tick_booked
  · exact (exec_booked h).from_eq (s.setPending_book _)

end Sys2Proof.Machine
end

section
namespace Sys2Proof.Machine

/-- Settles O55: each move of the book keeps carries, drop volumes and level states right, and a step is a run of moves. -/
theorem stepsKeepLedgerCurrent : Obligations.StepsKeepLedgerCurrent := by
  intro s t hc hl h
  have run := step_booked h
  exact ⟨run.keeps (P := Book.Legal) (fun _ _ => Book.Move.keeps_legal) hc,
    run.keeps (P := Book.Current) (fun _ _ => Book.Move.keeps_current) hl⟩

/-- The sums of the ledger are facts about its book. -/
theorem State.reservations_iff (s : State) : s.Reservations ↔ s.book.Balanced :=
  ⟨fun h => ⟨h.swath, h.service, h.waste, h.level, h.numbers, h.oldest⟩,
    fun h => ⟨h.swath, h.service, h.waste, h.level, h.numbers, h.oldest⟩⟩

/-- Settles O57: each move of the book keeps the sums of the ledger, and a step is a run of moves. -/
theorem stepsKeepReservations : Obligations.StepsKeepReservations := by
  intro s t hs h
  exact t.reservations_iff.2 ((step_booked h).keeps (fun _ _ => Book.Move.keeps_balanced) (s.reservations_iff.1 hs))

end Sys2Proof.Machine
end

section
/-!
SUPPORT. The supply manifold: what the updates of a session leave in it, the arithmetic of the stroke test, and the ways the
stroke test and an iteration of the arbiter can go.
-/

namespace Sys2Proof.Machine

section
variable (s : State) (c : Channel)

/-! ### Sessions after an update -/

@[simp] theorem State.setSession_session_same (x : Session) : (s.setSession c x).session c = x := by
  simp [State.setSession, State.session]

@[simp] theorem State.setSession_session_other (x : Session) {c' : Channel} (h : c' ≠ c) :
    (s.setSession c x).session c' = s.session c' := by
  simp [State.setSession, State.session, h]

@[simp] theorem State.putSession_session_same (x : SessionState) :
    (s.putSession c x).session c = { s.session c with state := x, waitSlot := none, target := 0 } := by
  simp [State.putSession]

@[simp] theorem State.putSession_session_other (x : SessionState) {c' : Channel} (h : c' ≠ c) :
    (s.putSession c x).session c' = s.session c' := by
  simp [State.putSession, h]

@[simp] theorem State.putSession_pump (x : SessionState) : (s.putSession c x).manifold.pump = s.manifold.pump := by rfl

@[simp] theorem State.requestMark_session (pos : LinkPos) (n : Nat) : (s.requestMark pos n).session c = s.session c := by rfl

/-! ### The arithmetic of R10 -/

/-- Rounding up gives the least count that covers. -/
theorem ceilDiv_le_iff {a b n : Nat} (hb : 0 < b) : ceilDiv a b ≤ n ↔ a ≤ n * b := by
  unfold ceilDiv
  rw [Nat.div_le_iff_le_mul_add_pred hb, Nat.mul_comm b n]
  omega

/-- R10: the stroke volume, written out. -/
theorem State.strokeVolume_eq (k : SlotId) : s.strokeVolume c k =
    min 250000 (min (12000000 - (if (s.ledger.chan.get c).established then (s.ledger.chan.get c).level else 0))
      ((s.supply.slot.get k).capacity - (s.supply.slot.get k).drawn)) := by rfl

/-- A slot that gives a volume has a capacity. -/
theorem State.capacity_pos {k : SlotId} (h : 0 < s.strokeVolume c k) : 0 < (s.supply.slot.get k).capacity := by
  have le : s.strokeVolume c k ≤ (s.supply.slot.get k).capacity - (s.supply.slot.get k).drawn :=
    (Nat.min_le_right _ _).trans (Nat.min_le_right _ _)
  omega

/-- R10: the target is the least count of marks that covers the volume drawn with the stroke. -/
theorem State.targetMarks_le_iff {k : SlotId} (h : 0 < s.strokeVolume c k) (n : Nat) :
    s.targetMarks k (s.strokeVolume c k) ≤ n ↔
      ((s.supply.slot.get k).drawn + s.strokeVolume c k) * 128 ≤ n * (s.supply.slot.get k).capacity :=
  ceilDiv_le_iff (s.capacity_pos c h)

/-- The pump or its entry is claimed by a suction (R10, R15). -/
theorem Manifold.suctionClaims_iff (m : Manifold) :
    m.suctionClaims = true ↔ m.request ≠ none ∨ ∃ q, m.pump = .suction q := by
  unfold Manifold.suctionClaims
  split <;> simp_all [Option.isSome_iff_ne_none]

/-! ### The stroke test (R10) -/

theorem State.strokeTest_none (h : s.supply.activeSlot c = none) : s.strokeTest c = s.putSession c .idle := by
  simp [State.strokeTest, h]

theorem State.strokeTest_empty {k : SlotId} (h : s.supply.activeSlot c = some k) (hv : s.strokeVolume c k = 0) :
    s.strokeTest c = s.putSession c .idle := by
  simp [State.strokeTest, h, hv]

/-- The marks do not cover the stroke: the session waits for its target, and asks for it. -/
theorem State.strokeTest_short {k : SlotId} (h : s.supply.activeSlot c = some k) (hv : 0 < s.strokeVolume c k)
    (hm : (s.supply.slot.get k).manual = false)
    (hs : (s.supply.slot.get k).marks * (s.supply.slot.get k).capacity <
      ((s.supply.slot.get k).drawn + s.strokeVolume c k) * 128) :
    s.strokeTest c = (s.setSession c { s.session c with
      state := .waitMark, waitSlot := some k, target := s.targetMarks k (s.strokeVolume c k) }).requestMark (.slot k)
        (s.targetMarks k (s.strokeVolume c k)) := by
  have short : (s.supply.slot.get k).marks < s.targetMarks k (s.strokeVolume c k) := by
    rw [← Nat.not_le, s.targetMarks_le_iff c hv]
    omega
  simp [State.strokeTest, h, hv.ne', hm, short]

/-- The marks cover the stroke, or the tank is manual. -/
theorem State.strokeTest_covered {k : SlotId} (h : s.supply.activeSlot c = some k) (hv : 0 < s.strokeVolume c k)
    (hc : (s.supply.slot.get k).manual = true ∨ ((s.supply.slot.get k).drawn + s.strokeVolume c k) * 128 ≤
      (s.supply.slot.get k).marks * (s.supply.slot.get k).capacity) : s.strokeTest c = s.enterWant c := by
  rcases hc with hm | hc
  · simp [State.strokeTest, h, hv.ne', hm]
  · have covered : ¬ (s.supply.slot.get k).marks < s.targetMarks k (s.strokeVolume c k) :=
      Nat.not_lt.2 ((s.targetMarks_le_iff c hv _).2 hc)
    simp [State.strokeTest, h, hv.ne', covered]

/-- Whatever the stroke test decides, it decides about its own session: the others, the session's demand, the pump and the
slots stand. -/
theorem State.strokeTest_keeps : (∀ c', c' ≠ c → (s.strokeTest c).session c' = s.session c') ∧
    ((s.strokeTest c).session c).demand = (s.session c).demand ∧ (s.strokeTest c).manifold.pump = s.manifold.pump ∧
    (s.strokeTest c).supply.slot = s.supply.slot := by
  have put : ∀ x, (∀ c', c' ≠ c → (s.putSession c x).session c' = s.session c') ∧
      ((s.putSession c x).session c).demand = (s.session c).demand ∧ (s.putSession c x).manifold.pump = s.manifold.pump ∧
      (s.putSession c x).supply.slot = s.supply.slot := fun x => ⟨fun c' h => by simp [h], by simp, rfl, rfl⟩
  unfold State.strokeTest
  split
  · exact put _
  · dsimp only
    split
    · exact put _
    · split
      · exact put _
      · split
        · exact ⟨fun c' h => by simp [h], by simp, rfl, rfl⟩
        · exact put _

/-- A MARK request leaves a job of its position: an IDENTIFY job, or one with the target asked for (R53). -/
theorem Link.requestMark_job (l : Link) (pos : LinkPos) (n : Nat) :
    ∃ j ∈ (l.requestMark pos n).jobs, j.pos = pos ∧ (j.kind = .identify ∨ min 128 n ≤ j.target) := by
  unfold Link.requestMark
  dsimp only
  split
  · exact ⟨LinkJob.mark pos (min n 128), by simp [Config.marksFull], rfl, .inr (by simp [LinkJob.mark, Nat.min_comm])⟩
  · next j hj =>
    have at_pos : j.pos = pos := by simpa using List.find?_some hj
    refine ⟨_, List.mem_map_of_mem (List.mem_of_find?_eq_some hj), ?_⟩
    cases hk : j.kind with
    | identify => simp [at_pos, hk]
    | mark => simp [at_pos, Config.marksFull, Nat.min_comm]

/-! ### What a session reacts to -/

/-- A channel with an ACTIVE slot is SUPPLIED, and no other is (R5). -/
theorem Supply.supplied_iff (u : Supply) : u.supplyState c = .supplied ↔ u.activeSlot c ≠ none := by
  unfold Supply.supplyState
  split
  · next h =>
    have none_active : u.activeSlot c = none := by
      rw [Supply.activeSlot, List.isEmpty_iff.1 h]
      rfl
    simp [none_active]
  · split <;> simp_all [Option.isSome_iff_ne_none]

theorem State.sessionStarts_iff : s.sessionStarts c = true ↔ s.inRun = true ∧ s.supply.activeSlot c ≠ none ∧
    ((s.ledger.chan.get c).established = false ∨ (s.ledger.chan.get c).level < s.params.refillLow ∨
      (s.session c).demand = true) := by
  simp only [State.sessionStarts, Bool.and_eq_true, beq_iff_eq, Supply.supplied_iff, Bool.or_eq_true, Bool.not_eq_true',
    decide_eq_true_eq, and_assoc, or_assoc]

/-- R11, R17: without an ACTIVE slot a session that wants, waits or is suspended ends. -/
theorem State.sessionReacts_without_slot (hs : (s.session c).state = .want ∨ (s.session c).state = .suspended ∨
    (s.session c).state = .waitMark) (h : s.supply.activeSlot c = none) :
    s.sessionReacts c = some (s.putSession c .idle) := by
  rcases hs with hs | hs | hs <;> simp [State.sessionReacts, hs, h]

theorem State.sessionReacts_idle (hs : (s.session c).state = .idle) :
    s.sessionReacts c = if s.sessionStarts c then some ((s.clearDemand c).strokeTest c) else none := by
  simp [State.sessionReacts, hs]

theorem State.sessionReacts_want {k : SlotId} (hs : (s.session c).state = .want) (h : s.supply.activeSlot c = some k) :
    s.sessionReacts c = none := by
  simp [State.sessionReacts, hs, h]

theorem State.sessionReacts_suspended {k : SlotId} (hs : (s.session c).state = .suspended)
    (h : s.supply.activeSlot c = some k) :
    s.sessionReacts c = if s.manifold.suctionClaims then none else some (s.strokeTest c) := by
  simp [State.sessionReacts, hs, h]

theorem State.sessionReacts_waitMark {k : SlotId} (hs : (s.session c).state = .waitMark)
    (h : s.supply.activeSlot c = some k) :
    s.sessionReacts c = if (s.session c).waitSlot ≠ some k ∨ (s.session c).target ≤ (s.supply.slot.get k).marks then
      some (s.strokeTest c) else none := by
  simp [State.sessionReacts, hs, h]

theorem State.sessionReacts_stroke (hs : (s.session c).state = .stroke) : s.sessionReacts c = none := by
  simp [State.sessionReacts, hs]

/-- R16: when the session of a completed stroke is over. -/
theorem State.afterStroke_over (hs : (s.session c).state = .stroke) {tripped : Bool}
    (h : tripped = true ∨ ((s.ledger.chan.get c).established = true ∧ s.params.refillHigh ≤ (s.ledger.chan.get c).level) ∨
      s.supply.activeSlot c = none) : s.afterStroke c tripped = s.putSession c .idle := by
  have ended : (tripped || ((s.ledger.chan.get c).established &&
      decide (s.params.refillHigh ≤ (s.ledger.chan.get c).level)) || (s.supply.activeSlot c).isNone) = true := by
    simpa [or_assoc] using h
  simp only [State.afterStroke, hs]
  rw [if_pos ended]

/-- R16: when the session of a completed stroke makes its next stroke test. -/
theorem State.afterStroke_next (hs : (s.session c).state = .stroke)
    (hl : (s.ledger.chan.get c).established = false ∨ (s.ledger.chan.get c).level < s.params.refillHigh)
    (ha : s.supply.activeSlot c ≠ none) : s.afterStroke c false = s.strokeTest c := by
  have next : ¬ (false || ((s.ledger.chan.get c).established &&
      decide (s.params.refillHigh ≤ (s.ledger.chan.get c).level)) || (s.supply.activeSlot c).isNone) = true := by
    rcases hl with hl | hl <;> simp [hl, ha]
  simp only [State.afterStroke, hs]
  rw [if_neg next]

/-- R60: a session that waits for a slot's marks makes its due reaction, or asks again. -/
theorem State.askAgain_waitMark {k : SlotId} (hs : (s.session c).state = .waitMark) (hk : (s.session c).waitSlot = some k) :
    s.askAgain c = (s.sessionReacts c).getD (s.requestMark (.slot k) (s.session c).target) := by
  simp [State.askAgain, hs, hk]

theorem State.askAgain_other (hs : (s.session c).state ≠ .waitMark) : s.askAgain c = s := by
  unfold State.askAgain
  split
  · next h _ => exact absurd h hs
  · rfl

end

/-- Settles O34: the stroke test by its four ways, the reactions of a session state by state. -/
theorem refillSessionsFollowTheirTests : Obligations.RefillSessionsFollowTheirTests := by
  intro s c
  dsimp only
  obtain ⟨others, demand, pump, slots⟩ := s.strokeTest_keeps c
  refine ⟨fun h => ?_, fun k hk => ?_, fun hs => ⟨fun hr ha hl => ?_, fun h => ?_⟩, fun hs ha => ?_, fun k hk => ?_,
    fun hs k hk => ?_, fun hs => s.askAgain_other c hs, fun hs => ⟨s.sessionReacts_stroke c hs, fun tripped => ?_⟩⟩
  · rw [s.strokeTest_none c h]
    simp
  · refine ⟨s.strokeVolume c k, s.strokeVolume_eq c k, s.strokeTest_frame c, slots, pump, others, demand, fun hv => ?_,
      fun hv hm hs => ?_, fun hv hc => ?_⟩
    · rw [s.strokeTest_empty c hk hv]
      simp
    · rw [s.strokeTest_short c hk hv hm hs]
      refine ⟨by simp, by simp, ?_, fun n hn => ?_, ?_⟩
      · simpa using (s.targetMarks_le_iff c hv _).1 le_rfl
      · simpa using (s.targetMarks_le_iff c hv n).2 hn
      · rw [State.requestMark_session, State.setSession_session_same]
        exact Link.requestMark_job _ (.slot k) (s.targetMarks k (s.strokeVolume c k))
    · rw [s.strokeTest_covered c hk hv hc, State.enterWant, State.putSession_session_same, ← Manifold.suctionClaims_iff]
      exact ⟨fun h => if_pos h, fun h => if_neg h⟩
  · rw [s.sessionReacts_idle c hs, if_pos ((s.sessionStarts_iff c).2 ⟨hr, ha, hl⟩)]
    rfl
  · rw [s.sessionReacts_idle c hs, if_neg]
    rw [s.sessionStarts_iff]
    rintro ⟨hr, ha, hl⟩
    rcases h with h | h | ⟨he, hlow, hd⟩
    · simp [h] at hr
    · exact ha h
    · rcases hl with hl | hl | hl
      · simp [he] at hl
      · omega
      · simp [State.session, hd] at hl
  · exact ⟨_, s.sessionReacts_without_slot c hs ha, by simp, s.putSession_frame c _⟩
  · refine ⟨fun hs => s.sessionReacts_want c hs hk, fun hs => ?_, fun hs => ?_⟩
    · rw [s.sessionReacts_suspended c hs hk, ← Manifold.suctionClaims_iff]
      exact ⟨fun h => if_pos h, fun h => if_neg h⟩
    · rw [s.sessionReacts_waitMark c hs hk]
      refine ⟨fun h => if_pos h, fun hw hm => if_neg ?_⟩
      rintro (h | h)
      · exact h hw
      · exact absurd hm (Nat.not_lt.2 h)
  · rw [s.askAgain_waitMark c hs hk]
    exact ⟨fun h => by rw [h]; rfl, fun u h => by rw [h]; rfl⟩
  · refine ⟨fun h => ?_, fun ht hl ha => ?_⟩
    · rw [s.afterStroke_over c hs h]
      exact ⟨by simp, s.putSession_frame c _⟩
    · subst ht
      exact s.afterStroke_next c hs hl ha

end Sys2Proof.Machine
end

section
/-!
SUPPORT. The pump arbiter: the order of its candidates, what it does with one, and a suction request's effect on the sessions.
-/

namespace Sys2Proof.Machine

section
variable (s : State) (c : Channel)

/-! ### A level that is set -/

/-- R4, R7, R14: the channel's level is the one set, established; carry and reservations stand. -/
theorem State.setLevel_record (n : Nat) : ((s.setLevel c n).ledger.chan.get c).level = n ∧
    ((s.setLevel c n).ledger.chan.get c).established = true ∧
    ((s.setLevel c n).ledger.chan.get c).carry = (s.ledger.chan.get c).carry ∧
    ((s.setLevel c n).ledger.chan.get c).rs = (s.ledger.chan.get c).rs ∧
    ((s.setLevel c n).ledger.chan.get c).rv = (s.ledger.chan.get c).rv := by
  rw [State.setLevel, State.ledgerOp_ledger]
  dsimp only
  rw [ledgerChans_get]
  simp

theorem State.setLevel_other (n : Nat) {c' : Channel} (h : c' ≠ c) :
    (s.setLevel c n).ledger.chan.get c' = s.ledger.chan.get c' := by
  rw [State.setLevel, State.ledgerOp_ledger]
  exact ledgerChans_get_of_eq _ _ (by simp [h])

/-! ### The order of the candidates (R12) -/

theorem roundRobin_eq (last : Channel) : roundRobin last = (List.range 6).map fun n => Channel.next^[n + 1] last := by
  cases last <;> rfl

/-- Six turns reach every channel. -/
theorem mem_roundRobin (last : Channel) : c ∈ roundRobin last := by
  cases last <;> cases c <;> decide

/-- The first channel after the last-served one that wants is the one found. -/
theorem find?_roundRobin {p : Channel → Bool} {last : Channel} {n : Nat} (hn : n < 6)
    (hp : p (Channel.next^[n + 1] last) = true) (first : ∀ m, m < n → p (Channel.next^[m + 1] last) = false) :
    (roundRobin last).find? p = some (Channel.next^[n + 1] last) := by
  have found : (List.range 6).find? (p ∘ fun n => Channel.next^[n + 1] last) = some n := by
    rw [List.find?_range_eq_some]
    exact ⟨hp, List.mem_range.2 hn, fun m hm => by simpa using first m hm⟩
  rw [roundRobin_eq, List.find?_map, found]
  rfl

/-! ### What the arbiter does -/

theorem State.pumpArbiter_busy (h : s.manifold.pump ≠ .free) : s.pumpArbiter = none := by
  unfold State.pumpArbiter
  split
  · rfl
  · rfl
  · next hf => exact absurd hf h

theorem State.pumpArbiter_request {q : SuctionReq} (hf : s.manifold.pump = .free) (hq : s.manifold.request = some q) :
    s.pumpArbiter = some (s.startSuction q) := by
  simp [State.pumpArbiter, hf, hq]

theorem State.pumpArbiter_sessions (hf : s.manifold.pump = .free) (hq : s.manifold.request = none) :
    s.pumpArbiter = ((roundRobin s.manifold.lastServed).find? fun c => (s.session c).state == .want).map s.serveCandidate := by
  simp [State.pumpArbiter, hf, hq]

theorem State.serveCandidate_wet (h : s.pins.probeWet.get c = true) : s.serveCandidate c = s.fillFound c := by
  simp [State.serveCandidate, h]

/-- R7: the channel is full and established, its session over and its demand cleared; pump and order stand. -/
theorem State.fillFound_record : ((s.fillFound c).ledger.chan.get c).level = Config.cap ∧
    ((s.fillFound c).ledger.chan.get c).established = true ∧
    ((s.fillFound c).ledger.chan.get c).carry = (s.ledger.chan.get c).carry ∧
    (∀ c', c' ≠ c → (s.fillFound c).ledger.chan.get c' = s.ledger.chan.get c') ∧
    ((s.fillFound c).session c).state = .idle ∧ ((s.fillFound c).session c).demand = false ∧
    (s.fillFound c).manifold.pump = s.manifold.pump ∧ (s.fillFound c).manifold.lastServed = s.manifold.lastServed := by
  obtain ⟨level, established, carry, -, -⟩ := s.setLevel_record c Config.cap
  have manifold : (s.setLevel c Config.cap).manifold = s.manifold := s.setLevel_frame c _ .manifold (by decide)
  have pump : (s.setLevel c Config.cap).manifold.pump = s.manifold.pump := by rw [manifold]
  have last : (s.setLevel c Config.cap).manifold.lastServed = s.manifold.lastServed := by rw [manifold]
  refine ⟨level, established, carry, fun c' h => s.setLevel_other c _ h, ?_, ?_, pump, last⟩ <;>
    simp [State.fillFound, State.clearDemand]

theorem State.fillFound_frame : Frame [.ports, .ledger, .manifold, .due] s (s.fillFound c) :=
  Frame.join (Frame.join (s.setLevel_frame c _) (State.putSession_frame _ _ _) (by decide) (by decide)
    (cs := [.ports, .ledger, .manifold, .due])) (State.clearDemand_frame _ _) (by decide) (by decide)

theorem State.startStroke_some {k : SlotId} (h : s.supply.activeSlot c = some k) :
    s.startStroke c = (s.putSession c .stroke).setManifold { (s.putSession c .stroke).manifold with
      pump := .stroke { channel := c, volume := s.strokeVolume c k, source := k, stands := true, left := Config.strokeMs }
      lastServed := c } := by
  simp [State.startStroke, h]

/-- R12, R13: a dry candidate whose marks cover the draw, with no suction about, starts its stroke. -/
theorem State.serveCandidate_stroke {k : SlotId} (hd : s.pins.probeWet.get c = false) (hf : s.manifold.pump = .free)
    (hq : s.manifold.request = none) (hk : s.supply.activeSlot c = some k) (hv : 0 < s.strokeVolume c k)
    (hc : (s.supply.slot.get k).manual = true ∨ ((s.supply.slot.get k).drawn + s.strokeVolume c k) * 128 ≤
      (s.supply.slot.get k).marks * (s.supply.slot.get k).capacity) :
    s.serveCandidate c = ((s.putSession c .want).putSession c .stroke).setManifold
      { ((s.putSession c .want).putSession c .stroke).manifold with
        pump := .stroke { channel := c, volume := s.strokeVolume c k, source := k, stands := true, left := Config.strokeMs }
        lastServed := c } := by
  have claims : s.manifold.suctionClaims = false := by simp [Manifold.suctionClaims, hf, hq]
  have test : s.strokeTest c = s.putSession c .want := by
    rw [s.strokeTest_covered c hk hv hc, State.enterWant, claims]
    rfl
  have active : (s.putSession c .want).supply.activeSlot c = some k := hk
  simp only [State.serveCandidate, hd, test, State.putSession_session_same]
  exact State.startStroke_some _ c active

/-! ### A suction request (R15) -/

/-- R15: the session becomes SUSPENDED where it is in WANT. -/
def State.suspendWant (t : State) (x : Channel) : State :=
  t.when ((t.session x).state == .want) fun u => u.putSession x .suspended

theorem State.requestSuction_eq (h : Head) (level : Nat) : s.requestSuction h level =
    Channel.all.foldl State.suspendWant (s.setManifold { s.manifold with request := some { head := h, level := level } }) := by
  rfl

theorem State.suspendWant_record (t : State) (x : Channel) : ((t.suspendWant x).session c).state =
      (if c = x ∧ (t.session c).state = .want then .suspended else (t.session c).state) ∧
    ((t.suspendWant x).session c).demand = (t.session c).demand ∧
    (t.suspendWant x).manifold.request = t.manifold.request ∧ (t.suspendWant x).manifold.pump = t.manifold.pump := by
  unfold State.suspendWant State.when
  split
  · next hw =>
    refine ⟨?_, ?_, rfl, rfl⟩ <;> by_cases e : c = x <;> simp_all
  · next hw =>
    refine ⟨?_, rfl, rfl, rfl⟩
    rw [if_neg]
    rintro ⟨rfl, h⟩
    simp [h] at hw

/-- WANT sessions among the listed channels become SUSPENDED, and nothing else of the manifold changes. -/
theorem State.foldl_suspendWant (l : List Channel) (t : State) :
    ((l.foldl State.suspendWant t).session c).state =
      (if c ∈ l ∧ (t.session c).state = .want then .suspended else (t.session c).state) ∧
    ((l.foldl State.suspendWant t).session c).demand = (t.session c).demand ∧
    (l.foldl State.suspendWant t).manifold.request = t.manifold.request ∧
    (l.foldl State.suspendWant t).manifold.pump = t.manifold.pump := by
  induction l generalizing t with
  | nil => simp
  | cons x l ih =>
    obtain ⟨state, demand, request, pump⟩ := ih (t.suspendWant x)
    obtain ⟨state1, demand1, request1, pump1⟩ := t.suspendWant_record c x
    refine ⟨?_, demand.trans demand1, request.trans request1, pump.trans pump1⟩
    rw [List.foldl_cons, state, state1]
    rcases eq_or_ne c x with rfl | e
    · by_cases hw : (t.session c).state = .want <;> simp [hw]
    · simp [e]

/-- R15: the request stands in the entry, the pump is left alone, and every session in WANT is SUSPENDED. -/
theorem State.requestSuction_record (h : Head) (level : Nat) :
    (s.requestSuction h level).manifold.request = some { head := h, level := level } ∧
      (s.requestSuction h level).manifold.pump = s.manifold.pump ∧
      ((s.requestSuction h level).session c).state =
          (if (s.session c).state = .want then .suspended else (s.session c).state) ∧
        ((s.requestSuction h level).session c).demand = (s.session c).demand := by
  obtain ⟨state, demand, request, pump⟩ := State.foldl_suspendWant c Channel.all
    (s.setManifold { s.manifold with request := some { head := h, level := level } })
  rw [s.requestSuction_eq, state, demand, request, pump]
  exact ⟨rfl, rfl, by simp only [c.mem_all, true_and]; rfl, rfl⟩

end

/-- Settles O35: by the pump's state and its entry; the candidate found is served wet or dry. -/
theorem pumpArbiterServes : Obligations.PumpArbiterServes := by
  intro s
  refine ⟨s.pumpArbiter_busy, fun q hf hq => s.pumpArbiter_request hf hq, fun hf hq => ⟨fun h => ?_, ?_⟩, fun h level => ?_⟩
  · rw [s.pumpArbiter_sessions hf hq, List.find?_eq_none.2 fun c _ => by simpa using h c]
    rfl
  · intro c n hw hn hc first
    have served : s.pumpArbiter = some (s.serveCandidate c) := by
      rw [s.pumpArbiter_sessions hf hq, find?_roundRobin hn (by simpa [hc] using hw) fun m hm => by simpa using first m hm, hc]
      rfl
    rw [served]
    refine ⟨fun wet => ⟨_, rfl, ?_⟩, fun dry k hk => ?_⟩
    · rw [s.serveCandidate_wet c wet]
      obtain ⟨level, established, carry, others, idle, demand, pump, last⟩ := s.fillFound_record c
      exact ⟨level, established, carry, others, idle, demand, pump.trans hf, last, s.fillFound_frame c⟩
    · intro z r v hvol hv hcov
      obtain rfl : v = s.strokeVolume c k := hvol.trans (s.strokeVolume_eq c k).symm
      refine ⟨_, rfl, ?_⟩
      rw [s.serveCandidate_stroke c dry hf hq hk hv hcov]
      refine ⟨rfl, rfl, ?_, fun c' h => ?_, ?_⟩
      · exact congrArg Session.state (State.putSession_session_same _ c .stroke)
      · exact (State.putSession_session_other _ c .stroke h).trans (State.putSession_session_other _ c .want h)
      · exact ((s.putSession_frame c _).trans (State.putSession_frame _ c _)).trans (State.setManifold_frame _ _)
  · obtain ⟨request, pump, -, -⟩ := s.requestSuction_record .ch0 h level
    exact ⟨request, pump, fun c => (s.requestSuction_record c h level).2.2, s.requestSuction_frame h level⟩

end Sys2Proof.Machine
end

section
/-!
SUPPORT. The completion of a stroke: what its source has drawn, what its channel holds, and the decision on its session.
-/

namespace Sys2Proof.Machine

section
variable (s : State)

/-! ### What a slot has drawn (R47) -/

theorem State.putSlot_slot (k : SlotId) (r : SlotRec) :
    (s.putSlot k r).supply.slot = s.supply.slot.set k { r with low := r.isLow s.params.inkLow } := by
  have raised : ∀ (t : State) (b : Bool) (e : Event), (t.raiseIf b e).supply = t.supply :=
    fun t b e => t.raiseIf_frame b e .supply (by decide)
  simp [State.putSlot, raised]

theorem State.putSlot_drawn (k : SlotId) (r : SlotRec) (j : SlotId) :
    ((s.putSlot k r).supply.slot.get j).drawn = if j = k then r.drawn else (s.supply.slot.get j).drawn := by
  rw [State.putSlot_slot]
  split
  · next e => subst e; simp
  · next e => simp [e]

/-- A partner that takes over has drawn what it had drawn (R45). -/
theorem State.promoteFor_drawn (k j : SlotId) :
    ((s.promoteFor k).supply.slot.get j).drawn = (s.supply.slot.get j).drawn := by
  unfold State.promoteFor
  split
  · rfl
  · unfold State.promote
    split
    · rfl
    · split
      · rfl
      · rw [State.putSlot_drawn]
        split
        · next e => rw [e]
        · rfl

theorem State.addDrawn_drawn (k : SlotId) (v : Nat) (j : SlotId) :
    ((s.addDrawn k v).supply.slot.get j).drawn = (s.supply.slot.get j).drawn + if j = k then v else 0 := by
  unfold State.addDrawn
  dsimp only
  split
  · rw [State.promoteFor_drawn, State.putSlot_drawn, State.putSlot_drawn]
    split
    · next e => rw [e]
    · rfl
  · rw [State.putSlot_drawn]
    split
    · next e => rw [e]
    · rfl

/-! ### What a channel holds (R7, R14) -/

theorem State.creditStroke_record (c : Channel) (v : Nat) (x : Channel) :
    ((s.creditStroke c v).ledger.chan.get x).level =
      (if x = c ∧ (s.ledger.chan.get x).established = true then min Config.cap ((s.ledger.chan.get x).level + v)
        else (s.ledger.chan.get x).level) ∧
    ((s.creditStroke c v).ledger.chan.get x).established = (s.ledger.chan.get x).established ∧
    ((s.creditStroke c v).ledger.chan.get x).carry = (s.ledger.chan.get x).carry ∧
    ((s.creditStroke c v).ledger.chan.get x).rs = (s.ledger.chan.get x).rs ∧
    ((s.creditStroke c v).ledger.chan.get x).rv = (s.ledger.chan.get x).rv := by
  rw [State.creditStroke, State.ledgerOp_ledger]
  dsimp only
  rw [ledgerChans_get]
  by_cases h : x = c ∧ (s.ledger.chan.get x).established = true
  · obtain ⟨rfl, established⟩ := h
    simp [established]
  · simp [h]

theorem State.setLevel_records (c : Channel) (n : Nat) (x : Channel) :
    ((s.setLevel c n).ledger.chan.get x).level = (if x = c then n else (s.ledger.chan.get x).level) ∧
    ((s.setLevel c n).ledger.chan.get x).established = (if x = c then true else (s.ledger.chan.get x).established) ∧
    ((s.setLevel c n).ledger.chan.get x).carry = (s.ledger.chan.get x).carry ∧
    ((s.setLevel c n).ledger.chan.get x).rs = (s.ledger.chan.get x).rs ∧
    ((s.setLevel c n).ledger.chan.get x).rv = (s.ledger.chan.get x).rv := by
  by_cases h : x = c
  · subst h
    simpa using s.setLevel_record x n
  · rw [s.setLevel_other c n h]
    simp [h]

/-! ### The completed stroke -/

/-- The state between the pump's release and the ledger's credit: the source has its draw, the rest stands. -/
def State.strokeDrawn (r : StrokeRun) : State := (s.setPump .free).when r.stands fun t => t.addDrawn r.source r.volume

theorem State.strokeDrawn_frame (r : StrokeRun) : Frame [.ports, .supply] (s.setPump .free) (s.strokeDrawn r) :=
  Frame.when _ _ fun t => t.addDrawn_frame _ _

theorem State.strokeDrawn_drawn (r : StrokeRun) (k : SlotId) : ((s.strokeDrawn r).supply.slot.get k).drawn =
    (s.supply.slot.get k).drawn + if k = r.source ∧ r.stands = true then r.volume else 0 := by
  unfold State.strokeDrawn
  cases r.stands
  · simp [State.setPump]
  · simpa [State.setPump] using (s.setPump .free).addDrawn_drawn r.source r.volume k

theorem State.completeStroke_eq (r : StrokeRun) (tripped : Bool) : s.completeStroke r tripped =
    (if tripped then (s.strokeDrawn r).setLevel r.channel Config.cap
      else (s.strokeDrawn r).creditStroke r.channel r.volume).dueStroke r.channel tripped := by rfl

/-- Beside the ledger: the pump is FREE, the sessions stand, the decision on the session is due, the source has its draw. -/
theorem State.completeStroke_record (r : StrokeRun) (tripped : Bool) :
    (s.completeStroke r tripped).manifold = { s.manifold with pump := .free } ∧
    (s.completeStroke r tripped).due.stroke = some { channel := r.channel, tripped := tripped } ∧
    ∀ k, ((s.completeStroke r tripped).supply.slot.get k).drawn =
      (s.supply.slot.get k).drawn + if k = r.source ∧ r.stands = true then r.volume else 0 := by
  have drawn : (s.strokeDrawn r).manifold = { s.manifold with pump := .free } := s.strokeDrawn_frame r .manifold (by decide)
  rw [s.completeStroke_eq]
  cases tripped
  · have credit := (s.strokeDrawn r).creditStroke_frame r.channel r.volume
    refine ⟨(credit .manifold (by decide)).trans drawn, rfl, fun k => ?_⟩
    have supply : ((s.strokeDrawn r).creditStroke r.channel r.volume).supply = (s.strokeDrawn r).supply :=
      credit .supply (by decide)
    exact (congrArg (fun u : Supply => (u.slot.get k).drawn) supply).trans (s.strokeDrawn_drawn r k)
  · have full := (s.strokeDrawn r).setLevel_frame r.channel Config.cap
    refine ⟨(full .manifold (by decide)).trans drawn, rfl, fun k => ?_⟩
    have supply : ((s.strokeDrawn r).setLevel r.channel Config.cap).supply = (s.strokeDrawn r).supply :=
      full .supply (by decide)
    exact (congrArg (fun u : Supply => (u.slot.get k).drawn) supply).trans (s.strokeDrawn_drawn r k)

/-- R14: an untripped stroke credits an established level, up to Cap. -/
theorem State.completeStroke_credits (r : StrokeRun) (c : Channel) :
    ((s.completeStroke r false).ledger.chan.get c).level =
      (if c = r.channel ∧ (s.ledger.chan.get c).established = true
        then min Config.cap ((s.ledger.chan.get c).level + r.volume) else (s.ledger.chan.get c).level) ∧
    ((s.completeStroke r false).ledger.chan.get c).established = (s.ledger.chan.get c).established ∧
    ((s.completeStroke r false).ledger.chan.get c).carry = (s.ledger.chan.get c).carry ∧
    ((s.completeStroke r false).ledger.chan.get c).rs = (s.ledger.chan.get c).rs ∧
    ((s.completeStroke r false).ledger.chan.get c).rv = (s.ledger.chan.get c).rv := by
  have ledger : (s.strokeDrawn r).ledger = s.ledger := s.strokeDrawn_frame r .ledger (by decide)
  have credit := (s.strokeDrawn r).creditStroke_record r.channel r.volume c
  rw [ledger] at credit
  exact credit

/-- R7: a tripped stroke has its channel at Cap, established. -/
theorem State.completeStroke_fills (r : StrokeRun) (c : Channel) :
    ((s.completeStroke r true).ledger.chan.get c).level =
      (if c = r.channel then Config.cap else (s.ledger.chan.get c).level) ∧
    ((s.completeStroke r true).ledger.chan.get c).established =
      (if c = r.channel then true else (s.ledger.chan.get c).established) ∧
    ((s.completeStroke r true).ledger.chan.get c).carry = (s.ledger.chan.get c).carry ∧
    ((s.completeStroke r true).ledger.chan.get c).rs = (s.ledger.chan.get c).rs ∧
    ((s.completeStroke r true).ledger.chan.get c).rv = (s.ledger.chan.get c).rv := by
  have ledger : (s.strokeDrawn r).ledger = s.ledger := s.strokeDrawn_frame r .ledger (by decide)
  have full := (s.strokeDrawn r).setLevel_records r.channel Config.cap c
  rw [ledger] at full
  exact full

/-! ### The decision on the session -/

theorem State.strokeStep_none (h : s.due.stroke = none) : s.strokeStep = none := by
  simp [State.strokeStep, h]

/-- A selection of the service arbiter that is due comes before the decision (notes/assumptions/51.md). -/
theorem State.strokeStep_arbiter {e : EndedStroke} (h : s.due.stroke = some e) (ha : s.due.arbiter = true) :
    s.strokeStep = s.serviceArbiter := by
  simp [State.strokeStep, h, State.serviceArbiter, ha]

theorem State.strokeStep_decides {e : EndedStroke} (h : s.due.stroke = some e) (ha : s.due.arbiter = false) :
    s.strokeStep = some ((s.setDue { s.due with stroke := none }).afterStroke e.channel e.tripped) := by
  simp [State.strokeStep, h, State.serviceArbiter, ha]

/-! ### Sensor changes while the reset line is high -/

variable {s} in
theorem State.sensedSome_acts {act : State → Option State} {u : State} (hl : s.pins.resetLow = false) (h : act s = some u) :
    s.sensedSome act = u.settle := by
  simp [State.sensedSome, State.sensed, hl, h]

variable {s} in
theorem State.sensedSome_ignores {act : State → Option State} (h : act s = none) : s.sensedSome act = s := by
  simp [State.sensedSome, State.sensed, h]

end

/-! ### The end of a running stroke (R13, R14) -/

section
variable {s : State} {r : StrokeRun}

/-- R13: the stroke timer completes the stroke. -/
theorem exec_strokeTimerExpiry_completes (hl : s.pins.resetLow = false) (hp : s.manifold.pump = .stroke r) :
    exec .strokeTimerExpiry s = .next (s.completeStroke r false).settle :=
  have expires : s.strokeExpires = some (s.completeStroke r false) := by simp [State.strokeExpires, hp]
  congrArg _ (State.sensedSome_acts hl expires)

/-- The state with the probe of a channel wet. -/
def State.probeWets (s : State) (c : Channel) : State := s.setPins { s.pins with probeWet := s.pins.probeWet.set c true }

/-- R14: a trip of the stroke's channel ends the stroke. -/
theorem exec_probeTrip_completes (hl : s.pins.resetLow = false) (hp : s.manifold.pump = .stroke r) :
    exec (.probeTrip r.channel true) s = .next ((s.probeWets r.channel).completeStroke r true).settle := by
  have trips : ((s.probeWets r.channel).tripped r.channel).map (fun x => (s.probeWets r.channel).completeStroke x true) =
      some ((s.probeWets r.channel).completeStroke r true) := by
    simp [State.tripped, State.probeWets, hp]
  exact congrArg _ (State.sensedSome_acts (s := s.probeWets r.channel) hl (by simpa using trips))

/-- Any other change of a probe is a reading alone. -/
theorem exec_probeTrip_reads (hp : s.manifold.pump = .stroke r) {c : Channel} {wet : Bool} (h : c ≠ r.channel ∨ wet = false) :
    exec (.probeTrip c wet) s = .next (s.setPins { s.pins with probeWet := s.pins.probeWet.set c wet }) := by
  refine congrArg _ (State.sensedSome_ignores ?_)
  rcases h with h | rfl
  · have other : r.channel ≠ c := h.symm
    cases wet <;> simp [State.tripped, hp, other]
  · rfl

end

/-- Settles O36: the order of the reactions, the decision on the session, and the completion by timer and by probe. -/
theorem strokesComplete : Obligations.StrokesComplete := by
  refine ⟨⟨reactions.take 9, reactions.drop 10, rfl, ?_, ?_, ?_⟩, fun s => ⟨s.strokeStep_none, fun e he => ⟨?_, fun ha => ?_⟩⟩,
    fun s r hl hp => ⟨?_, ?_, fun c wet h => ?_⟩⟩
  · simp [reactions]
  · simp [reactions]
  · simp [reactions]
  · exact s.strokeStep_arbiter he
  · refine ⟨s.strokeStep_decides he ha, fun ht hs => ⟨_, s.strokeStep_decides he ha, ?_⟩⟩
    rw [State.afterStroke_over (s.setDue { s.due with stroke := none }) e.channel hs (.inl ht)]
    exact ⟨by simp, Frame.join (s.setDue_frame _) (State.putSession_frame _ _ _) (by decide) (by decide)⟩
  · obtain ⟨manifold, due, drawn⟩ := s.completeStroke_record r false
    refine ⟨s.completeStroke r false, exec_strokeTimerExpiry_completes hl hp, by rw [manifold], fun c => ?_, due,
      s.completeStroke_credits r, drawn, s.completeStroke_frame r false⟩
    simp [State.session, manifold]
  · obtain ⟨manifold, due, drawn⟩ := (s.probeWets r.channel).completeStroke_record r true
    have frame := (s.probeWets r.channel).completeStroke_frame r true
    refine ⟨(s.probeWets r.channel).completeStroke r true, exec_probeTrip_completes hl hp, by rw [manifold], fun c => ?_, due,
      (s.probeWets r.channel).completeStroke_fills r, drawn, frame .pins (by decide),
      Frame.join (s.setPins_frame _) frame (by decide) (by decide)⟩
    rw [State.session, manifold]
    rfl
  · exact exec_probeTrip_reads hp h

end Sys2Proof.Machine
end

section
/-!
SUPPORT. A level that is restored: the level state it has, and the event of a channel that becomes STARVED.
-/

namespace Sys2Proof.Machine

section
variable (s : State)

/-! ### Latched events (R174) -/

/-- A set that holds a kind holds it with others added. -/
theorem or_and_of_and {n : Nat} {x b : BitVec n} (y : BitVec n) (h : x &&& b = b) : (x ||| y) &&& b = b := by
  ext i hi
  have bit := congrArg (fun z : BitVec n => z[i]) h
  simp only [BitVec.getElem_and, BitVec.getElem_or] at bit ⊢
  cases hx : x[i]
  · simp_all
  · simp

theorem State.raise_events (e : Event) (p : Port) : ((s.raise e).ports.get p).events =
    if e.routed p then (s.ports.get p).events ||| e.bit else (s.ports.get p).events := by
  have at_port : (s.raise e).ports.get p = if e.routed p then (s.ports.get p).latch e else s.ports.get p := by
    cases p <;> rfl
  rw [at_port]
  split <;> rfl

theorem State.raise_latched (e : Event) : (s.raise e).Latched e := by
  intro p hp
  rw [s.raise_events, if_pos hp, BitVec.or_comm]
  exact or_and_of_and _ (BitVec.and_self)

variable {s} in
theorem State.Latched.raiseIf {e : Event} (h : s.Latched e) (b : Bool) (e' : Event) : (s.raiseIf b e').Latched e := by
  intro p hp
  unfold State.raiseIf
  split
  · rw [s.raise_events]
    split
    · exact or_and_of_and _ (h p hp)
    · exact h p hp
  · exact h p hp

variable {s} in
/-- What changes no port leaves its events latched. -/
theorem State.Latched.of_ports {t : State} {e : Event} (h : s.Latched e) (hp : t.ports = s.ports) : t.Latched e :=
  fun p he => by rw [hp]; exact h p he

/-- R3: INK_STARVED is raised by a ledger operation after which a channel's level state became STARVED. -/
theorem State.ledgerOp_latches {f : Channel → ChannelRec → ChannelRec} {c : Channel}
    (hn : ((s.ledgerOp f).ledger.chan.get c).levelState = .starved) (ho : (s.ledger.chan.get c).levelState ≠ .starved) :
    (s.ledgerOp f).Latched .inkStarved := by
  let new := ledgerChans s.params s.ledger.chan f
  have became : anyBecame .starved s.ledger.chan new = true := by
    rw [State.ledgerOp_ledger] at hn
    exact List.any_eq_true.2 ⟨c, c.mem_all, by simpa [new] using ⟨hn, ho⟩⟩
  have raised : ((s.setChan new).raiseLevels s.ledger.chan new).Latched .inkStarved := by
    rw [State.raiseLevels, became]
    exact ((s.setChan new).raise_latched .inkStarved).raiseIf _ _
  exact raised.of_ports ((Frame.when _ _ State.inkMoved_frame) .ports (by decide))

/-! ### A level that is set (R2, R4) -/

/-- R2: the level states stay the ones computed from the records. -/
theorem State.setLevel_current (h : s.LevelsCurrent) (c : Channel) (n : Nat) : (s.setLevel c n).LevelsCurrent := by
  have current : (s.setLevel c n).book.Current := by
    rw [State.setLevel, State.ledgerOp_book]
    refine Book.Current.enter (b := s.book) h fun x => ?_
    split <;> rfl
  exact current

theorem State.setLevel_params (c : Channel) (n : Nat) : (s.setLevel c n).params = s.params :=
  congrArg ModeUnit.params (s.setLevel_frame c n .mode (by decide))

/-- R2, R3: an established level at the floor or below is STARVED. -/
theorem levelStateOf_starved {p : Params} {r : ChannelRec} (he : r.established = true) (hf : r.level ≤ p.floor) :
    levelStateOf p r = .starved := by
  simp [levelStateOf, he, hf]

variable {s} in
theorem State.setLevel_starved (h : s.LevelsCurrent) (c : Channel) {n : Nat} (hf : n ≤ s.params.floor) :
    ((s.setLevel c n).ledger.chan.get c).levelState = .starved := by
  obtain ⟨level, established, -, -, -⟩ := s.setLevel_record c n
  rw [s.setLevel_current h c n c]
  refine levelStateOf_starved established ?_
  rwa [level, s.setLevel_params]

/-! ### LEVEL_RESTORE by mode -/

theorem Channel.ofNat?_none {n : Nat} (h : 5 < n) : Channel.ofNat? n = none := by
  obtain ⟨m, rfl⟩ := Nat.exists_eq_add_of_le' h
  rfl

variable {s} in
theorem State.inSleep_of_inStart (h : s.inStart = true) : s.inSleep = false := by
  simp_all [State.inStart, State.inSleep]

variable {s} in
theorem State.of_inRun (h : s.inRun = true) : s.inStart = false ∧ s.inSleep = false := by
  simp_all [State.inRun, State.inStart, State.inSleep]

variable {s} in
theorem decideLevelRestore_sets {channel : Nat} {c : Channel} (h : s.inStart = true) (hc : Channel.ofNat? channel = some c)
    (level : Nat) : decideLevelRestore channel level s =
      { after := (s.setLevel c (min level Config.cap)).settle
        code := if Config.cap < level then .clamped else .accepted, value := min level Config.cap } := by
  simp [decideLevelRestore, h, hc]

variable {s} in
theorem decideLevelRestore_badOperand {channel : Nat} (h : s.inStart = true) (hc : Channel.ofNat? channel = none)
    (level : Nat) : decideLevelRestore channel level s = Answer.refuse s .badOperand := by
  simp [decideLevelRestore, h, hc]

variable {s} in
theorem decideLevelRestore_wrongState (h : s.inStart = false) (channel level : Nat) :
    decideLevelRestore channel level s = Answer.refuse s .wrongState := by
  simp [decideLevelRestore, h]

/-- A wake leaves the reply that stands. -/
theorem State.wake_reply (p : Port) : (s.wake.ports.get p).reply = (s.ports.get p).reply := by
  unfold State.wake
  split
  · rw [State.settle_reply]
    rfl
  · rfl

/-- R167: a write command of the port is answered ASLEEP in SLEEP and wakes the hub. -/
theorem State.takeWrite_asleep {p : Port} {cmd : Command} (hl : s.pins.resetLow = false) (hc : cmd.ports p = true)
    (hs : s.inSleep = true) (n : Nat) (d : State → Answer) :
    s.takeWrite p cmd n d = (s.replied s p cmd.code .asleep 0 n).wake := by
  simp [State.takeWrite, hl, hc, hs]

end

/-- Settles O42: by the mode; in START the ledger operation on the one record, with the level state it recomputes. -/
theorem levelRestoreEstablishes : Obligations.LevelRestoreEstablishes := by
  intro s p channel level current hl hp
  subst hp
  have taken (h : s.inSleep = false) : exec (.levelRestore .pp channel level) s =
      .next ((decideLevelRestore channel level s).after.replied s .pp 0x65 (decideLevelRestore channel level s).code
        (decideLevelRestore channel level s).value 5) :=
    congrArg _ (s.takeWrite_takes .pp (cmd := Cmd.levelRestore) ⟨hl, rfl, h⟩ 5 (decideLevelRestore channel level))
  refine ⟨fun start c hc => ?_, fun start hc => ?_, fun run => ?_, fun sleep => ?_⟩
  · obtain ⟨hlevel, established, carry, rs, rv⟩ := s.setLevel_record c (min level Config.cap)
    refine ⟨s.setLevel c (min level Config.cap), ?_, hlevel, established, carry, rs, rv,
      s.setLevel_current current c _ c, fun hf => ?_, fun c' h => s.setLevel_other c _ h, s.setLevel_frame c _⟩
    · rw [taken (State.inSleep_of_inStart start), decideLevelRestore_sets start hc]
      rfl
    · have starved := State.setLevel_starved current c hf
      exact ⟨starved, fun h => s.ledgerOp_latches starved h⟩
  · rw [taken (State.inSleep_of_inStart start), decideLevelRestore_badOperand start (Channel.ofNat?_none hc)]
    rfl
  · obtain ⟨start, awake⟩ := State.of_inRun run
    rw [taken awake, decideLevelRestore_wrongState start]
    rfl
  · have asleep : exec (.levelRestore .pp channel level) s = .next (s.replied s .pp 0x65 .asleep 0 5).wake :=
      congrArg Host.Outcome.next (s.takeWrite_asleep (p := .pp) (cmd := Cmd.levelRestore) hl rfl sleep 5 _)
    refine ⟨_, asleep, ?_⟩
    rw [State.wake_reply, State.replied_reply]

end Sys2Proof.Machine
end

section
/-!
SUPPORT. The duty: what stands at the service of the active item (R27, R29, R118, R120, R123, R124, R127, R142) — the item
with its parts of the ledger, the station with its order, move and suction record, and the pump's request and suction stage.
`Duty.Holds` is `State.ServiceHolds` read on the duty; here each thing that the hub can do to the duty is shown to keep it.
-/

namespace Sys2Proof.Machine

/-! ### The duty -/

/-- The running suction stage, but for the time left of it. -/
def Pump.stage : Pump → Option SuctionRun
  | .free => none
  | .stroke _ => none
  | .suction r => some { r with left := 0 }

/-- What stands at the service of the active item. A move is held by its kind; no timer is. -/
structure Duty where
  active : Option ActiveItem
  spitPart : Six Nat
  suctionPart : Six Nat
  state : StationState
  park : ParkState
  move : Option MoveKind
  suction : Option SuctionRec
  order : OrderKind
  mask : Three Bool
  request : Option SuctionReq
  stage : Option SuctionRun

def State.duty (s : State) : Duty :=
  { active := s.service.active, spitPart := s.ledger.spitPart, suctionPart := s.ledger.suctionPart,
    state := s.station.state, park := s.station.park, move := s.station.move.map Move.kind, suction := s.station.suction,
    order := s.station.order.kind, mask := s.station.order.mask, request := s.manifold.request,
    stage := s.manifold.pump.stage }

/-- The parts stand for the stages that the active item has yet to end, and on its channels (R27, R29, R142). -/
structure PartsFit (active : Option ActiveItem) (sp su : Six Nat) : Prop where
  idle : active = none → ∀ c, sp.get c = 0 ∧ su.get c = 0
  stages : ∀ a, active = some a → a.stages ≠ [] ∧ a.stages <:+ a.item.work.stages
  channels : ∀ a, active = some a → ∀ c, a.item.work.onChannel c = false → sp.get c = 0 ∧ su.get c = 0
  spits : ∀ a, active = some a → .spit ∉ a.stages → ∀ c, sp.get c = 0
  suctions : ∀ a, active = some a → .suction ∉ a.stages → ∀ c, su.get c = 0

namespace Duty

/-- The active item stands at a stage. -/
def AtStage (d : Duty) (g : Stage) : Prop := ∃ a, d.active = some a ∧ a.stages.head? = some g

/-- A CLEAN of the head and level stands at its SUCTION stage, with no order. -/
def AtSuction (d : Duty) (h : Head) (level : Nat) : Prop :=
  d.order = .none ∧ d.state = .suction ∧
    ∃ a o u n, d.active = some a ∧ a.stages.head? = some .suction ∧ a.item.work = .clean h level o u n

/-- `State.ServiceHolds`, read on the duty. -/
structure Holds (d : Duty) : Prop where
  parts : PartsFit d.active d.spitPart d.suctionPart
  spitOrder : d.order = .spit → d.AtStage .spit
  checkOrder : d.order = .check → d.AtStage .check
  orderHeads : d.order = .spit ∨ d.order = .check → ∀ a, d.active = some a → d.mask = a.item.work.heads
  parkOrder : d.order = .park → d.park = .away
  moves : ∀ k, d.move = some k → d.state = k.state
  wipe : d.move = some .wipe → d.AtStage .wipe ∧ d.order = .none
  request : ∀ q, d.request = some q → d.AtSuction q.head q.level ∧
    d.suction = some { head := q.head, level := q.level, running := false }
  suction : ∀ r, d.stage = some r → d.suction = some { head := r.head, level := r.level, running := true } ∧
    (r.orphan = false → d.AtSuction r.head r.level)
  parked : d.park = .away → d.state = .opened ∨ d.state = .fault
  fault : d.state = .fault → d.order = .none ∧ d.move = none

end Duty

/-- The invariant speaks of the duty alone. -/
theorem State.serviceHolds_iff (s : State) : s.ServiceHolds ↔ s.duty.Holds := by
  have stage_of {r : SuctionRun} (h : s.manifold.pump = .suction r) : s.duty.stage = some { r with left := 0 } := by
    simp [State.duty, h, Pump.stage]
  have of_stage {r : SuctionRun} (h : s.duty.stage = some r) :
      ∃ r', s.manifold.pump = .suction r' ∧ { r' with left := 0 } = r := by
    cases hp : s.manifold.pump <;> simp_all [State.duty, Pump.stage]
  have move_of {m : Move} (h : s.station.move = some m) : s.duty.move = some m.kind := by simp [State.duty, h]
  have of_move {k : MoveKind} (h : s.duty.move = some k) : ∃ m, s.station.move = some m ∧ m.kind = k :=
    Option.map_eq_some_iff.1 h
  constructor
  · intro h
    refine ⟨⟨h.idle, h.stages, h.channels, h.spits, h.suctions⟩, h.spitOrder, h.checkOrder, h.orderHeads, h.parkOrder,
      fun k hk => ?_, fun hk => ?_, h.request, fun r hr => ?_, h.parked, fun hf => ?_⟩
    · obtain ⟨m, hm, rfl⟩ := of_move hk
      exact h.moves m hm
    · obtain ⟨m, hm, hk⟩ := of_move hk
      exact h.wipe m hm hk
    · obtain ⟨r', hr', rfl⟩ := of_stage hr
      exact h.suction r' hr'
    · obtain ⟨order, move⟩ := h.fault hf
      exact ⟨order, by simp [State.duty, move]⟩
  · intro h
    refine ⟨h.parts.idle, h.parts.stages, h.parts.channels, h.parts.spits, h.parts.suctions, h.spitOrder, h.checkOrder,
      h.orderHeads, h.parkOrder, fun m hm => h.moves _ (move_of hm), fun m hm hk => h.wipe (hk ▸ move_of hm), h.request,
      fun r hr => h.suction { r with left := 0 } (stage_of hr), h.parked, fun hf => ?_⟩
    obtain ⟨order, move⟩ := h.fault hf
    exact ⟨order, Option.map_eq_none_iff.1 move⟩

/-! ### Parts and stages -/

/-- The active item after the end of its current stage; none after the last (R142). -/
def ActiveItem.next (a : ActiveItem) : Option ActiveItem :=
  match a.stages.tail with
  | [] => none
  | rest => some { a with stages := rest }

namespace PartsFit

variable {x : Option ActiveItem} {sp su sp' su' : Six Nat}

/-- Parts that shrink fit as before. -/
theorem mono (h : PartsFit x sp su) (hsp : ∀ c, sp'.get c ≤ sp.get c) (hsu : ∀ c, su'.get c ≤ su.get c) :
    PartsFit x sp' su' := by
  have zero_sp {c : Channel} (z : sp.get c = 0) : sp'.get c = 0 := Nat.le_zero.1 (z ▸ hsp c)
  have zero_su {c : Channel} (z : su.get c = 0) : su'.get c = 0 := Nat.le_zero.1 (z ▸ hsu c)
  exact ⟨fun e c => ⟨zero_sp (h.idle e c).1, zero_su (h.idle e c).2⟩, h.stages,
    fun a e c hc => ⟨zero_sp (h.channels a e c hc).1, zero_su (h.channels a e c hc).2⟩,
    fun a e hg c => zero_sp (h.spits a e hg c), fun a e hg c => zero_su (h.suctions a e hg c)⟩

/-- With no item active and no part the parts fit. -/
theorem none : PartsFit none (Six.const 0) (Six.const 0) :=
  ⟨by simp, nofun, nofun, nofun, nofun⟩

/-- A stage that ends with no part of its own left leaves parts that fit the next. -/
theorem next {a : ActiveItem} {g : Stage} (h : PartsFit (some a) sp su) (hg : a.stages.head? = some g)
    (hsp : g = .spit → ∀ c, sp.get c = 0) (hsu : g = .suction → ∀ c, su.get c = 0) : PartsFit a.next sp su := by
  obtain ⟨rest, hs⟩ := List.head?_eq_some_iff.1 hg
  have no_spit (hr : .spit ∉ rest) : ∀ c, sp.get c = 0 := by
    by_cases e : g = .spit
    · exact hsp e
    · exact h.spits a rfl (by simp [hs, hr, Ne.symm e])
  have no_suction (hr : .suction ∉ rest) : ∀ c, su.get c = 0 := by
    by_cases e : g = .suction
    · exact hsu e
    · exact h.suctions a rfl (by simp [hs, hr, Ne.symm e])
  have suffix : rest <:+ a.item.work.stages := (List.suffix_cons g rest).trans (hs ▸ (h.stages a rfl).2)
  cases rest with
  | nil =>
    have last : a.next = Option.none := by simp [ActiveItem.next, hs]
    rw [last]
    exact ⟨fun _ c => ⟨no_spit (by simp) c, no_suction (by simp) c⟩, nofun, nofun, nofun, nofun⟩
  | cons g' rest =>
    have goes_on : a.next = some { a with stages := g' :: rest } := by simp [ActiveItem.next, hs]
    rw [goes_on]
    refine ⟨nofun, ?_, ?_, ?_, ?_⟩
    all_goals rintro _ ⟨⟩
    · exact ⟨by simp, suffix⟩
    · exact h.channels a rfl
    · exact no_spit
    · exact no_suction

/-- R27, R142: an item starts with parts on its channels, for the stages it has. -/
theorem start {i : Item} (hsp : ∀ c, sp.get c ≠ 0 → i.work.onChannel c = true ∧ .spit ∈ i.work.stages)
    (hsu : ∀ c, su.get c ≠ 0 → i.work.onChannel c = true ∧ .suction ∈ i.work.stages) :
    PartsFit (some { item := i, stages := i.work.stages }) sp su := by
  refine ⟨nofun, ?_, ?_, ?_, ?_⟩
  all_goals rintro _ ⟨⟩
  · refine ⟨?_, List.suffix_rfl⟩
    unfold Work.stages
    repeat' split
    all_goals simp
  · intro c hc
    exact ⟨by_contra fun z => by simp [(hsp c z).1] at hc, by_contra fun z => by simp [(hsu c z).1] at hc⟩
  · exact fun hg c => by_contra fun z => hg (hsp c z).2
  · exact fun hg c => by_contra fun z => hg (hsu c z).2

end PartsFit

namespace Duty

variable {d : Duty}

/-! ### A duty whose item holds nothing of the station and the pump -/

/-- Nothing of the station or the pump stands for the active item. -/
structure Free (d : Duty) : Prop where
  noSpit : d.order ≠ .spit
  noCheck : d.order ≠ .check
  noWipe : d.move ≠ some .wipe
  noRequest : d.request = none
  noStage : ∀ r, d.stage = some r → r.orphan = true

/-- With nothing held, the active item and its parts can become any that fit. -/
theorem Holds.hand (h : d.Holds) (hf : d.Free) {x : Option ActiveItem} {sp su : Six Nat} (hp : PartsFit x sp su) :
    { d with active := x, spitPart := sp, suctionPart := su }.Holds :=
  { h with
    parts := hp
    spitOrder := fun e => absurd e hf.noSpit
    checkOrder := fun e => absurd e hf.noCheck
    orderHeads := fun e => e.elim (absurd · hf.noSpit) (absurd · hf.noCheck)
    wipe := fun e => absurd e hf.noWipe
    request := fun q e => by simp [hf.noRequest] at e
    suction := fun r e => ⟨(h.suction r e).1, fun ho => by simp [hf.noStage r e] at ho⟩ }

theorem AtStage.unique {g g' : Stage} (h : d.AtStage g) (h' : d.AtStage g') : g = g' := by
  obtain ⟨a, ha, hg⟩ := h
  obtain ⟨b, hb, hg'⟩ := h'
  obtain rfl : a = b := Option.some.inj (ha.symm.trans hb)
  exact Option.some.inj (hg.symm.trans hg')

theorem AtSuction.atStage {x : Head} {l : Nat} (h : d.AtSuction x l) : d.AtStage .suction := by
  obtain ⟨-, -, a, -, -, -, ha, hg, -⟩ := h
  exact ⟨a, ha, hg⟩

/-- Each thing that stands for the item belongs to one stage; at another stage, or with no item, it does not stand. -/
theorem Holds.free (h : d.Holds) (spit : d.AtStage .spit → d.order ≠ .spit) (check : d.AtStage .check → d.order ≠ .check)
    (wipe : d.AtStage .wipe → d.move ≠ some .wipe)
    (suction : d.AtStage .suction → d.request = none ∧ ∀ r, d.stage = some r → r.orphan = true) : d.Free where
  noSpit e := spit (h.spitOrder e) e
  noCheck e := check (h.checkOrder e) e
  noWipe e := wipe (h.wipe e).1 e
  noRequest := Option.eq_none_iff_forall_ne_some.2 fun q e => by simp [(suction (h.request q e).1.atStage).1] at e
  noStage r e := by
    cases ho : r.orphan with
    | true => rfl
    | false => exact ho.symm.trans ((suction ((h.suction r e).2 ho).atStage).2 r e)

theorem Holds.free_of_none (h : d.Holds) (ha : d.active = none) : d.Free := by
  have nowhere {g : Stage} : ¬ d.AtStage g := by
    rintro ⟨a, e, -⟩
    simp [ha] at e
  exact h.free (absurd · nowhere) (absurd · nowhere) (absurd · nowhere) (absurd · nowhere)

/-- The station outside its suction state has no request, and no stage but an orphan. -/
theorem Holds.no_suction (h : d.Holds) (hs : d.state ≠ .suction) :
    d.request = none ∧ ∀ r, d.stage = some r → r.orphan = true := by
  refine ⟨Option.eq_none_iff_forall_ne_some.2 fun q e => hs (h.request q e).1.2.1, fun r e => ?_⟩
  cases ho : r.orphan with
  | true => rfl
  | false => exact absurd ((h.suction r e).2 ho).2.1 hs

/-! ### The order, the carriage and the moves -/

/-- The order record is emptied. -/
def dropOrder (d : Duty) : Duty := { d with order := .none, mask := Three.const false }

/-- R127: an order is withdrawn, satisfied or finished. -/
theorem Holds.dropOrder (h : d.Holds) : d.dropOrder.Holds :=
  { h with
    spitOrder := nofun
    checkOrder := nofun
    orderHeads := by simp [Duty.dropOrder]
    parkOrder := nofun
    wipe := fun e => ⟨(h.wipe e).1, rfl⟩
    request := fun q e => ⟨⟨rfl, (h.request q e).1.2⟩, (h.request q e).2⟩
    suction := fun r e => ⟨(h.suction r e).1, fun ho => ⟨rfl, ((h.suction r e).2 ho).2⟩⟩
    fault := fun e => ⟨rfl, (h.fault e).2⟩ }

/-- R118: the carriage is away where it may be, and back where no PARK order stands. -/
theorem Holds.parkAt (h : d.Holds) {p : ParkState} (away : p = .away → d.state = .opened ∨ d.state = .fault)
    (parked : p = .parked → d.order ≠ .park) : { d with park := p }.Holds :=
  { h with
    parkOrder := fun e => by
      cases p with
      | away => rfl
      | parked => exact absurd e (parked rfl)
    parked := away }

/-- R127: an order is placed in an empty record, outside FAULT. -/
theorem Holds.placeOrder (h : d.Holds) {k : OrderKind} {m : Three Bool} (hs : d.state = .opened)
    (spit : k = .spit → d.AtStage .spit) (check : k = .check → d.AtStage .check)
    (heads : k = .spit ∨ k = .check → ∀ a, d.active = some a → m = a.item.work.heads)
    (park : k = .park → d.park = .away) : { d with order := k, mask := m }.Holds :=
  { h with
    spitOrder := spit
    checkOrder := check
    orderHeads := heads
    parkOrder := park
    wipe := fun e => by
      have := h.moves _ e
      simp [hs, MoveKind.state] at this
    request := fun q e => by simp [(h.no_suction (by simp [hs])).1] at e
    suction := fun r e => ⟨(h.suction r e).1, fun ho => by simp [(h.no_suction (by simp [hs])).2 r e] at ho⟩
    fault := fun e => by simp [hs] at e }

/-- Outside FAULT the carriage is away in OPEN alone (R118). -/
theorem Holds.opened_of_away (h : d.Holds) (hp : d.park ≠ .parked) (hs : d.state ≠ .fault) :
    d.park = .away ∧ d.state = .opened := by
  have away : d.park = .away := by cases e : d.park <;> simp_all
  exact ⟨away, (h.parked away).resolve_right hs⟩

/-- A move of cap or wiper has the station's state. -/
def startMove (d : Duty) (k : MoveKind) : Duty := { d with state := k.state, move := some k }

/-- R119, R120: a move starts from CAPPED or OPEN with the carriage parked, a wipe at the WIPE stage. -/
theorem Holds.startMove (h : d.Holds) {k : MoveKind} (hs : d.state = .opened ∨ d.state = .capped) (hp : d.park = .parked)
    (hw : k = .wipe → d.AtStage .wipe) : (d.startMove k).Holds := by
  have no_suction := h.no_suction (by rcases hs with e | e <;> simp [e])
  exact { h with
    moves := fun k' e => by cases e; rfl
    wipe := fun e => by
      obtain rfl : k = .wipe := Option.some.inj e
      refine ⟨hw rfl, ?_⟩
      cases ho : d.order with
      | none => exact ho
      | park => simp [h.parkOrder ho] at hp
      | spit => exact nomatch (h.spitOrder ho).unique (hw rfl)
      | check => exact nomatch (h.checkOrder ho).unique (hw rfl)
    request := fun q e => by simp [Duty.startMove, no_suction.1] at e
    suction := fun r e => ⟨(h.suction r e).1, fun ho => by simp [no_suction.2 r e] at ho⟩
    parked := fun e => by simp [Duty.startMove, hp] at e
    fault := fun e => by cases k <;> simp [Duty.startMove, MoveKind.state] at e }

/-- The station comes to rest in a state. -/
def rest (d : Duty) (x : StationState) : Duty := { d with state := x, move := none }

/-- R117, R119, R131: the station comes to rest in OPEN, or in CAPPED with the carriage parked. -/
theorem Holds.rest (h : d.Holds) {x : StationState} (hs : d.state ≠ .suction)
    (hx : x = .opened ∨ x = .capped ∧ d.park = .parked) : (d.rest x).Holds := by
  have no_suction := h.no_suction hs
  exact { h with
    moves := nofun
    wipe := nofun
    request := fun q e => by simp [Duty.rest, no_suction.1] at e
    suction := fun r e => ⟨(h.suction r e).1, fun ho => by simp [no_suction.2 r e] at ho⟩
    parked := fun e => by
      rcases hx with rfl | ⟨-, hp⟩
      · exact .inl rfl
      · simp [Duty.rest, hp] at e
    fault := fun e => by rcases hx with rfl | ⟨rfl, -⟩ <;> simp [Duty.rest] at e }

/-- While a move runs the station is neither in suction nor OPEN nor in FAULT, so the carriage is parked. -/
theorem Holds.moving (h : d.Holds) {k : MoveKind} (hm : d.move = some k) : d.state ≠ .suction ∧ d.park = .parked := by
  have state := h.moves k hm
  refine ⟨by rw [state]; cases k <;> simp [MoveKind.state], ?_⟩
  cases hp : d.park with
  | parked => rfl
  | away =>
    have away := h.parked hp
    rw [state] at away
    cases k <;> simp [MoveKind.state] at away

/-! ### Stages -/

/-- The current stage ends (R142). -/
def endStage (d : Duty) : Duty := { d with active := d.active.bind ActiveItem.next }

/-- R142: a stage that holds nothing any more, and has no part left, ends. -/
theorem Holds.endStage (h : d.Holds) {g : Stage} (hg : d.AtStage g)
    (spit : g = .spit → d.order ≠ .spit ∧ ∀ c, d.spitPart.get c = 0) (check : g = .check → d.order ≠ .check)
    (wipe : g = .wipe → d.move ≠ some .wipe) (suction : g = .suction → d.state ≠ .suction ∧ ∀ c, d.suctionPart.get c = 0) : d.endStage.Holds := by
  have free : d.Free := h.free (fun e => (spit (hg.unique e)).1) (fun e => check (hg.unique e)) (fun e => wipe (hg.unique e))
    fun e => h.no_suction (suction (hg.unique e)).1
  obtain ⟨a, ha, hg⟩ := hg
  have parts : PartsFit (some a) d.spitPart d.suctionPart := ha ▸ h.parts
  have next : d.active.bind ActiveItem.next = a.next := by simp [ha]
  have fits := parts.next hg (fun e => (spit e).2) (fun e => (suction e).2)
  exact h.hand free (next ▸ fits)

/-- An item's parts shrink. -/
theorem Holds.shrink (h : d.Holds) {sp su : Six Nat} (hsp : ∀ c, sp.get c ≤ d.spitPart.get c)
    (hsu : ∀ c, su.get c ≤ d.suctionPart.get c) : { d with spitPart := sp, suctionPart := su }.Holds :=
  { h with parts := h.parts.mono hsp hsu }

/-- R33, R129: an accepted SPIT settles the parts of the order's heads, which are all the item has; its order is finished and
its stage ends. -/
theorem Holds.endSpit (h : d.Holds) (ho : d.order = .spit) :
    ({ d with spitPart := Six.tab fun c => if maskHas d.mask c then 0 else d.spitPart.get c }.dropOrder.endStage).Holds := by
  have at_spit := h.spitOrder ho
  obtain ⟨a, ha, -⟩ := at_spit
  have settled (c : Channel) : (if maskHas d.mask c then 0 else d.spitPart.get c) = 0 := by
    split
    · rfl
    · next off =>
      refine (h.parts.channels a ha c ?_).1
      rw [h.orderHeads (.inl ho) a ha] at off
      simp [Work.onChannel, off]
  have shrunk := h.shrink (sp := Six.tab fun c => if maskHas d.mask c then 0 else d.spitPart.get c)
    (fun c => by simp [settled]) fun _ => le_rfl
  have no_parts (c : Channel) : (Six.tab fun c => if maskHas d.mask c then 0 else d.spitPart.get c).get c = 0 := by
    simpa using settled c
  exact shrunk.dropOrder.endStage (h.spitOrder ho) (fun _ => ⟨nofun, no_parts⟩) nofun nofun nofun

/-- R129: an accepted CHECK ends its stage. -/
theorem Holds.endCheck (h : d.Holds) (ho : d.order = .check) : d.dropOrder.endStage.Holds :=
  h.dropOrder.endStage (h.checkOrder ho) nofun nofun nofun nofun

/-! ### The start of an item and its being given back -/

/-- R27, R142: an item starts while none is active. -/
theorem Holds.start (h : d.Holds) (ha : d.active = none) {i : Item} {sp su : Six Nat}
    (hsp : ∀ c, sp.get c ≠ 0 → i.work.onChannel c = true ∧ .spit ∈ i.work.stages)
    (hsu : ∀ c, su.get c ≠ 0 → i.work.onChannel c = true ∧ .suction ∈ i.work.stages) :
    { d with active := some { item := i, stages := i.work.stages }, spitPart := sp, suctionPart := su }.Holds :=
  h.hand (h.free_of_none ha) (.start hsp hsu)

/-- The active item is given back with its parts (R148, R29). -/
def giveBack (d : Duty) : Duty :=
  if d.active = none then d else { d with active := none, spitPart := Six.const 0, suctionPart := Six.const 0 }

theorem Holds.giveBack (h : d.Holds) (hf : d.Free) : d.giveBack.Holds := by
  unfold Duty.giveBack
  split
  · exact h
  · exact h.hand hf .none

/-- R128: the timer of an order of origin ITEM expires: the order and the item go. -/
theorem Holds.orderLost (h : d.Holds) (ho : d.order ≠ .none) : d.dropOrder.giveBack.Holds := by
  refine h.dropOrder.giveBack ⟨nofun, nofun, fun e => ho (h.wipe e).2, ?_, fun r e => ?_⟩
  · exact Option.eq_none_iff_forall_ne_some.2 fun q e => ho (h.request q e).1.1
  · cases hr : r.orphan with
    | true => rfl
    | false => exact absurd ((h.suction r e).2 hr).1 ho

/-! ### Suction -/

/-- R124: the station asks for the suction of the item at its SUCTION stage. -/
theorem Holds.askSuction (h : d.Holds) {a : ActiveItem} {x : Head} {l n : Nat} {o : CleanOrigin} {u : Urgency}
    (ha : d.active = some a) (hg : a.stages.head? = some .suction) (hw : a.item.work = .clean x l o u n)
    (hs : d.state = .capped) (hm : d.move = none) (hr : d.suction = none) :
    { d with state := .suction, suction := some { head := x, level := l, running := false },
             request := some { head := x, level := l } }.Holds := by
  have at_suction : d.AtStage .suction := ⟨a, ha, hg⟩
  have no_order : d.order = .none := by
    cases ho : d.order with
    | none => rfl
    | park => simpa [hs] using h.parked (h.parkOrder ho)
    | spit => exact nomatch (h.spitOrder ho).unique at_suction
    | check => exact nomatch (h.checkOrder ho).unique at_suction
  exact { h with
    moves := fun k e => by simp [hm] at e
    wipe := fun e => by simp [hm] at e
    request := fun q e => by cases e; exact ⟨⟨no_order, rfl, a, o, u, n, ha, hg, hw⟩, rfl⟩
    suction := fun r e => by simpa [hr] using (h.suction r e).1
    parked := fun e => by simpa [hs] using h.parked e
    fault := nofun }

/-- R15, R124: the requested suction takes the pump. -/
theorem Holds.startSuction (h : d.Holds) {q : SuctionReq} (hq : d.request = some q) :
    { d with suction := some { head := q.head, level := q.level, running := true }, request := none,
             stage := some { head := q.head, level := q.level, left := 0, orphan := false } }.Holds :=
  { h with
    request := nofun
    suction := fun r e => by cases e; exact ⟨rfl, fun _ => (h.request q hq).1⟩ }

/-- A suction stage that runs has no request beside it. -/
theorem Holds.request_of_stage (h : d.Holds) {r : SuctionRun} (hr : d.stage = some r) : d.request = none :=
  Option.eq_none_iff_forall_ne_some.2 fun q e => by simpa [(h.suction r hr).1] using (h.request q e).2

/-- R17: a suction stage has left the pump; the parts can have shrunk. -/
theorem Holds.stopSuction (h : d.Holds) {r : SuctionRun} (hr : d.stage = some r) {su : Six Nat}
    (hsu : ∀ c, su.get c ≤ d.suctionPart.get c) : { d with suctionPart := su, suction := none, stage := none }.Holds :=
  { h with
    parts := h.parts.mono (fun _ => le_rfl) hsu
    request := fun q e => by simp [h.request_of_stage hr] at e
    suction := nofun }

/-- R17, R34: a suction stage ends with its parts settled, which are all the suction parts the item has; the station is
CAPPED and the SUCTION stage ends. -/
theorem Holds.endSuction (h : d.Holds) {r : SuctionRun} (hr : d.stage = some r) (ho : r.orphan = false) {su : Six Nat}
    (hsu : ∀ c, su.get c = if c.head = r.head then 0 else d.suctionPart.get c) :
    ({ d with suctionPart := su, suction := none, stage := none, state := .capped }.endStage).Holds := by
  obtain ⟨no_order, in_suction, a, o, u, n, ha, hg, hw⟩ := (h.suction r hr).2 ho
  have settled (c : Channel) : su.get c = 0 := by
    rw [hsu]
    split
    · rfl
    · next off =>
      refine (h.parts.channels a ha c ?_).2
      have other : (onlyHead r.head).get c.head = false := by simp [onlyHead, off]
      simp [hw, Work.onChannel, maskHas, Work.heads, other]
  have no_move : d.move = none := Option.eq_none_iff_forall_ne_some.2 fun k e => (h.moving e).1 in_suction
  have stopped := h.stopSuction hr fun c => (settled c).trans_le (Nat.zero_le _)
  have capped : { d with suctionPart := su, suction := none, stage := none, state := .capped }.Holds :=
    { stopped with
      moves := fun k e => by simp [no_move] at e
      request := fun q e => by simp [h.request_of_stage hr] at e
      suction := nofun
      parked := fun e => by simpa [in_suction] using h.parked e
      fault := nofun }
  exact capped.endStage (g := .suction) ⟨a, ha, hg⟩ nofun nofun nofun fun _ => ⟨nofun, settled⟩

/-! ### FAULT, and the ends of everything -/

/-- R130: a suction requested is withdrawn, one that runs is marked. -/
def orphaned (d : Duty) : Duty :=
  match d.suction with
  | none => d
  | some r =>
    if r.running then { d with stage := d.stage.map fun q => { q with orphan := true } }
    else { d with request := none, suction := none }

/-- R130: the station is in FAULT, with no move and no order. -/
def faulted (d : Duty) : Duty := { d.orphaned.dropOrder with state := .fault, move := none }

/-- In FAULT no suction stands for the item. -/
theorem Holds.orphaned_suction (h : d.Holds) : d.orphaned.request = none ∧ ∀ r, d.orphaned.stage = some r →
    d.orphaned.suction = some { head := r.head, level := r.level, running := true } ∧ r.orphan = true := by
  unfold Duty.orphaned
  split
  · next hn =>
    exact ⟨Option.eq_none_iff_forall_ne_some.2 fun q e => by simpa [hn] using (h.request q e).2,
      fun r e => by simpa [hn] using (h.suction r e).1⟩
  · next x hx =>
    split
    · next running =>
      refine ⟨Option.eq_none_iff_forall_ne_some.2 fun q e => ?_, fun r e => ?_⟩
      · have requested := hx.symm.trans (h.request q e).2
        simp_all
      · obtain ⟨r', hr', rfl⟩ := Option.map_eq_some_iff.1 e
        exact ⟨(h.suction r' hr').1, rfl⟩
    · next requested =>
      refine ⟨rfl, fun r e => ?_⟩
      have running := hx.symm.trans (h.suction r e).1
      simp_all

theorem orphaned_active (d : Duty) : d.orphaned.active = d.active ∧ d.orphaned.spitPart = d.spitPart ∧
    d.orphaned.suctionPart = d.suctionPart := by
  unfold Duty.orphaned
  repeat' split
  all_goals exact ⟨rfl, rfl, rfl⟩

/-- R130, R118: the station enters FAULT, wherever the carriage is, and the item is given back. -/
theorem Holds.enterFault (h : d.Holds) (p : ParkState) : ({ d.faulted with park := p }.giveBack).Holds := by
  obtain ⟨no_request, stages⟩ := h.orphaned_suction
  obtain ⟨active, spit, suction⟩ := d.orphaned_active
  refine Holds.giveBack ?_ ⟨nofun, nofun, nofun, no_request, fun r e => (stages r e).2⟩
  exact {
    parts := by
      have fits := h.parts
      rwa [← active, ← spit, ← suction] at fits
    spitOrder := nofun
    checkOrder := nofun
    orderHeads := by simp [Duty.faulted, Duty.dropOrder]
    parkOrder := nofun
    moves := nofun
    wipe := nofun
    request := fun q e => by simp [Duty.faulted, Duty.dropOrder, no_request] at e
    suction := fun r e => ⟨(stages r e).1, fun ho => by simp [(stages r e).2] at ho⟩
    parked := fun _ => .inr rfl
    fault := fun _ => ⟨rfl, rfl⟩ }

/-- R178: everything that runs is stopped. -/
theorem Holds.stop (h : d.Holds) :
    { d.dropOrder with move := none, suction := none, request := none, stage := none }.Holds :=
  { h.dropOrder with
    moves := nofun
    wipe := nofun
    request := nofun
    suction := nofun
    fault := fun _ => ⟨rfl, rfl⟩ }

/-- The duty that a reset leaves, with the station as its sensors show it (R29, R133, R151). -/
def atReset (x : StationState) (p : ParkState) : Duty :=
  { active := none, spitPart := Six.const 0, suctionPart := Six.const 0, state := x, park := p, move := none, suction := none,
    order := .none, mask := Three.const false, request := none, stage := none }

theorem holds_atReset {x : StationState} {p : ParkState} (h : p = .away → x = .opened ∨ x = .fault) :
    (atReset x p).Holds where
  parts := .none
  spitOrder := nofun
  checkOrder := nofun
  orderHeads := by simp [atReset]
  parkOrder := nofun
  moves := nofun
  wipe := nofun
  request := nofun
  suction := nofun
  parked := h
  fault := fun _ => ⟨rfl, rfl⟩

end Duty
end Sys2Proof.Machine
end

section
/-!
SUPPORT. What each operation does to the duty: nothing, or the update that the duty has for it (`_duty`).
-/

namespace Sys2Proof.Machine

/-- A frame outside the ledger, the manifold, the station and the service leaves the duty. -/
theorem Frame.duty {bs : List Block} {s t : State} (h : Frame bs s t)
    (hb : decide (Block.ledger ∉ bs ∧ Block.manifold ∉ bs ∧ Block.station ∉ bs ∧ Block.service ∉ bs) = true) :
    t.duty = s.duty := by
  obtain ⟨h1, h2, h3, h4⟩ := of_decide_eq_true hb
  have hl : t.ledger = s.ledger := h .ledger h1
  have hm : t.manifold = s.manifold := h .manifold h2
  have hs : t.station = s.station := h .station h3
  have hv : t.service = s.service := h .service h4
  simp only [State.duty, hl, hm, hs, hv]

section
variable (s : State)

/-! ### The updates -/

@[simp] theorem State.setPending_duty (x : List Instr) : (s.setPending x).duty = s.duty := by rfl
@[simp] theorem State.setPins_duty (x : Pins) : (s.setPins x).duty = s.duty := by rfl
@[simp] theorem State.setChips_duty (x : Chips) : (s.setChips x).duty = s.duty := by rfl
@[simp] theorem State.setMode_duty (x : ModeUnit) : (s.setMode x).duty = s.duty := by rfl
@[simp] theorem State.setSupply_duty (x : Supply) : (s.setSupply x).duty = s.duty := by rfl
@[simp] theorem State.setTickets_duty (x : Admission) : (s.setTickets x).duty = s.duty := by rfl
@[simp] theorem State.setFeed_duty (x : Feed) : (s.setFeed x).duty = s.duty := by rfl
@[simp] theorem State.setSheets_duty (x : Sheets) : (s.setSheets x).duty = s.duty := by rfl
@[simp] theorem State.setDue_duty (x : Due) : (s.setDue x).duty = s.duty := by rfl
@[simp] theorem State.modPort_duty (p : Port) (f : PortRec → PortRec) : (s.modPort p f).duty = s.duty := by rfl
@[simp] theorem State.replied_duty (r : State) (p : Port) (c : Nat) (k : ReplyCode) (v n : Nat) :
    (s.replied r p c k v n).duty = s.duty := by rfl

/-- The duty with other parts. -/
theorem State.setLedger_duty (x : Ledger) :
    (s.setLedger x).duty = { s.duty with spitPart := x.spitPart, suctionPart := x.suctionPart } := by rfl

/-- The duty with another request and pump. -/
theorem State.setManifold_duty (x : Manifold) :
    (s.setManifold x).duty = { s.duty with request := x.request, stage := x.pump.stage } := by rfl

/-- The duty with another active item. -/
theorem State.setService_duty (x : Service) : (s.setService x).duty = { s.duty with active := x.active } := by rfl

/-- The duty with another station. -/
theorem State.setStation_duty (x : Station) : (s.setStation x).duty =
    { s.duty with state := x.state, park := x.park, move := x.move.map Move.kind, suction := x.suction, order := x.order.kind,
                  mask := x.order.mask } := by rfl

@[simp] theorem State.when_duty (b : Bool) {f : State → State} (h : ∀ t, (f t).duty = t.duty) :
    (s.when b f).duty = s.duty := by
  cases b
  · rfl
  · exact h s

@[simp] theorem State.foldl_duty {α : Type} (l : List α) {f : State → α → State} (h : ∀ t x, (f t x).duty = t.duty) :
    (l.foldl f s).duty = s.duty := by
  induction l generalizing s with
  | nil => rfl
  | cons x l ih => exact (ih (f s x)).trans (h s x)

/-! ### Events, and what is due -/

@[simp] theorem State.duePass_duty : s.duePass.duty = s.duty := by rfl
@[simp] theorem State.dueArbiter_duty : s.dueArbiter.duty = s.duty := by rfl
@[simp] theorem State.dueExamine_duty : s.dueExamine.duty = s.duty := by rfl
@[simp] theorem State.dueStroke_duty (c : Channel) (b : Bool) : (s.dueStroke c b).duty = s.duty := by rfl
@[simp] theorem State.inkMoved_duty : s.inkMoved.duty = s.duty := s.inkMoved_frame.duty rfl
@[simp] theorem State.wasteMoved_duty : s.wasteMoved.duty = s.duty := s.wasteMoved_frame.duty rfl
@[simp] theorem State.reportRolls_duty (old : Two RollRec) : (s.reportRolls old).duty = s.duty :=
  (s.reportRolls_frame old).duty rfl
@[simp] theorem State.raise_duty (e : Event) : (s.raise e).duty = s.duty := by rfl
@[simp] theorem State.raiseIf_duty (b : Bool) (e : Event) : (s.raiseIf b e).duty = s.duty := (s.raiseIf_frame b e).duty rfl
@[simp] theorem State.raiseLevels_duty (x y : Six ChannelRec) : (s.raiseLevels x y).duty = s.duty :=
  (s.raiseLevels_frame x y).duty rfl
@[simp] theorem State.raiseSurveys_duty (b : Bool) : (s.raiseSurveys b).duty = s.duty := by simp [State.raiseSurveys]

/-! ### The supply, the tickets, the sheets and the feed unit -/

@[simp] theorem State.setLink_duty (l : Link) : (s.setLink l).duty = s.duty := by rfl
@[simp] theorem State.requestIdentify_duty (pos : LinkPos) : (s.requestIdentify pos).duty = s.duty := by rfl
@[simp] theorem State.requestMark_duty (pos : LinkPos) (n : Nat) : (s.requestMark pos n).duty = s.duty := by rfl
@[simp] theorem State.dropJob_duty (pos : LinkPos) : (s.dropJob pos).duty = s.duty := by rfl
@[simp] theorem State.endJob_duty : s.endJob.duty = s.duty := by rfl
@[simp] theorem State.nextCommand_duty (r : LinkRun) (x : ChipCommand) : (s.nextCommand r x).duty = s.duty := by rfl
@[simp] theorem State.endRemapped_duty (j : LinkJob) : (s.endRemapped j).duty = s.duty := by rfl
@[simp] theorem State.setWaste_duty (w : WasteRec) : (s.setWaste w).duty = s.duty := by rfl
@[simp] theorem State.refreshFull_duty : s.refreshFull.duty = s.duty := s.refreshFull_frame.duty rfl
@[simp] theorem State.askCoverage_duty (w : Work) : (s.askCoverage w).duty = s.duty := (s.askCoverage_frame w).duty rfl
@[simp] theorem State.putSlot_duty (k : SlotId) (r : SlotRec) : (s.putSlot k r).duty = s.duty := (s.putSlot_frame k r).duty rfl
@[simp] theorem State.promote_duty (c : Channel) : (s.promote c).duty = s.duty := (s.promote_frame c).duty rfl
@[simp] theorem State.promoteFor_duty (k : SlotId) : (s.promoteFor k).duty = s.duty := (s.promoteFor_frame k).duty rfl
@[simp] theorem State.placeSlot_duty (k : SlotId) (c : Channel) (r : SlotRec) : (s.placeSlot k c r).duty = s.duty :=
  (s.placeSlot_frame k c r).duty rfl
@[simp] theorem State.tankArrives_duty (k : SlotId) : (s.tankArrives k).duty = s.duty := (s.tankArrives_frame k).duty rfl
@[simp] theorem State.addDrawn_duty (k : SlotId) (v : Nat) : (s.addDrawn k v).duty = s.duty := (s.addDrawn_frame k v).duty rfl
@[simp] theorem State.recomputeLow_duty : s.recomputeLow.duty = s.duty := s.recomputeLow_frame.duty rfl
@[simp] theorem State.acceptTank_duty (k : SlotId) (c : Channel) (n : Nat) : (s.acceptTank k c n).duty = s.duty :=
  (s.acceptTank_frame k c n).duty rfl
@[simp] theorem State.modTicket_duty (n : Nat) (g : Ticket → Ticket) : (s.modTicket n g).duty = s.duty := by rfl
@[simp] theorem State.setTicketQueue_duty (q : List Ticket) : (s.setTicketQueue q).duty = s.duty := by rfl
@[simp] theorem State.appendTicket_duty (h i a : Nat) (p : Six Nat) : (s.appendTicket h i a p).duty = s.duty := by rfl
@[simp] theorem State.takeTicket_duty (n : Nat) : (s.takeTicket n).duty = s.duty := by rfl
@[simp] theorem State.dropFiring_duty (n : Nat) : (s.dropFiring n).duty = s.duty := by rfl
@[simp] theorem State.modSheet_duty (n : Nat) (f : Sheet → Sheet) : (s.modSheet n f).duty = s.duty := by rfl
@[simp] theorem State.appendSheet_duty (p : RollPref) (m w l t b d : Nat) (c : CutMode) :
    (s.appendSheet p m w l t b d c).duty = s.duty := by rfl
@[simp] theorem State.examineSheet_duty (h : Sheet) : (s.examineSheet h).duty = s.duty := (s.examineSheet_frame h).duty rfl
@[simp] theorem State.setRoll_duty (r : Roll) (x : RollRec) : (s.setRoll r x).duty = s.duty := by rfl
@[simp] theorem State.modPathRoll_duty (f : RollRec → RollRec) : (s.modPathRoll f).duty = s.duty :=
  (s.modPathRoll_frame f).duty rfl
@[simp] theorem State.endOp_duty (p : PathState) : (s.endOp p).duty = s.duty := by rfl
@[simp] theorem State.startOp_duty (p : PathState) (o : FeedOp) : (s.startOp p o).duty = s.duty := by rfl
@[simp] theorem State.pathFaults_duty (w : FeedCause) (e : Event) : (s.pathFaults w e).duty = s.duty := by rfl
@[simp] theorem State.completeAdvance_duty (o : FeedOp) : (s.completeAdvance o).duty = s.duty :=
  (s.completeAdvance_frame o).duty rfl
@[simp] theorem State.proceedSwap_duty (o : FeedOp) : (s.proceedSwap o).duty = s.duty := (s.proceedSwap_frame o).duty rfl
@[simp] theorem State.putNozzles_duty (x : Six NozzleRec) : (s.putNozzles x).duty = s.duty := (s.putNozzles_frame x).duty rfl

/-! ### Modes -/

@[simp] theorem State.setParams_duty (p : Params) : (s.setParams p).duty = s.duty := by rfl
@[simp] theorem State.loadIdleSleep_duty : s.loadIdleSleep.duty = s.duty := by rfl
@[simp] theorem State.enterSleep_duty : s.enterSleep.duty = s.duty := by rfl
@[simp] theorem State.enterRun_duty : s.enterRun.duty = s.duty := by rfl

/-! ### The ledger but for the parts -/

@[simp] theorem State.setChan_duty (x : Six ChannelRec) : (s.setChan x).duty = s.duty := by rfl
@[simp] theorem State.setDv_duty (m : Six Bool) (v : Nat) : (s.setDv m v).duty = s.duty := by rfl
@[simp] theorem State.setWa_duty (n : Nat) : (s.setWa n).duty = s.duty := by rfl

@[simp] theorem State.ledgerOp_duty (f : Channel → ChannelRec → ChannelRec) : (s.ledgerOp f).duty = s.duty := by
  simp [State.ledgerOp]

@[simp] theorem State.recomputeLevels_duty : s.recomputeLevels.duty = s.duty := by simp [State.recomputeLevels]

@[simp] theorem State.refreshUncovered_duty : s.refreshUncovered.duty = s.duty := by
  simp [State.refreshUncovered, State.setLedger_duty]
  rfl

@[simp] theorem State.refreshWaste_duty : s.refreshWaste.duty = s.duty := by simp [State.refreshWaste]

@[simp] theorem State.setLevel_duty (c : Channel) (n : Nat) : (s.setLevel c n).duty = s.duty := s.ledgerOp_duty _
@[simp] theorem State.creditStroke_duty (c : Channel) (v : Nat) : (s.creditStroke c v).duty = s.duty := s.ledgerOp_duty _
@[simp] theorem State.reserveInk_duty (t : Ticket) : (s.reserveInk t).duty = s.duty := s.ledgerOp_duty _
@[simp] theorem State.releaseInk_duty (ts : List Ticket) : (s.releaseInk ts).duty = s.duty := s.ledgerOp_duty _

@[simp] theorem State.settleTicket_duty (t : Ticket) (pairs : List (Nat × Nat)) : (s.settleTicket t pairs).duty = s.duty := by
  simp [State.settleTicket, State.settleSwath]

@[simp] theorem State.loseTicket_duty (t : Ticket) : (s.loseTicket t).duty = s.duty := by
  simp [State.loseTicket, State.settleLost, State.debitNeed]

@[simp] theorem State.removeTickets_duty (leaves : Ticket → Bool) : (s.removeTickets leaves).duty = s.duty := by
  unfold State.removeTickets
  dsimp only
  split
  · rfl
  · simp

@[simp] theorem State.removeSheetTickets_duty (id : Nat) : (s.removeSheetTickets id).duty = s.duty := s.removeTickets_duty _

@[simp] theorem State.wasteArrives_duty : s.wasteArrives.duty = s.duty := by simp [State.wasteArrives]
@[simp] theorem State.wasteLeaves_duty : s.wasteLeaves.duty = s.duty := by simp [State.wasteLeaves]

@[simp] theorem State.faultPosition_duty (pos : LinkPos) : (s.faultPosition pos).duty = s.duty := by
  cases pos <;> simp [State.faultPosition]

@[simp] theorem State.applyTank_duty (k : SlotId) (i : Identity) (m : BitVec 128) : (s.applyTank k i m).duty = s.duty := by
  unfold State.applyTank
  repeat' split
  all_goals simp

@[simp] theorem State.applyWaste_duty (i : Identity) (m : BitVec 128) : (s.applyWaste i m).duty = s.duty := by
  unfold State.applyWaste
  repeat' split
  all_goals simp

@[simp] theorem State.applyIdentity_duty (pos : LinkPos) (i : Identity) (m : BitVec 128) :
    (s.applyIdentity pos i m).duty = s.duty := by
  cases pos <;> simp [State.applyIdentity]

@[simp] theorem State.confirmMarks_duty (pos : LinkPos) (n : Nat) : (s.confirmMarks pos n).duty = s.duty := by
  cases pos <;> simp [State.confirmMarks]

/-! ### The manifold but for the suction -/

@[simp] theorem State.setSession_duty (c : Channel) (x : Session) : (s.setSession c x).duty = s.duty := by rfl
@[simp] theorem State.putSession_duty (c : Channel) (x : SessionState) : (s.putSession c x).duty = s.duty := by rfl
@[simp] theorem State.clearDemand_duty (c : Channel) : (s.clearDemand c).duty = s.duty := by rfl
@[simp] theorem State.enterWant_duty (c : Channel) : (s.enterWant c).duty = s.duty := by rfl

@[simp] theorem State.setDemands_duty (cs : List Channel) : (s.setDemands cs).duty = s.duty := s.foldl_duty cs fun _ _ => rfl

@[simp] theorem State.strokeTest_duty (c : Channel) : (s.strokeTest c).duty = s.duty := by
  unfold State.strokeTest
  dsimp only
  repeat' split
  all_goals simp

@[simp] theorem State.afterStroke_duty (c : Channel) (b : Bool) : (s.afterStroke c b).duty = s.duty := by
  unfold State.afterStroke
  dsimp only
  repeat' split
  all_goals simp

@[simp] theorem State.fillFound_duty (c : Channel) : (s.fillFound c).duty = s.duty := by simp [State.fillFound]

theorem State.sessionReacts_duty {s t : State} {c : Channel} (h : s.sessionReacts c = some t) : t.duty = s.duty := by
  unfold State.sessionReacts at h
  repeat' split at h
  all_goals cases h
  all_goals simp

/-- A stroke that loses its source's record stays a stroke. -/
@[simp] theorem Pump.forget_stage (p : Pump) (k : SlotId) : (p.forget k).stage = p.stage := by cases p <;> rfl

@[simp] theorem State.forgetSource_duty (k : SlotId) : (s.forgetSource k).duty = s.duty := by
  rw [State.forgetSource, State.setManifold_duty, Pump.forget_stage]
  rfl

@[simp] theorem State.tankLeaves_duty (k : SlotId) : (s.tankLeaves k).duty = s.duty := by simp [State.tankLeaves]

@[simp] theorem State.remapSlot_duty (k : SlotId) (e : Option Channel) : (s.remapSlot k e).duty = s.duty := by
  unfold State.remapSlot
  split
  · rfl
  · simp

@[simp] theorem State.takeMap_duty (m : Eight (Option Channel)) : (s.takeMap m).duty = s.duty := by simp [State.takeMap]

/-! ### The link -/

@[simp] theorem State.judgeAttempt_duty (j : LinkJob) (m : BitVec 128) : (s.judgeAttempt j m).duty = s.duty := by
  unfold State.judgeAttempt
  repeat' split
  all_goals simp

@[simp] theorem State.takeAnswer_duty (j : LinkJob) (r : LinkRun) (a : LinkAnswer) : (s.takeAnswer j r a).duty = s.duty := by
  unfold State.takeAnswer
  repeat' split
  all_goals simp

@[simp] theorem State.startJob_duty (j : LinkJob) : (s.startJob j).duty = s.duty := by
  unfold State.startJob
  repeat' split
  all_goals simp

@[simp] theorem State.askAgain_duty (c : Channel) : (s.askAgain c).duty = s.duty := by
  unfold State.askAgain
  split
  · cases h : s.sessionReacts c with
    | none => rfl
    | some t => exact State.sessionReacts_duty h
  · rfl

@[simp] theorem State.drainLink_duty : s.drainLink.duty = s.duty := by simp [State.drainLink]

@[simp] theorem State.afterTransaction_duty : s.afterTransaction.duty = s.duty := by simp [State.afterTransaction]

@[simp] theorem State.busyTimesOut_duty (j : LinkJob) (r : LinkRun) : (s.busyTimesOut j r).duty = s.duty := by
  unfold State.busyTimesOut
  repeat' split
  all_goals simp

@[simp] theorem State.resetLink_duty : s.resetLink.duty = s.duty := by
  unfold State.resetLink
  split <;> simp

/-! ### The service queue -/

@[simp] theorem State.setQueue_duty (q : List Item) : (s.setQueue q).duty = s.duty := by rfl
@[simp] theorem State.unfailHead_duty (h : Head) : (s.unfailHead h).duty = s.duty := by rfl

@[simp] theorem State.request_duty (w : Work) : (s.request w).duty = s.duty := by
  unfold State.request
  dsimp only
  split <;> rfl

@[simp] theorem State.requestSpit_duty (h : Head) : (s.requestSpit h).duty = s.duty := s.request_duty _
@[simp] theorem State.requestCheck_duty (m : Three Bool) : (s.requestCheck m).duty = s.duty := s.request_duty _

@[simp] theorem State.requestClean_duty (h : Head) (l : Nat) (o : CleanOrigin) (u : Urgency) (a : Nat) :
    (s.requestClean h l o u a).duty = s.duty := by
  unfold State.requestClean
  split
  · rfl
  · exact s.request_duty _

@[simp] theorem State.cleanAll_duty (o : CleanOrigin) : (s.cleanAll o).duty = s.duty := by simp [State.cleanAll]

@[simp] theorem State.failHead_duty (h : Head) : (s.failHead h).duty = s.duty := by
  rw [State.failHead, State.setService_duty, State.raiseIf_duty, (s.raiseIf_frame _ _) .service (by decide)]
  rfl

@[simp] theorem State.returnItem_duty (i : Item) : (s.returnItem i).duty = s.duty := by
  unfold State.returnItem
  repeat' split
  all_goals simp

@[simp] theorem State.passOver_duty (i : Item) : (s.passOver i).duty = s.duty := by simp [State.passOver]

@[simp] theorem State.healthRequest_duty (c : Channel) : (s.healthRequest c).duty = s.duty := by
  unfold State.healthRequest
  split <;> simp

@[simp] theorem State.applyCheck_duty (r : List CheckReport) : (s.applyCheck r).duty = s.duty := by
  unfold State.applyCheck
  dsimp only
  split <;> simp

@[simp] theorem State.countDone_duty : s.countDone.duty = s.duty := by
  unfold State.countDone
  repeat' split
  · rfl
  · simp [State.setService_duty]
    rfl
  · rfl

@[simp] theorem State.judgeCleaning_duty (h : Head) (l : Nat) (o : CleanOrigin) (a : Nat) :
    (s.judgeCleaning h l o a).duty = s.duty := by
  unfold State.judgeCleaning
  repeat' split
  all_goals simp

/-! ### Sheets and the feed unit -/

@[simp] theorem State.removeSheet_duty (n : Nat) (o : SheetOutcome) : (s.removeSheet n o).duty = s.duty := by
  unfold State.removeSheet
  split <;> simp

@[simp] theorem State.cancelSheet_duty (n : Nat) (o : SheetOutcome) : (s.cancelSheet n o).duty = s.duty := by
  unfold State.cancelSheet
  dsimp only
  split <;> simp

@[simp] theorem State.cancelIf_duty (n : Nat) (o : SheetOutcome) : (s.cancelIf n o).duty = s.duty := by
  unfold State.cancelIf
  repeat' split
  all_goals simp

@[simp] theorem State.cancelActive_duty (o : SheetOutcome) : (s.cancelActive o).duty = s.duty := by
  unfold State.cancelActive
  split <;> simp

@[simp] theorem State.paperEndOn_duty (r : Roll) : (s.paperEndOn r).duty = s.duty := by
  unfold State.paperEndOn
  repeat' split
  all_goals simp

@[simp] theorem State.stoppedPaperEnd_duty (p : Purpose) (n : Nat) : (s.stoppedPaperEnd p n).duty = s.duty := by
  unfold State.stoppedPaperEnd
  split <;> simp

@[simp] theorem State.feedFaulted_duty (o : FeedOp) : (s.feedFaulted o).duty = s.duty := by
  unfold State.feedFaulted
  repeat' split
  all_goals simp

@[simp] theorem State.stopAdvance_duty (o : FeedOp) (r : Roll) : (s.stopAdvance o r).duty = s.duty := by
  simp [State.stopAdvance]

@[simp] theorem State.faultAdvance_duty (o : FeedOp) (w : FeedCause) : (s.faultAdvance o w).duty = s.duty := by
  simp [State.faultAdvance]

@[simp] theorem State.faultSwap_duty (o : FeedOp) (w : FeedCause) : (s.faultSwap o w).duty = s.duty := by
  simp [State.faultSwap]

@[simp] theorem State.completeCut_duty (o : FeedOp) : (s.completeCut o).duty = s.duty := by simp [State.completeCut]

@[simp] theorem State.requestAdvance_duty (p : Purpose) (d n k : Nat) : (s.requestAdvance p d n k).duty = s.duty := by
  unfold State.requestAdvance
  split <;> simp

@[simp] theorem State.chooseAgain_duty (h : Sheet) : (s.chooseAgain h).duty = s.duty := by
  unfold State.chooseAgain
  repeat' split
  all_goals rfl

@[simp] theorem State.requestSwap_duty (h : Sheet) (r : Roll) : (s.requestSwap h r).duty = s.duty := by
  unfold State.requestSwap
  repeat' split
  all_goals simp [State.startSwap]

@[simp] theorem State.requestCut_duty (h : Sheet) : (s.requestCut h).duty = s.duty := by
  unfold State.requestCut
  split <;> rfl

@[simp] theorem State.rollLeaves_duty (r : Roll) : (s.rollLeaves r).duty = s.duty := by
  unfold State.rollLeaves
  dsimp only
  repeat' split
  all_goals simp

/-! ### The station -/

@[simp] theorem State.resetExposure_duty (h : Head) : (s.resetExposure h).duty = s.duty := by rfl
@[simp] theorem State.resetExposures_duty (m : Three Bool) : (s.resetExposures m).duty = s.duty := by simp [State.resetExposures]
@[simp] theorem State.finishOrder_duty : s.finishOrder.duty = s.duty.dropOrder := by rfl
@[simp] theorem State.enterOpen_duty : s.enterOpen.duty = s.duty.rest .opened := by rfl
@[simp] theorem State.enterCapped_duty : s.enterCapped.duty = s.duty.rest .capped := by
  simp only [State.enterCapped, State.resetExposures_duty]
  rfl

@[simp] theorem State.placeOrder_duty (k : OrderKind) (m : Three Bool) (n : Nat) (o : OrderOrigin) :
    (s.placeOrder k m n o).duty = { s.duty with order := k, mask := m } := by rfl

@[simp] theorem State.finishItem_duty (i : Item) : (s.finishItem i).duty = { s.duty with active := none } := by
  unfold State.finishItem
  cases i.work <;> simp [State.setService_duty]

@[simp] theorem State.endStage_duty : s.endStage.duty = s.duty.endStage := by
  unfold State.endStage
  split
  · next h => simp [Duty.endStage, State.duty, h]
  · next a h =>
    have next : s.duty.endStage = { s.duty with active := a.next } := by simp [Duty.endStage, State.duty, h]
    rw [next, ActiveItem.next]
    split <;> simp_all [State.setService_duty]

/-- The service reservation adds an item's parts to those that stand (R27). -/
theorem State.reserveService_duty (w : Work) : (s.reserveService w).duty =
    { s.duty with spitPart := Six.tab fun c => s.duty.spitPart.get c + (s.spitParts w).get c
                  suctionPart := Six.tab fun c => s.duty.suctionPart.get c + (suctionParts w).get c } := by
  simp only [State.reserveService, State.refreshUncovered_duty, State.setLedger_duty, State.ledgerOp_duty]
  rfl

@[simp] theorem State.releaseParts_duty :
    s.releaseParts.duty = { s.duty with spitPart := Six.const 0, suctionPart := Six.const 0 } := by
  simp only [State.releaseParts, State.refreshUncovered_duty, State.setLedger_duty, State.ledgerOp_duty]

@[simp] theorem State.giveBack_duty : s.giveBack.duty = s.duty.giveBack := by
  unfold State.giveBack
  split
  · next h => simp [Duty.giveBack, State.duty, h]
  · next a h =>
    have item : s.duty.active ≠ none := by simp [State.duty, h]
    simp [Duty.giveBack, item, State.setService_duty]

theorem State.settleSpit_duty (m : Three Bool) (pairs : List (Nat × Nat)) : (s.settleSpit m pairs).duty =
    { s.duty with spitPart := Six.tab fun c => if maskHas m c then 0 else s.duty.spitPart.get c } := by
  simp only [State.settleSpit, State.refreshWaste_duty, State.setLedger_duty, State.ledgerOp_duty, State.ledgerOp_ledger]
  rfl

theorem State.settleSuction_duty (h : Head) (level : Nat) (release : Bool) : (s.settleSuction h level release).duty =
    { s.duty with suctionPart := Six.tab fun c =>
        s.duty.suctionPart.get c - if release && c.head == h then s.duty.suctionPart.get c else 0 } := by
  simp only [State.settleSuction, State.refreshWaste_duty, State.setLedger_duty, State.ledgerOp_duty, State.ledgerOp_ledger,
    Six.get_tab]
  rfl

@[simp] theorem State.orphanSuction_duty : s.orphanSuction.duty = s.duty.orphaned := by
  have record : s.duty.suction = s.station.suction := rfl
  cases hr : s.station.suction with
  | none => simp [State.orphanSuction, Duty.orphaned, record, hr]
  | some r =>
    cases running : r.running with
    | false =>
      simp only [State.orphanSuction, Duty.orphaned, record, hr, running]
      rfl
    | true =>
      cases hp : s.manifold.pump <;>
        simp [State.orphanSuction, Duty.orphaned, hr, running, hp, State.duty, Pump.stage, State.setPump]

@[simp] theorem State.enterFault_duty (w : StationCause) : (s.enterFault w).duty = s.duty.faulted.giveBack := by
  unfold State.enterFault
  simp only [State.giveBack_duty, State.raise_duty, State.setStation_duty, State.orphanSuction_duty]
  refine congrArg Duty.giveBack ?_
  have parts : s.orphanSuction.duty = s.duty.orphaned := s.orphanSuction_duty
  have park : s.orphanSuction.station.park = s.duty.orphaned.park := congrArg Duty.park parts
  have suction : s.orphanSuction.station.suction = s.duty.orphaned.suction := congrArg Duty.suction parts
  simp only [park, suction, Option.map_none]
  rfl

@[simp] theorem State.requestSuction_duty (h : Head) (l : Nat) :
    (s.requestSuction h l).duty = { s.duty with request := some { head := h, level := l } } := by
  simp only [State.requestSuction, State.foldl_duty, State.when_duty, State.putSession_duty, implies_true]
  rfl

/-- R142: the item that starts is active; a PARK order of origin STATION is withdrawn (R122). -/
theorem State.clearCapDue_duty : s.clearCapDue.duty = s.duty ∨ s.clearCapDue.duty = s.duty.dropOrder := by
  unfold State.clearCapDue Station.uncapDue
  split
  · exact .inr rfl
  · exact .inl rfl

/-! ### One millisecond -/

@[simp] theorem Pump.count_stage (p : Pump) : p.count.stage = p.stage := by cases p <;> rfl

@[simp] theorem State.countChips_duty : s.countChips.duty = s.duty := by rfl

@[simp] theorem State.countStation_duty : s.countStation.duty = s.duty := by
  have still : (s.station.move.map fun m => ({ m with left := m.left - 1 } : Move)).map Move.kind =
      s.station.move.map Move.kind := by
    cases s.station.move <;> rfl
  unfold State.countStation
  dsimp only
  split <;> simp [State.setStation_duty, Station.expose, -Option.map_map, still] <;> rfl

@[simp] theorem State.countTimers_duty : s.countTimers.duty = s.duty := by
  simp only [State.countTimers, State.setMode_duty, State.setSheets_duty, State.setTickets_duty, State.setFeed_duty,
    State.setLink_duty, State.setManifold_duty, Pump.count_stage]
  rfl

end

end Sys2Proof.Machine
end

section
/-!
SUPPORT. The operations that change the duty, and every reaction, keep what `Duty.Holds` says of it (`_serves`).
-/

namespace Sys2Proof.Machine

/-- What holds of the duty in one state holds in the other. -/
def Serves (s t : State) : Prop := s.duty.Holds → t.duty.Holds

theorem Serves.refl (s : State) : Serves s s := id

theorem Serves.trans {s t u : State} (h : Serves s t) (k : Serves t u) : Serves s u := k ∘ h

theorem Serves.of_eq {s t : State} (h : t.duty = s.duty) : Serves s t := fun hs => h ▸ hs

/-- A state with the same duty is as good to go on from. -/
theorem Serves.from_eq {s s' t : State} (h : Serves s' t) (hs : s'.duty = s.duty) : Serves s t := (Serves.of_eq hs).trans h

theorem Serves.when {s : State} (b : Bool) {f : State → State} (h : b = true → Serves s (f s)) : Serves s (s.when b f) := by
  cases b
  · exact Serves.refl s
  · exact h rfl

section
variable (s : State)

/-! ### Items -/

theorem State.clearCapDue_serves : Serves s s.clearCapDue := fun h => by
  rcases s.clearCapDue_duty with e | e
  · rwa [e]
  · rw [e]; exact h.dropOrder

/-- The suction parts of an item are above 0 only where it has a SUCTION stage (R26, R142). -/
theorem suctionParts_stage {w : Work} {c : Channel} (h : (suctionParts w).get c ≠ 0) :
    w.onChannel c = true ∧ .suction ∈ w.stages := by
  simp only [suctionParts, Six.get_tab, ne_eq, ite_eq_right_iff, Classical.not_imp] at h
  obtain ⟨on, volume⟩ := h
  refine ⟨on, ?_⟩
  cases w with
  | spit m => exact absurd rfl volume
  | check m => exact absurd rfl volume
  | clean x l o u a =>
    have deep : ¬ l ≤ 1 := fun hl => by
      have h2 : l ≠ 2 := by omega
      have h3 : l ≠ 3 := by omega
      simp [Work.level, Config.suctionVolume, h2, h3] at volume
    simp [Work.stages, deep]

/-- The spit parts of an item are above 0 only where it has a SPIT stage (R26, R142). -/
theorem State.spitParts_stage {w : Work} {c : Channel} (h : (s.spitParts w).get c ≠ 0) :
    w.onChannel c = true ∧ .spit ∈ w.stages := by
  simp only [State.spitParts, Six.get_tab, ne_eq, ite_eq_right_iff, Classical.not_imp] at h
  refine ⟨h.1, ?_⟩
  cases w with
  | spit m => simp [Work.stages]
  | check m => simp [Work.onChannel, Work.reservesInk] at h
  | clean x l o u a =>
    by_cases hl : l ≤ 1 <;> simp [Work.stages, hl]

/-- R142: an item that reserves nothing starts while none is active. -/
theorem State.startItem_serves {i : Item} (ha : s.service.active = none) : Serves s (s.startItem i) := fun h => by
  have no_parts := h.parts.idle ha
  refine State.clearCapDue_serves _ ?_
  exact h.start ha (fun c z => absurd (no_parts c).1 z) fun c z => absurd (no_parts c).2 z

/-- R27, R142: an item's parts are reserved, and it starts, while none is active. -/
theorem State.reserveService_startItem_serves {i : Item} (ha : s.service.active = none) :
    Serves s ((s.reserveService i.work).startItem i) := fun h => by
  have no_parts := h.parts.idle ha
  refine State.clearCapDue_serves _ ?_
  rw [State.setService_duty, State.reserveService_duty]
  refine h.start ha (fun c z => ?_) fun c z => ?_
  · simp only [Six.get_tab, (no_parts c).1, Nat.zero_add] at z
    exact s.spitParts_stage z
  · simp only [Six.get_tab, (no_parts c).2, Nat.zero_add] at z
    exact suctionParts_stage z

theorem tryItems_serves (l : List Item) (ha : s.service.active = none) : Serves s (tryItems l s) := by
  induction l generalizing s with
  | nil => exact Serves.refl s
  | cons i rest ih =>
    unfold tryItems
    split
    · exact s.startItem_serves ha
    · split
      · exact s.reserveService_startItem_serves ha
      · have active : (s.passOver i).service.active = none := (congrArg Duty.active (s.passOver_duty i)).trans ha
        exact .trans (.of_eq (s.passOver_duty i)) (ih _ active)

/-! ### The station -/

theorem State.enterFault_serves (w : StationCause) : Serves s (s.enterFault w) := fun h => by
  rw [State.enterFault_duty]
  exact h.enterFault s.duty.faulted.park

/-- R128: the timer of an order that stands expires. -/
theorem State.orderTimesOut_serves (ho : s.station.order.kind ≠ .none) : Serves s s.orderTimesOut := by
  have order : s.duty.order ≠ .none := ho
  unfold State.orderTimesOut
  dsimp only
  refine .trans ?_ (.when _ fun _ => State.enterFault_serves _ _)
  intro h
  cases origin : s.station.order.origin == some .item with
  | false => exact h.dropOrder
  | true =>
    rw [State.when, if_pos rfl, State.giveBack_duty]
    exact h.orderLost order

/-- R119, R120: a cap or wiper move starts from CAPPED or OPEN with the carriage parked. -/
theorem State.startCap_serves (hs : s.station.state = .opened) (hp : s.station.park = .parked) : Serves s s.startCap := by
  have starts : Serves s (s.startMove .cap .capping Config.capMoveMs) := fun h =>
    h.startMove (k := .cap) (.inl hs) hp nofun
  refine starts.trans (.when _ fun _ h => ?_)
  rw [State.enterCapped_duty]
  exact h.rest nofun (.inr ⟨rfl, hp⟩)

theorem State.startUncap_serves (hs : s.station.state = .capped) (hp : s.station.park = .parked) : Serves s s.startUncap := by
  have starts : Serves s (s.startMove .uncap .uncapping Config.capMoveMs) := fun h =>
    h.startMove (k := .uncap) (.inr hs) hp nofun
  exact starts.trans (.when _ fun _ h => h.rest nofun (.inl rfl))

theorem State.startWipe_serves (hs : s.station.state = .opened) (hp : s.station.park = .parked) (hg : s.duty.AtStage .wipe) :
    Serves s s.startWipe := fun h => h.startMove (k := .wipe) (.inl hs) hp fun _ => hg

/-- R127: the carriage is called to park where it is away, outside FAULT. -/
theorem State.placePark_serves (o : OrderOrigin) (hp : s.station.park ≠ .parked) (hs : s.station.state ≠ .fault) :
    Serves s (s.placePark o) := fun h => by
  obtain ⟨away, opened⟩ := h.opened_of_away hp hs
  exact h.placeOrder (k := .park) opened nofun nofun (fun e => e.elim nofun nofun) fun _ => away

/-- A stage that holds nothing, of the station or of the parts, ends. -/
theorem State.endStage_serves {g : Stage} (hg : s.duty.AtStage g) (h1 : g ≠ .spit) (h2 : g ≠ .check) (h3 : g ≠ .suction)
    (hm : g = .wipe → s.station.move = none) : Serves s s.endStage := fun h => by
  rw [State.endStage_duty]
  exact h.endStage hg (absurd · h1) (absurd · h2) (fun e => by simp [State.duty, hm e]) (absurd · h3)

theorem State.askSuction_serves {a : ActiveItem} {x : Head} {l n : Nat} {o : CleanOrigin} {u : Urgency}
    (ha : s.service.active = some a) (hg : a.stages.head? = some .suction) (hw : a.item.work = .clean x l o u n)
    (hs : s.station.state = .capped) (hm : s.station.move = none) (hr : s.station.suction = none) :
    Serves s (s.askSuction x l) := fun h => by
  rw [State.askSuction, State.requestSuction_duty]
  exact h.askSuction ha hg hw hs (by simp [State.duty, hm]) hr

/-- R17, R34, R130: a running suction stage ends. -/
theorem State.endSuction_serves {r : SuctionRun} (hr : s.manifold.pump = .suction r) : Serves s (s.endSuction r) := fun h => by
  have stage : s.duty.stage = some { r with left := 0 } := by simp [State.duty, hr, Pump.stage]
  have settled : ((s.setPump .free).settleSuction r.head r.level (!r.orphan)).duty =
      { s.duty with
        stage := none
        suctionPart := Six.tab fun c =>
          s.duty.suctionPart.get c - if !r.orphan && c.head == r.head then s.duty.suctionPart.get c else 0 } :=
    State.settleSuction_duty _ _ _ _
  unfold State.endSuction
  generalize (s.setPump .free).settleSuction r.head r.level (!r.orphan) = u at settled ⊢
  dsimp only
  split
  · have cleared : (u.setStation { u.station with suction := none }).duty = { u.duty with suction := none } := rfl
    rw [cleared, settled]
    exact h.stopSuction stage fun c => by simp
  · next run =>
    have capped : ((u.setStation { u.station with suction := none }).setStation
        { (u.setStation { u.station with suction := none }).station with state := .capped }).duty =
        { u.duty with suction := none, state := .capped } := rfl
    rw [State.endStage_duty, capped, settled]
    refine h.endSuction stage (by simpa using run) fun c => ?_
    by_cases e : c.head = r.head <;> simp [run, e]

end

section
variable {s t : State}

/-! ### Reactions -/

theorem State.thresholds_duty (h : s.thresholds = some t) : t.duty = s.duty := by
  unfold State.thresholds at h
  repeat' split at h
  all_goals cases h
  · rw [State.requestSpit_duty]; rfl
  · rw [State.requestClean_duty]; rfl

theorem State.withdrawStep_duty (h : s.withdrawStep = some t) : t.duty = s.duty := by
  unfold State.withdrawStep at h
  repeat' split at h
  all_goals cases h
  rfl

theorem State.reserveTicket_serves (x : Ticket) : Serves s (s.reserveTicket x) := by
  have reserved : Serves s ((s.reserveInk x).modTicket x.number fun x => { x with state := .reserved }) := .of_eq (by simp)
  refine reserved.trans ((State.clearCapDue_serves _).trans (.when _ fun _ => .of_eq (by rfl)))

theorem State.passStep_serves (h : s.passStep = some t) : Serves s t := by
  unfold State.passStep at h
  split at h
  · split at h
    · cases h
      exact Serves.refl s
    · dsimp only at h
      split at h
      · cases h
        exact State.reserveTicket_serves _
      · cases h
        exact .of_eq (by simp)
  · cases h

theorem State.sheetStep_duty (h : s.sheetStep = some t) : t.duty = s.duty := by
  unfold State.sheetStep at h
  split at h
  · cases h
    rfl
  · split at h
    · cases h
      exact s.removeSheet_duty _ _
    · obtain ⟨x, -, rfl⟩ := Option.map_eq_some_iff.1 h
      unfold State.dryEnds
      split <;> simp

theorem State.examine_duty (h : s.examine = some t) : t.duty = s.duty := by
  unfold State.examine at h
  split at h
  · obtain rfl := Option.some.inj h
    repeat' split
    all_goals simp
  · cases h

theorem State.rollsChanged_duty (h : s.rollsChanged = some t) : t.duty = s.duty := by
  unfold State.rollsChanged at h
  split at h
  · cases h
  · obtain rfl := Option.some.inj h
    repeat' split
    all_goals simp

theorem State.askLoading_duty {x : Sheet} (h : s.askLoading x = some t) : t.duty = s.duty := by
  unfold State.askLoading at h
  repeat' split at h
  all_goals cases h
  all_goals simp

theorem State.askCutting_duty {x : Sheet} (h : s.askCutting x = some t) : t.duty = s.duty := by
  unfold State.askCutting at h
  repeat' split at h
  all_goals cases h
  all_goals simp

theorem State.sheetAsks_duty (h : s.sheetAsks = some t) : t.duty = s.duty := by
  have loading : ∀ {a : Sheet}, (if a.state == .loading then s.askLoading a else none) = some t → t.duty = s.duty := by
    intro a e
    split at e
    · exact State.askLoading_duty e
    · cases e
  unfold State.sheetAsks at h
  split at h
  · split at h
    · next hc => cases h; exact State.askCutting_duty hc
    · split at h
      · cases h
      · exact loading h
  · split at h
    · cases h
    · exact loading h

theorem State.advanceStep_duty (h : s.advanceStep = some t) : t.duty = s.duty := by
  unfold State.advanceStep at h
  repeat' split at h
  all_goals cases h
  simp

theorem State.sessionStep_duty (h : s.sessionStep = some t) : t.duty = s.duty := by
  obtain ⟨c, -, hc⟩ := List.exists_of_findSome?_eq_some h
  exact State.sessionReacts_duty hc

theorem State.serviceArbiter_serves (h : s.serviceArbiter = some t) : Serves s t := by
  unfold State.serviceArbiter at h
  split at h
  · cases h
    dsimp only
    split
    · next may =>
      have none_active : s.service.active = none := by
        simp only [State.arbiterMay, Bool.and_eq_true, Option.isNone_iff_eq_none] at may
        obtain ⟨⟨⟨-, active⟩, -⟩, -⟩ := may
        exact active
      exact Serves.from_eq (tryItems_serves _ _ none_active) (s.setDue_duty _)
    · exact Serves.refl s
  · cases h

theorem State.strokeStep_serves (h : s.strokeStep = some t) : Serves s t := by
  obtain ⟨e, -, ha | ⟨-, rfl⟩⟩ := State.strokeStep_cases h
  · exact State.serviceArbiter_serves ha
  · exact .of_eq (State.afterStroke_duty _ _ _)

/-- A pump that runs no suction stage can turn to or from a stroke. -/
theorem State.setPump_duty {p : Pump} (h : p.stage = s.manifold.pump.stage) : (s.setPump p).duty = s.duty := by
  rw [State.setPump, State.setManifold_duty, h]
  rfl

theorem State.startStroke_duty {c : Channel} (h : s.manifold.pump.stage = none) : (s.startStroke c).duty = s.duty := by
  unfold State.startStroke
  split
  · rfl
  · rw [State.setManifold_duty, State.putSession_duty]
    exact congrArg (fun x => { s.duty with stage := x }) h.symm

theorem State.strokeTest_pump (s : State) (c : Channel) : (s.strokeTest c).manifold.pump.stage = s.manifold.pump.stage :=
  congrArg Duty.stage (s.strokeTest_duty c)

theorem State.serveCandidate_duty {c : Channel} (h : s.manifold.pump.stage = none) : (s.serveCandidate c).duty = s.duty := by
  unfold State.serveCandidate
  split
  · exact s.fillFound_duty c
  · split
    · rw [State.startStroke_duty ((s.strokeTest_pump c).trans h), State.strokeTest_duty]
    all_goals exact s.strokeTest_duty c

theorem State.pumpArbiter_serves (h : s.pumpArbiter = some t) : Serves s t := by
  unfold State.pumpArbiter at h
  split at h
  · cases h
  · cases h
  · next free =>
    split at h
    · next q hq => cases h; exact fun hd => hd.startSuction hq
    · obtain ⟨c, -, rfl⟩ := Option.map_eq_some_iff.1 h
      exact .of_eq (State.serveCandidate_duty (by rw [free]; rfl))

theorem State.bringParked_serves (hp : s.station.park ≠ .parked) (hs : s.station.state ≠ .fault) (h : s.bringParked = some t) :
    Serves s t := by
  unfold State.bringParked at h
  split at h
  · cases h; exact s.placePark_serves _ hp hs
  · cases h

/-- A move, or the carriage parked before it. -/
theorem State.bringMove_serves {mv : State → State} (hm : s.station.park = .parked → Serves s (mv s))
    (hs : s.station.state ≠ .fault) (h : s.bringMove mv = some t) : Serves s t := by
  unfold State.bringMove at h
  split at h
  · next hp => cases h; exact hm (by simpa using hp)
  · next hp => exact State.bringParked_serves (by simpa using hp) hs h

/-- R123, R127: a SPIT or CHECK order is placed at its stage. -/
theorem State.placeStageOrder_serves {a : ActiveItem} {k : OrderKind} {n : Nat} (ha : s.service.active = some a)
    (hk : k = .spit ∧ a.stages.head? = some .spit ∨ k = .check ∧ a.stages.head? = some .check)
    (h : s.placeStageOrder a.item.work k n = some t) : Serves s t := by
  unfold State.placeStageOrder at h
  split at h
  · next opened =>
    split at h
    · cases h
      intro hd
      rw [State.placeOrder_duty]
      refine hd.placeOrder opened (fun e => ⟨a, ha, ?_⟩) (fun e => ⟨a, ha, ?_⟩) (fun _ b hb => ?_) fun e => ?_
      · exact hk.elim And.right fun x => nomatch e.symm.trans x.1
      · exact hk.elim (fun x => nomatch e.symm.trans x.1) And.right
      · rw [Option.some.inj (hb.symm.trans ha)]
      · rcases hk with ⟨rfl, -⟩ | ⟨rfl, -⟩ <;> cases e
    · cases h
  · next capped => exact State.bringMove_serves (s.startUncap_serves capped) (by simp [capped]) h
  all_goals cases h

theorem State.doStage_serves {a : ActiveItem} {g : Stage} (ha : s.service.active = some a) (hg : a.stages.head? = some g)
    (hm : s.station.move = none) (hs : s.station.state ≠ .fault) (h : s.doStage a.item.work g = some t) : Serves s t := by
  have at_stage : s.duty.AtStage g := ⟨a, ha, hg⟩
  unfold State.doStage at h
  split at h
  case h_1 =>
    split at h
    · cases h; exact s.endStage_serves at_stage nofun nofun nofun nofun
    · next hp => exact State.bringParked_serves (by simpa using hp) hs h
  case h_2 =>
    split at h
    · cases h; exact s.endStage_serves at_stage nofun nofun nofun nofun
    · next opened => exact State.bringMove_serves (s.startCap_serves opened) hs h
    all_goals cases h
  case h_3 =>
    split at h
    · cases h; exact s.endStage_serves at_stage nofun nofun nofun nofun
    · next capped => exact State.bringMove_serves (s.startUncap_serves capped) hs h
    all_goals cases h
  case h_4 =>
    split at h
    · next opened => exact State.bringMove_serves (fun hp => s.startWipe_serves opened hp at_stage) hs h
    · next capped => exact State.bringMove_serves (s.startUncap_serves capped) hs h
    all_goals cases h
  case h_5 =>
    split at h
    · next capped hw =>
      split at h
      · cases h
      · next no_suction =>
        obtain rfl := Option.some.inj h
        exact s.askSuction_serves ha hg hw capped hm (by simpa using no_suction)
    · next opened => exact State.bringMove_serves (s.startCap_serves opened) hs h
    · cases h
  case h_6 => exact State.placeStageOrder_serves ha (.inl ⟨rfl, hg⟩) h
  case h_7 => exact State.placeStageOrder_serves ha (.inr ⟨rfl, hg⟩) h

theorem State.driveStage_serves (h : s.driveStage = some t) : Serves s t := by
  unfold State.driveStage at h
  split at h
  · cases h
  · next a ha =>
    split at h
    · cases h
    · next g hg =>
      split at h
      · next may =>
        simp only [Bool.and_eq_true, Option.isNone_iff_eq_none, bne_iff_ne] at may
        obtain ⟨⟨-, no_move⟩, no_fault⟩ := may
        exact State.doStage_serves ha hg no_move no_fault h
      · cases h

theorem State.capDueActs_serves (h : s.capDueActs = some t) : Serves s t := by
  unfold State.capDueActs at h
  split at h
  · next due =>
    simp only [Bool.and_eq_true, beq_iff_eq] at due
    obtain ⟨-, opened⟩ := due
    split at h
    · next hp =>
      cases h
      have parked : s.station.park = .parked := by simpa using hp
      have cleared : (s.setStation { s.station with capDue := false }).duty = s.duty := rfl
      exact Serves.from_eq (State.startCap_serves _ opened parked) cleared
    · next hp =>
      split at h
      · cases h; exact s.placePark_serves _ (by simpa using hp) (by simp [opened])
      · cases h
  · split at h
    · cases h; exact .of_eq (by rfl)
    · cases h

theorem State.uncapForTicket_serves (h : s.uncapForTicket = some t) : Serves s t := by
  unfold State.uncapForTicket at h
  split at h
  · next may =>
    cases h
    simp only [Bool.and_eq_true, beq_iff_eq] at may
    obtain ⟨⟨⟨⟨-, capped⟩, parked⟩, -⟩, -⟩ := may
    exact s.startUncap_serves capped parked
  · cases h

theorem State.grantStep_duty (h : s.grantStep = some t) : t.duty = s.duty := by
  unfold State.grantStep at h
  split at h
  · cases h
  · split at h
    · obtain rfl := Option.some.inj h
      rfl
    · cases h

theorem State.startLink_duty (h : s.startLink = some t) : t.duty = s.duty := by
  unfold State.startLink at h
  split at h
  · cases h
  · split at h
    · obtain rfl := Option.some.inj h
      exact s.drainLink_duty
    · split at h
      · cases h
      · obtain ⟨j, -, rfl⟩ := Option.map_eq_some_iff.1 h
        exact s.startJob_duty j

theorem reactions_serves {f : State → Option State} (hf : f ∈ reactions) (h : f s = some t) : Serves s t := by
  simp only [reactions, List.mem_cons, List.not_mem_nil, or_false] at hf
  rcases hf with rfl | rfl | rfl | rfl | rfl | rfl | rfl | rfl | rfl | rfl | rfl | rfl | rfl | rfl | rfl | rfl | rfl
  · exact .of_eq (State.thresholds_duty h)
  · exact .of_eq (State.withdrawStep_duty h)
  · exact State.passStep_serves h
  · exact .of_eq (State.sheetStep_duty h)
  · exact .of_eq (State.examine_duty h)
  · exact .of_eq (State.rollsChanged_duty h)
  · exact .of_eq (State.sheetAsks_duty h)
  · exact .of_eq (State.advanceStep_duty h)
  · exact .of_eq (State.sessionStep_duty h)
  · exact State.strokeStep_serves h
  · exact State.pumpArbiter_serves h
  · exact State.serviceArbiter_serves h
  · exact State.driveStage_serves h
  · exact State.capDueActs_serves h
  · exact State.uncapForTicket_serves h
  · exact .of_eq (State.grantStep_duty h)
  · exact .of_eq (State.startLink_duty h)

theorem follow_serves (n : Nat) (s : State) : Serves s (follow n s) := by
  induction n generalizing s with
  | zero => exact Serves.refl s
  | succ n ih =>
    unfold follow
    split
    · exact Serves.refl s
    · next t h =>
      obtain ⟨f, hf, hs⟩ := List.exists_of_findSome?_eq_some h
      exact (reactions_serves hf hs).trans (ih t)

theorem State.settle_serves (s : State) : Serves s s.settle :=
  (follow_serves _ s).trans (.when _ fun _ => .of_eq (State.loadIdleSleep_duty _))

/-- What the reactions make of a state that has been reached. -/
theorem Serves.settle (h : Serves s t) : Serves s t.settle := h.trans t.settle_serves

/-- What the reactions make of a state with the same duty. -/
theorem Serves.settle_eq (h : t.duty = s.duty) : Serves s t.settle := (Serves.of_eq h).settle

theorem State.wake_serves (s : State) : Serves s s.wake := by
  unfold State.wake
  split
  · exact .settle_eq s.enterRun_duty
  · exact Serves.refl s

end

end Sys2Proof.Machine
end

section
/-!
SUPPORT. Every command, the tick and so every step keep what `Duty.Holds` says of the duty (`step_serves`).
-/

namespace Sys2Proof.Machine

section
variable {s t : State}

/-! ### The frames of the commands -/

theorem State.takeWrite_serves (p : Port) (cmd : Command) (n : Nat) {d : State → Answer} (h : Serves s (d s).after) :
    Serves s (s.takeWrite p cmd n d) := by
  unfold State.takeWrite
  split
  · exact Serves.refl s
  · split
    · exact (State.wake_serves _).from_eq (s.replied_duty s p cmd.code .notThisPort 0 n)
    · split
      · exact (State.wake_serves _).from_eq (s.replied_duty s p cmd.code .asleep 0 n)
      · exact h.trans (.of_eq (State.replied_duty _ _ _ _ _ _ _))

theorem State.takeRead_serves (s : State) (p : Port) (cmd : Command) (bits : Nat) (data : List Byte) :
    Serves s (s.takeRead p cmd bits data id) := by
  unfold State.takeRead
  split
  · exact Serves.refl s
  · split
    · exact (State.wake_serves _).from_eq (s.modPort_duty p _)
    · split
      · exact (State.wake_serves _).from_eq (s.modPort_duty p _)
      · exact .of_eq (s.modPort_duty p _)

theorem State.takePart_serves (s : State) (p : Port) (cmd : Command) (c : Clocks) (data : List Byte)
    (act : PortRec → PortRec) : Serves s (s.takePart p cmd c data act) := by
  unfold State.takePart
  dsimp only
  split
  · exact Serves.refl s
  · split
    · exact (Serves.when _ fun _ => State.wake_serves _).from_eq (s.modPort_duty p _)
    · exact (Serves.when _ fun _ => State.wake_serves _).from_eq (s.modPort_duty p _)

theorem State.discard_serves (s : State) (p : Port) (bits : Nat) : Serves s (s.discard p bits) := by
  unfold State.discard
  split
  · exact Serves.refl s
  · exact (State.wake_serves _).from_eq (by rfl)

/-- A sensor change sets its pins and, unless the line is held, acts. -/
theorem State.sensed_serves {act : State → State} (hs : t.duty = s.duty) (h : Serves t (act t)) : Serves s (t.sensed act) := by
  unfold State.sensed
  split
  · exact .of_eq hs
  · exact h.from_eq hs

theorem State.sensedSome_serves {act : State → Option State} (hs : t.duty = s.duty) (h : ∀ u, act t = some u → Serves t u) :
    Serves s (t.sensedSome act) := by
  refine State.sensed_serves hs ?_
  cases hu : act t with
  | none => exact Serves.refl t
  | some u => exact (h u hu).settle

theorem State.sensedAwake_serves {act : State → State} (hs : t.duty = s.duty) (h : ∀ u, (act u).duty = u.duty) :
    Serves s (t.sensedAwake act) :=
  State.sensed_serves hs (.settle (t.wake_serves.trans (.of_eq (h _))))

end

section
variable (s : State)

/-! ### The Raster Port, and the table commands -/

theorem decideTableSel_serves (p : Port) (table place : Nat) : Serves s (decideTableSel p table place s).after := by
  unfold decideTableSel
  split
  · exact Serves.refl s
  split
  · exact Serves.refl s
  split
  · exact Serves.refl s
  exact .of_eq (s.modPort_duty p _)

theorem decideSheetOpen_serves (pref media width planned top bottom dry mode : Nat) :
    Serves s (decideSheetOpen pref media width planned top bottom dry mode s).after := by
  unfold decideSheetOpen
  split
  · exact Serves.refl s
  split
  swap
  · exact Serves.refl s
  split
  · exact Serves.refl s
  split
  · exact Serves.refl s
  exact .settle_eq (s.appendSheet_duty _ _ _ _ _ _ _ _)

theorem decideSheetClose_serves (id final : Nat) : Serves s (decideSheetClose id final s).after := by
  unfold decideSheetClose
  split
  · exact Serves.refl s
  split
  · exact Serves.refl s
  split
  · exact Serves.refl s
  split
  · exact Serves.refl s
  split
  · exact Serves.refl s
  exact .settle_eq (s.modSheet_duty _ _)

theorem decideSheetCancel_serves (id : Nat) : Serves s (decideSheetCancel id s).after := by
  unfold decideSheetCancel
  split
  · exact Serves.refl s
  split
  · exact Serves.refl s
  split
  · exact Serves.refl s
  split
  case h_4 | h_5 => exact .settle_eq (s.removeSheet_duty id _)
  case h_6 | h_7 | h_8 => exact .settle_eq (s.cancelSheet_duty id _)
  all_goals exact Serves.refl s

theorem decideSwathAsk_serves (sheet index advance count : Nat) (pairs : List (Nat × Nat)) :
    Serves s (decideSwathAsk sheet index advance count pairs s).after := by
  unfold decideSwathAsk
  split
  · exact Serves.refl s
  split
  · exact Serves.refl s
  split
  · exact Serves.refl s
  dsimp only
  split
  · exact Serves.refl s
  split
  · exact Serves.refl s
  split
  · exact Serves.refl s
  split
  · exact Serves.refl s
  exact .settle_eq (s.appendTicket_duty _ _ _ _)

theorem decideSwathWithdraw_serves (n : Nat) : Serves s (decideSwathWithdraw n s).after := by
  unfold decideSwathWithdraw
  split
  · exact Serves.refl s
  split
  · exact Serves.refl s
  split
  · exact Serves.refl s
  exact .settle_eq (s.removeTickets_duty _)

/-! ### The Carriage Port -/

theorem decideSwathTake_serves (n : Nat) : Serves s (decideSwathTake n s).after := by
  unfold decideSwathTake
  split
  · exact Serves.refl s
  split
  · exact Serves.refl s
  split
  · exact Serves.refl s
  split
  · exact .settle_eq (s.takeTicket_duty n)
  exact Serves.refl s

theorem decideSwathDone_serves (n count : Nat) (pairs : List (Nat × Nat)) :
    Serves s (decideSwathDone n count pairs s).after := by
  unfold decideSwathDone
  split
  · exact Serves.refl s
  split
  · exact Serves.refl s
  split
  · exact Serves.refl s
  split
  · exact Serves.refl s
  split
  · exact .settle_eq (s.settleTicket_duty _ _)
  exact Serves.refl s

/-- R118, R127: PARKED satisfies the PARK order that stands. -/
theorem State.reportParked_serves : Serves s s.reportParked := fun h => by
  unfold State.reportParked
  dsimp only
  by_cases hk : s.station.order.kind = .park
  · have satisfied := h.dropOrder.parkAt (p := .parked) nofun nofun
    rw [State.when, if_pos (by simp [hk])]
    exact satisfied
  · have other := h.parkAt (p := .parked) nofun fun _ => hk
    rw [State.when, if_neg (by simp [hk])]
    exact other

/-- R118, R130: AWAY where the carriage may not leave puts the station in FAULT. -/
theorem State.reportAway_serves : Serves s s.reportAway := fun h => by
  have faults : ((s.setStation { s.station with park := .away }).enterFault .awayReport).duty.Holds := by
    rw [State.enterFault_duty]
    have faulted : (s.setStation { s.station with park := .away }).duty.faulted = { s.duty.faulted with park := .away } := by
      have away : (s.setStation { s.station with park := .away }).duty = { s.duty with park := .away } := rfl
      rw [away]
      unfold Duty.faulted Duty.orphaned
      dsimp only
      repeat' split
      all_goals rfl
    rw [faulted]
    exact h.enterFault .away
  unfold State.reportAway
  dsimp only
  split
  · next opened => exact h.parkAt (fun _ => .inl opened) nofun
  · next fault => exact h.parkAt (fun _ => .inr fault) nofun
  all_goals exact faults

theorem decideParkState_serves (code : Nat) : Serves s (decideParkState code s).after := by
  unfold decideParkState
  split
  · exact Serves.refl s
  · exact s.reportParked_serves.settle
  · exact s.reportAway_serves.settle

/-- R129, R33: an accepted SPIT. -/
theorem State.spitDone_serves (pairs : List (Nat × Nat)) (ho : s.station.order.kind = .spit) : Serves s (s.spitDone pairs) :=
  fun h => by
    rw [State.spitDone, State.endStage_duty, State.finishOrder_duty, State.resetExposures_duty, State.settleSpit_duty]
    exact h.endSpit ho

/-- R129: an accepted CHECK. -/
theorem State.checkDone_serves (reports : List CheckReport) (ho : s.station.order.kind = .check) :
    Serves s (s.checkDone reports) := fun h => by
  rw [State.checkDone, State.endStage_duty, State.finishOrder_duty, State.applyCheck_duty]
  exact h.endCheck ho

theorem decideOrderDone_serves (kind count : Nat) (pairs : List (Nat × Nat)) (reports : List CheckReport) :
    Serves s (decideOrderDone kind count pairs reports s).after := by
  have spit : Serves s (decideSpitDone count pairs s).after := by
    unfold decideSpitDone
    split
    · exact Serves.refl s
    split
    · exact Serves.refl s
    next order =>
      split
      · exact Serves.refl s
      exact (s.spitDone_serves pairs (not_not.1 order)).settle
  have check : Serves s (decideCheckDone count reports s).after := by
    unfold decideCheckDone
    split
    · exact Serves.refl s
    split
    · exact Serves.refl s
    next order =>
      split
      · exact Serves.refl s
      split
      · exact Serves.refl s
      exact (s.checkDone_serves reports (not_not.1 order)).settle
  unfold decideOrderDone
  repeat' split
  · exact Serves.refl s
  · exact spit
  · exact check
  · exact Serves.refl s

/-! ### The Panel Port -/

theorem State.goRun_serves : Serves s s.goRun := by
  have opens : Serves s (s.enterRun.when (s.enterRun.station.state == .opened) State.enterOpen) := by
    refine .trans (.of_eq s.enterRun_duty) (.when _ fun opened h => ?_)
    have still_open : s.enterRun.duty.state = .opened := beq_iff_eq.1 opened
    exact h.rest (fun e => nomatch still_open.symm.trans e) (.inl rfl)
  exact opens.trans (.when _ fun _ => .of_eq (State.cleanAll_duty _ _))

theorem decideGo_serves : Serves s (decideGo s).after := by
  unfold decideGo
  split
  · exact s.goRun_serves.settle
  · exact Serves.refl s

theorem decideSleepNow_serves : Serves s (decideSleepNow s).after := by
  unfold decideSleepNow
  split
  · exact .of_eq s.enterSleep_duty
  · exact Serves.refl s

theorem State.paramActs_serves (n : Nat) : Serves s (s.paramActs n) := by
  unfold State.paramActs
  split
  · exact .settle_eq (by simp)
  · exact .settle_eq (by simp)
  · exact s.settle_serves
  · exact s.settle_serves
  · exact .when _ fun _ => .of_eq (by rfl)
  · exact .of_eq (by simp)
  · exact .of_eq (by simp)
  · exact .of_eq (by simp)
  · exact .settle_eq (by simp)
  · exact Serves.refl s

theorem decideConfigSet_serves (n mask v : Nat) : Serves s (decideConfigSet n mask v s).after := by
  unfold decideConfigSet
  split
  · exact Serves.refl s
  split
  · exact Serves.refl s
  split
  · unfold decideDv
    split
    · exact Serves.refl s
    split
    · exact Serves.refl s
    exact .of_eq (s.setDv_duty _ _)
  split
  · exact Serves.refl s
  split
  · exact Serves.refl s
  dsimp only
  unfold State.applyParam
  split
  · exact Serves.refl s
  exact (State.paramActs_serves _ _).from_eq (s.setParams_duty _)

theorem decideSlotMapSet_serves (entries : Eight Nat) : Serves s (decideSlotMapSet entries s).after := by
  unfold decideSlotMapSet
  split
  · exact Serves.refl s
  split
  · exact Serves.refl s
  split
  · exact Serves.refl s
  split
  · exact Serves.refl s
  split
  · exact Serves.refl s
  dsimp only [Answer.accept]
  exact .settle_eq (s.takeMap_duty _)

theorem decideTankAccept_serves (slot ml : Nat) : Serves s (decideTankAccept slot ml s).after := by
  unfold decideTankAccept
  split
  · exact Serves.refl s
  split
  · exact Serves.refl s
  split
  · exact .settle_eq (s.acceptTank_duty _ _ _)
  exact Serves.refl s

theorem decideLevelRestore_serves (channel level : Nat) : Serves s (decideLevelRestore channel level s).after := by
  unfold decideLevelRestore
  split
  · exact Serves.refl s
  split
  · exact Serves.refl s
  exact .settle_eq (s.setLevel_duty _ _)

theorem decideRetiredRestore_serves (channel count : Nat) (indices : List Nat) :
    Serves s (decideRetiredRestore channel count indices s).after := by
  unfold decideRetiredRestore
  split
  · exact Serves.refl s
  split
  · exact Serves.refl s
  split
  · exact Serves.refl s
  exact .of_eq (s.putNozzles_duty _)

theorem decideRollLoad_serves (roll media width length : Nat) : Serves s (decideRollLoad roll media width length s).after := by
  unfold decideRollLoad
  split
  · exact Serves.refl s
  split
  · exact Serves.refl s
  split
  · exact Serves.refl s
  exact .settle_eq (State.reportRolls_duty _ _)

theorem decideCleanAsk_serves (mask level urgency : Nat) : Serves s (decideCleanAsk mask level urgency s).after := by
  unfold decideCleanAsk
  split
  · exact Serves.refl s
  split
  · exact Serves.refl s
  split
  · exact .settle_eq (s.requestCheck_duty _)
  split
  · exact Serves.refl s
  exact .settle_eq (by simp [State.panelCleans])

theorem decideFeedClear_serves : Serves s (decideFeedClear s).after := by
  unfold decideFeedClear
  split
  · exact Serves.refl s
  dsimp only
  split
  · exact Serves.refl s
  exact .settle_eq (State.reportRolls_duty _ _)

/-- R131: the sensors give OPEN, or CAPPED with the carriage parked. -/
theorem sensedStation_cases {cap : CapReading} {park : ParkState} {x : StationState} (h : sensedStation cap park = some x) :
    x = .opened ∨ x = .capped ∧ park = .parked := by
  cases cap <;> cases park <;> simp_all [sensedStation]

/-- R131: a cleared station with no move is at rest in the state that its sensors give. -/
theorem State.stationCleared_duty (hm : s.station.move = none) (x : StationState) :
    (s.stationCleared x).duty = s.duty.rest x := by
  have cleared : (s.setStation { s.station with state := x, cause := .none, failures := 0 }).duty = s.duty.rest x := by
    rw [State.setStation_duty, hm]
    rfl
  unfold State.stationCleared
  rw [State.dueArbiter_duty]
  by_cases hx : x = .opened
  · rw [State.when, if_pos (by simp [hx]), State.enterOpen_duty, cleared, hx]
    rfl
  · rw [State.when, if_neg (by simp [hx]), cleared]

theorem decideStationClear_serves (park : ParkState) : Serves s (decideStationClear park s).after := by
  unfold decideStationClear
  split
  · exact Serves.refl s
  next fault =>
    have in_fault : s.station.state = .fault := not_not.1 fault
    have read : Serves s ((s.setPins { s.pins with parkSwitch := park }).setStation { s.station with park := park }) := by
      intro h
      have no_order : s.duty.order = .none := (h.fault in_fault).1
      exact h.parkAt (fun _ => .inr in_fault) fun _ => by simp [no_order]
    dsimp only
    split
    · next x hx =>
      refine .settle (read.trans fun h => ?_)
      rw [State.stationCleared_duty _ (Option.map_eq_none_iff.1 (h.fault in_fault).2)]
      exact h.rest (fun e => nomatch in_fault.symm.trans e) (sensedStation_cases hx)
    · exact read

end

/-! ### Resets -/

/-- A reset leaves the carriage away only in OPEN and in FAULT (R133). -/
theorem stationAtReset_parked {pins : Pins} {n : Nat} {t : Station} (h : (stationAtReset pins n t).park = .away) :
    (stationAtReset pins n t).state = .opened ∨ (stationAtReset pins n t).state = .fault := by
  unfold stationAtReset at h ⊢
  cases hx : sensedStation pins.cap pins.parkSwitch with
  | none => exact .inr rfl
  | some x =>
    simp only [hx] at h ⊢
    exact (sensedStation_cases hx).imp_right fun e => by simp [e.2] at h

theorem stationAtReset_move (pins : Pins) (n : Nat) (t : Station) : (stationAtReset pins n t).move = none := by
  unfold stationAtReset
  split <;> rfl

theorem stationAtReset_suction (pins : Pins) (n : Nat) (t : Station) : (stationAtReset pins n t).suction = none := by
  unfold stationAtReset
  split <;> rfl

theorem stationAtReset_order (pins : Pins) (n : Nat) (t : Station) : (stationAtReset pins n t).order = Order.empty := by
  unfold stationAtReset
  split <;> rfl

/-- No suction stage runs on after a soft reset (R18). -/
theorem Manifold.softReset_stage (m : Manifold) : m.softReset.pump.stage = none := by
  unfold Manifold.softReset
  cases m.pump <;> rfl

theorem State.powerUp_serves (s : State) (why : ResetCause) (park : ParkState) : Serves s (s.powerUp why park) := by
  refine .settle fun _ => ?_
  rw [State.raiseSurveys_duty]
  simp only [State.powered, State.duty, stationAtReset_move, stationAtReset_suction, stationAtReset_order]
  exact Duty.holds_atReset stationAtReset_parked

/-- R38: a soft reset releases every part. -/
theorem State.softLedger_duty (s : State) :
    s.softLedger.duty = { s.duty with spitPart := Six.const 0, suctionPart := Six.const 0 } := by
  simp only [State.softLedger, State.refreshWaste_duty, State.recomputeLevels_duty, State.setLedger_duty,
    State.ledgerOp_duty]

theorem State.softReset_serves (s : State) (park : ParkState) : Serves s (s.softReset park) := fun _ => by
  unfold State.softReset
  simp only [State.enterRun_duty, State.setMode_duty, State.raiseSurveys_duty, State.resetLink_duty, State.setService_duty,
    State.setStation_duty, State.setFeed_duty, State.setSheets_duty, State.setTickets_duty, State.setManifold_duty,
    State.softLedger_duty, Manifold.softReset_stage, stationAtReset_move, stationAtReset_suction, stationAtReset_order]
  exact Duty.holds_atReset stationAtReset_parked

/-- R178: the reset line stops everything that runs. -/
theorem State.stopAll_serves (s : State) : Serves s s.stopAll := fun h => h.stop

/-! ### Sensor changes and timers -/

section
variable {s t : State}

theorem Pump.stroke_stage {p : Pump} {r : StrokeRun} (h : p = .stroke r) : p.stage = none := by
  rw [h]
  rfl

theorem State.completeStroke_duty {r : StrokeRun} {b : Bool} (h : s.manifold.pump.stage = none) :
    (s.completeStroke r b).duty = s.duty := by
  have freed : (s.setPump .free).duty = s.duty := State.setPump_duty h.symm
  unfold State.completeStroke
  cases b <;> simp [freed]

theorem State.tripped_duty {c : Channel} {r : StrokeRun} (h : s.tripped c = some r) :
    (s.completeStroke r true).duty = s.duty := by
  unfold State.tripped at h
  split at h
  · next hp => exact State.completeStroke_duty (Pump.stroke_stage hp)
  all_goals cases h

theorem State.strokeExpires_duty (h : s.strokeExpires = some t) : t.duty = s.duty := by
  unfold State.strokeExpires at h
  split at h
  · next hp => cases h; exact State.completeStroke_duty (Pump.stroke_stage hp)
  all_goals cases h

theorem State.suctionExpires_serves (h : s.suctionExpires = some t) : Serves s t := by
  unfold State.suctionExpires at h
  split at h
  · next hp => cases h; exact s.endSuction_serves hp
  all_goals cases h

theorem State.linkAnswers_duty {d : LinkDelivery} (h : s.linkAnswers d = some t) : t.duty = s.duty := by
  unfold State.linkAnswers at h
  split at h
  · obtain rfl := Option.some.inj h
    repeat' split
    all_goals simp
  · cases h

theorem State.waitTimesOut_duty (h : s.waitTimesOut = some t) : t.duty = s.duty := by
  unfold State.waitTimesOut at h
  repeat' split at h
  all_goals cases h
  all_goals simp

theorem State.answerTimesOut_duty (h : s.answerTimesOut = some t) : t.duty = s.duty := by
  unfold State.answerTimesOut at h
  repeat' split at h
  all_goals cases h
  all_goals simp

theorem State.paperEnds_duty (h : s.paperEnds = some t) : t.duty = s.duty := by
  unfold State.paperEnds at h
  split at h
  · cases h
  · split at h
    · cases h
    · split at h
      · obtain ⟨o, -, rfl⟩ := Option.map_eq_some_iff.1 h
        exact s.stopAdvance_duty o _
      · cases h; simp
      · cases h; simp
      · cases h; simp
      all_goals cases h

theorem State.threadChanges_duty {present : Bool} (h : s.threadChanges present = some t) : t.duty = s.duty := by
  unfold State.threadChanges at h
  split at h
  · split at h
    · cases h
    · split at h
      · cases h; rfl
      · cases h; simp
  · split at h
    · cases h
    · obtain ⟨o, -, rfl⟩ := Option.map_eq_some_iff.1 h
      exact s.faultAdvance_duty o _
  · obtain ⟨o, -, rfl⟩ := Option.map_eq_some_iff.1 h
    exact s.proceedSwap_duty o
  all_goals cases h

theorem State.actuatorReports_duty (h : s.actuatorReports = some t) : t.duty = s.duty := by
  unfold State.actuatorReports at h
  split at h
  · cases h; exact s.proceedSwap_duty _
  · cases h

theorem State.cutterReports_duty {home : Bool} (h : s.cutterReports home = some t) : t.duty = s.duty := by
  unfold State.cutterReports at h
  repeat' split at h
  all_goals cases h
  · exact s.completeCut_duty _
  · rfl

theorem State.moveEnds_duty (h : s.moveEnds = some t) : t.duty = s.duty := by
  unfold State.moveEnds at h
  split at h
  · cases h; exact s.completeAdvance_duty _
  · cases h

theorem State.watchdogExpires_duty (h : s.watchdogExpires = some t) : t.duty = s.duty := by
  unfold State.watchdogExpires at h
  split at h
  · cases h; exact s.faultAdvance_duty _ _
  · cases h

theorem State.swapExpires_duty (h : s.swapExpires = some t) : t.duty = s.duty := by
  unfold State.swapExpires at h
  split at h
  · cases h; exact s.faultSwap_duty _ _
  · cases h

theorem State.cutExpires_duty (h : s.cutExpires = some t) : t.duty = s.duty := by
  unfold State.cutExpires at h
  split at h
  · cases h; rfl
  all_goals cases h

/-- R119: a cap move ends where the sensor reports its end. -/
theorem State.capReports_serves {x : CapReading} (h : s.capReports x = some t) : Serves s t := by
  have ended {m : Move} {y : StationState} (hm : s.station.move = some m) (hy : y = .opened ∨ y = .capped)
      (hd : s.duty.Holds) : (s.duty.rest y).Holds := by
    obtain ⟨no_suction, parked⟩ := hd.moving (k := m.kind) (by simp [State.duty, hm])
    exact hd.rest no_suction (hy.imp_right fun e => ⟨e, parked⟩)
  unfold State.capReports at h
  split at h
  · next hm =>
    split at h
    · obtain rfl := Option.some.inj h
      intro hd
      rw [State.enterCapped_duty]
      exact ended hm (.inr rfl) hd
    · cases h
  · next hm =>
    split at h
    · obtain rfl := Option.some.inj h
      exact fun hd => ended hm (.inl rfl) hd
    · cases h
  · cases h

theorem State.capMoveExpires_serves (h : s.capMoveExpires = some t) : Serves s t := by
  unfold State.capMoveExpires at h
  repeat' split at h
  all_goals cases h
  exact s.enterFault_serves _

/-- R120: the wipe ends, and its stage with it. -/
theorem State.wipeExpires_serves (h : s.wipeExpires = some t) : Serves s t := by
  unfold State.wipeExpires at h
  split at h
  · next m hm =>
    split at h
    · next wipe =>
      obtain rfl := Option.some.inj h
      intro hd
      have wiping : s.duty.move = some .wipe := by simpa [State.duty, hm] using wipe
      have opened : s.enterOpen.duty.Holds := hd.rest (hd.moving wiping).1 (.inl rfl)
      exact s.enterOpen.endStage_serves (hd.wipe wiping).1 nofun nofun nofun (fun _ => rfl) opened
    · cases h
  · cases h

theorem State.capDelayExpires_duty (h : s.capDelayExpires = some t) : t.duty = s.duty := by
  unfold State.capDelayExpires at h
  split at h
  · cases h; rfl
  · cases h

theorem State.exposureReaches_duty {x : Head} {n : Nat} (h : s.exposureReaches x n = some t) : t.duty = s.duty := by
  unfold State.exposureReaches at h
  split at h
  · cases h; rfl
  · cases h

theorem State.orderExpires_serves (h : s.orderExpires = some t) : Serves s t := by
  unfold State.orderExpires at h
  split at h
  · next order => cases h; exact s.orderTimesOut_serves (by simpa using order)
  · cases h

theorem State.swathExpires_duty (h : s.swathExpires = some t) : t.duty = s.duty := by
  obtain ⟨x, -, rfl⟩ := Option.map_eq_some_iff.1 h
  exact s.loseTicket_duty x

theorem State.dryExpires_duty {id : Nat} (h : s.dryExpires id = some t) : t.duty = s.duty := by
  unfold State.dryExpires at h
  split at h
  · cases h; rfl
  · cases h

end

/-! ### Commands and steps -/

/-- Every command keeps what holds of the duty. -/
theorem exec_serves {c : Instr} {s t : State} (h : exec c s = .next t) : Serves s t := by
  cases c
  all_goals obtain rfl := Host.Outcome.next.inj h
  case powerOn => exact s.powerUp_serves _ _
  case resetLineAssert => exact s.stopAll_serves
  case resetLineRelease =>
    split
    · exact s.powerUp_serves _ _
    · exact Serves.refl s
  case frameError => exact s.discard_serves _ _
  case unknownCommand =>
    split
    · exact Serves.refl s
    · exact (State.wake_serves _).from_eq (s.replied_duty s _ _ _ _ _)
  case getStatus =>
    split
    · exact Serves.refl s
    · exact Serves.refl s
  case getReply => exact s.takeRead_serves _ _ _ _
  case getOrder => exact s.takeRead_serves _ _ _ _
  case getEvents => exact s.takePart_serves _ _ _ _ _
  case tableRead => exact s.takePart_serves _ _ _ _ _
  case setEventMask => exact State.takeWrite_serves _ _ _ (Serves.refl s)
  case tableSel => exact State.takeWrite_serves _ _ _ (decideTableSel_serves s _ _ _)
  case sheetOpen => exact State.takeWrite_serves _ _ _ (decideSheetOpen_serves s _ _ _ _ _ _ _ _)
  case sheetClose => exact State.takeWrite_serves _ _ _ (decideSheetClose_serves s _ _)
  case sheetCancel => exact State.takeWrite_serves _ _ _ (decideSheetCancel_serves s _)
  case swathAsk => exact State.takeWrite_serves _ _ _ (decideSwathAsk_serves s _ _ _ _ _)
  case swathWithdraw => exact State.takeWrite_serves _ _ _ (decideSwathWithdraw_serves s _)
  case swathTake => exact State.takeWrite_serves _ _ _ (decideSwathTake_serves s _)
  case swathDone => exact State.takeWrite_serves _ _ _ (decideSwathDone_serves s _ _ _)
  case parkState => exact State.takeWrite_serves _ _ _ (decideParkState_serves s _)
  case orderDone => exact State.takeWrite_serves _ _ _ (decideOrderDone_serves s _ _ _ _)
  case go => exact State.takeWrite_serves _ _ _ (decideGo_serves s)
  case configSet => exact State.takeWrite_serves _ _ _ (decideConfigSet_serves s _ _ _)
  case configLock => exact State.takeWrite_serves _ _ _ (Serves.refl s)
  case slotMapSet => exact State.takeWrite_serves _ _ _ (decideSlotMapSet_serves s _)
  case tankAccept => exact State.takeWrite_serves _ _ _ (decideTankAccept_serves s _ _)
  case levelRestore => exact State.takeWrite_serves _ _ _ (decideLevelRestore_serves s _ _)
  case retiredRestore => exact State.takeWrite_serves _ _ _ (decideRetiredRestore_serves s _ _ _)
  case rollLoad => exact State.takeWrite_serves _ _ _ (decideRollLoad_serves s _ _ _ _)
  case cleanAsk => exact State.takeWrite_serves _ _ _ (decideCleanAsk_serves s _ _ _)
  case feedClear => exact State.takeWrite_serves _ _ _ (decideFeedClear_serves s)
  case stationClear => exact State.takeWrite_serves _ _ _ (decideStationClear_serves s _)
  case sleepNow => exact State.takeWrite_serves _ _ _ (decideSleepNow_serves s)
  case hubReset park =>
    split
    · exact (s.softReset_serves park).settle.trans (.of_eq (State.modPort_duty _ _ _))
    · exact State.takeWrite_serves _ _ _ (Serves.refl s)
  case probeTrip c wet =>
    refine State.sensedSome_serves (s.setPins_duty _) fun u hu => ?_
    split at hu
    · obtain ⟨r, hr, rfl⟩ := Option.map_eq_some_iff.1 hu
      exact .of_eq (State.tripped_duty hr)
    · cases hu
  case strokeTimerExpiry => exact State.sensedSome_serves rfl fun u hu => .of_eq (State.strokeExpires_duty hu)
  case suctionStageEnd => exact State.sensedSome_serves rfl fun u hu => State.suctionExpires_serves hu
  case slotTankArrival =>
    split
    · exact Serves.refl s
    · exact State.sensedAwake_serves (by rfl) fun u => u.tankArrives_duty _
  case slotTankRemoval =>
    split
    · exact State.sensedAwake_serves (by rfl) fun u => u.tankLeaves_duty _
    · exact Serves.refl s
  case wasteCartridgeArrival =>
    split
    · exact Serves.refl s
    · exact State.sensedAwake_serves (by rfl) fun u => u.wasteArrives_duty
  case wasteCartridgeRemoval =>
    split
    · exact State.sensedAwake_serves (by rfl) fun u => u.wasteLeaves_duty
    · exact Serves.refl s
  case linkAnswer => exact State.sensedSome_serves rfl fun u hu => .of_eq (State.linkAnswers_duty hu)
  case linkAnswerTimeout => exact State.sensedSome_serves rfl fun u hu => .of_eq (State.answerTimesOut_duty hu)
  case busyTimeout => exact State.sensedSome_serves rfl fun u hu => .of_eq (State.waitTimesOut_duty hu)
  case rollArrival =>
    split
    · exact Serves.refl s
    · exact State.sensedAwake_serves (by rfl) fun u => State.reportRolls_duty _ _
  case rollRemoval =>
    split
    · exact State.sensedAwake_serves (by rfl) fun u => u.rollLeaves_duty _
    · exact Serves.refl s
  case paperEnd =>
    refine State.sensedSome_serves (s.setPins_duty _) fun u hu => ?_
    split at hu
    · cases hu
    · exact .of_eq (State.paperEnds_duty hu)
  case threadSensorChange =>
    exact State.sensedSome_serves (s.setPins_duty _) fun u hu => .of_eq (State.threadChanges_duty hu)
  case actuatorPositionReport =>
    exact State.sensedSome_serves (s.setPins_duty _) fun u hu => .of_eq (State.actuatorReports_duty hu)
  case cutterHomeSwitchChange =>
    exact State.sensedSome_serves (s.setPins_duty _) fun u hu => .of_eq (State.cutterReports_duty hu)
  case endOfMove => exact State.sensedSome_serves rfl fun u hu => .of_eq (State.moveEnds_duty hu)
  case advanceWatchdogExpiry => exact State.sensedSome_serves rfl fun u hu => .of_eq (State.watchdogExpires_duty hu)
  case swapTimerExpiry => exact State.sensedSome_serves rfl fun u hu => .of_eq (State.swapExpires_duty hu)
  case cutTimerExpiry => exact State.sensedSome_serves rfl fun u hu => .of_eq (State.cutExpires_duty hu)
  case capSensorReport => exact State.sensedSome_serves (s.setPins_duty _) fun u hu => State.capReports_serves hu
  case capMoveTimerExpiry => exact State.sensedSome_serves rfl fun u hu => State.capMoveExpires_serves hu
  case wipeTimerExpiry => exact State.sensedSome_serves rfl fun u hu => State.wipeExpires_serves hu
  case capDelayExpiry => exact State.sensedSome_serves rfl fun u hu => .of_eq (State.capDelayExpires_duty hu)
  case exposureSpitThreshold => exact State.sensedSome_serves rfl fun u hu => .of_eq (State.exposureReaches_duty hu)
  case exposureCleanThreshold => exact State.sensedSome_serves rfl fun u hu => .of_eq (State.exposureReaches_duty hu)
  case orderTimerExpiry => exact State.sensedSome_serves rfl fun u hu => State.orderExpires_serves hu
  case swathTimerExpiry => exact State.sensedSome_serves rfl fun u hu => .of_eq (State.swathExpires_duty hu)
  case dryTimerExpiry => exact State.sensedSome_serves rfl fun u hu => .of_eq (State.dryExpires_duty hu)
  case idleSleepExpiry =>
    refine State.sensed_serves rfl ?_
    split
    · exact .of_eq s.enterSleep_duty
    · exact Serves.refl s
  case idleServiceExpiry =>
    refine State.sensed_serves rfl ?_
    split
    · exact .settle_eq (by simp)
    · exact Serves.refl s

/-- A millisecond, or a timer put into the queue, keeps what holds of the duty. -/
theorem State.tick_serves (s : State) : Serves s s.tick := by
  unfold State.tick
  split
  · exact .of_eq s.countChips_duty
  · split
    · split <;> exact Serves.refl s
    · split
      · exact Serves.refl s
      · exact .settle_eq (by simp)

/-- Every step keeps what holds of the duty. -/
theorem step_serves {s t : State} (h : step s = .next t) : Serves s t := by
  unfold step at h
  split at h
  · obtain rfl := Host.Outcome.next.inj h
    exact s.tick_serves
  · exact (exec_serves h).from_eq (s.setPending_duty _)

/-- Settles O58: each operation keeps what `Duty.Holds` says of the duty, and a step is made of such operations. -/
theorem stepsKeepServiceHolds : Obligations.StepsKeepServiceHolds := fun s t hs h =>
  t.serviceHolds_iff.2 (step_serves h (s.serviceHolds_iff.1 hs))

end Sys2Proof.Machine
end

section
/-!
SUPPORT. The arithmetic of conversion and needs (R19, R21, R26), and what the tests of the service reservation say (R27, R28).
-/

namespace Sys2Proof.Machine

/-! ### Conversion and needs (R19, R21) -/

theorem ceilDiv_covers (a : Nat) {b : Nat} (hb : 0 < b) : a ≤ ceilDiv a b * b := (ceilDiv_le_iff hb).1 le_rfl

theorem ceilDiv_pos {a b : Nat} (ha : 0 < a) (hb : 0 < b) : 0 < ceilDiv a b := by
  by_contra zero
  have covered := ceilDiv_covers a hb
  rw [Nat.eq_zero_of_not_pos zero] at covered
  omega

theorem convert_zero (dv q : Nat) : convert 0 dv q = (0, q) := rfl

/-- R19: debit and carry are quotient and remainder of the exact volume. -/
theorem convert_of_pos {n : Nat} (hn : n ≠ 0) (dv q : Nat) : convert n dv q = ((n * dv + q) / 10000, (n * dv + q) % 10000) :=
  if_neg hn

/-- R19: debit and carry hold the exact volume, and the carry is a remainder. -/
theorem convert_exact (n dv : Nat) {q : Nat} (hq : q < 10000) : (convert n dv q).2 < 10000 ∧
    (convert n dv q).1 * 10000 + (convert n dv q).2 = n * dv + q := by
  by_cases hn : n = 0
  · subst hn
    exact ⟨hq, by simp [convert_zero]⟩
  · rw [convert_of_pos hn]
    exact ⟨Nat.mod_lt _ (by decide), Nat.div_add_mod' _ _⟩

/-- R21: the base volume of predicted drops. -/
def baseOf (p dv : Nat) : Nat := ceilDiv (p * dv) 10000

theorem needOf_eq (p dv m : Nat) : needOf p dv m = ceilDiv (baseOf p dv * (100 + m)) 100 := rfl

theorem needOf_zero (dv m : Nat) : needOf 0 dv m = 0 := by simp [needOf_eq, baseOf, ceilDiv]

/-- R21: a channel that is to fire a drop has a need. -/
theorem needOf_pos {p dv : Nat} (hp : 0 < p) (hdv : 0 < dv) (m : Nat) : 0 < needOf p dv m :=
  ceilDiv_pos (Nat.mul_pos (ceilDiv_pos (Nat.mul_pos hp hdv) (by decide)) (by omega)) (by decide)

/-! ### The service reservation (R26 to R28) -/

theorem Work.onChannel_iff (w : Work) (c : Channel) : w.onChannel c = true ↔ w.reservesInk = true ∧ w.heads.get c.head = true := by
  simp [Work.onChannel, maskHas]

/-- R1: a level counts where it is established. -/
theorem ChannelRec.fits_iff (r : ChannelRec) (n : Nat) :
    (r.established && decide (n ≤ r.volume)) = true ↔ r.established = true ∧ n ≤ r.level := by
  cases h : r.established <;> simp [ChannelRec.volume, h]

/-- R27: where a channel passes the service ink test. -/
theorem State.serviceFails_eq_false_iff (s : State) (w : Work) (c : Channel) : s.serviceFails w c = false ↔
    (w.reservesInk = true → w.heads.get c.head = true → (s.ledger.chan.get c).established = true ∧
      (s.ledger.chan.get c).rs + (s.ledger.chan.get c).rv + s.serviceNeed w c + s.params.floor ≤
        (s.ledger.chan.get c).level) := by
  rw [← and_imp, ← w.onChannel_iff c, ← ChannelRec.fits_iff]
  unfold State.serviceFails
  cases w.onChannel c <;> simp

/-- R28: where the waste of an item is covered and fits. -/
theorem State.wasteFits_iff (s : State) (w : Work) : s.wasteFits w = true ↔ s.wasteNeed w = 0 ∨
    (s.supply.waste.state = .ready ∧ s.ledger.uncovered = false ∧
      s.ledger.wa + s.ledger.wr + s.wasteNeed w ≤ s.supply.waste.marks * s.supply.waste.wcap / 128 ∧
      s.ledger.wa + s.ledger.wr + s.wasteNeed w ≤ s.supply.waste.wcap) := by
  have coverage : s.supply.waste.state = .ready → s.supply.waste.coverage = s.supply.waste.marks * s.supply.waste.wcap / 128 :=
    fun h => by simp [WasteRec.coverage, h, Config.marksFull]
  by_cases ready : s.supply.waste.state = .ready
  · simp [State.wasteFits, ready, coverage ready, and_assoc]
  · simp [State.wasteFits, ready]

/-- R140: an item's reservation passes where every channel and the waste do. -/
theorem State.serviceFits_iff (s : State) (w : Work) : s.serviceFits w = true ↔
    (∀ c, s.serviceFails w c = false) ∧ s.wasteFits w = true := by
  simp [State.serviceFits, Channel.mem_all]

/-- R26: what an item needs on a channel that it reserves on. -/
theorem State.serviceNeed_eq (s : State) {w : Work} {c : Channel} (h : w.onChannel c = true) : s.serviceNeed w c =
    ceilDiv (512 * s.params.spitDrops * (s.ledger.chan.get c).dv) 10000 + Config.suctionVolume w.level := by
  simp only [State.serviceNeed, State.spitParts, suctionParts, Six.get_tab, if_pos h]
  rfl

/-- Settles O16: conversion and needs by quotient, remainder and least volume; the service tests channel by channel. -/
theorem needsAndRoom : Obligations.NeedsAndRoom := by
  refine ⟨fun n dv q hq => ?_, fun p dv m => ?_, fun s w => ⟨?_, fun c hr hh => ?_⟩⟩
  · obtain ⟨carry, total⟩ := convert_exact n dv hq
    exact ⟨carry, total, fun hn => by rw [hn, convert_zero]⟩
  · refine ⟨baseOf p dv, ceilDiv_covers _ (by decide), fun b => (ceilDiv_le_iff (by decide)).2,
      ceilDiv_covers _ (by decide), fun n => (ceilDiv_le_iff (by decide)).2, fun hp => ?_, fun hp hdv => ?_⟩
    · rw [hp, needOf_zero]
    · exact needOf_pos hp (by omega) m
  · simp only [s.serviceFits_iff, s.wasteFits_iff, s.serviceFails_eq_false_iff]
  · exact ⟨_, s.serviceNeed_eq ((w.onChannel_iff c).2 ⟨hr, hh⟩), ceilDiv_covers _ (by decide),
      fun x => (ceilDiv_le_iff (by decide)).2⟩

end Sys2Proof.Machine
end

section
/-!
SUPPORT. The reservation pass (R23, R24): when a channel fails it, what it does with its oldest QUEUED ticket, and what that
leaves of the ledger, the tickets and the demands.
-/

namespace Sys2Proof.Machine

section
variable (s : State)

/-- R23: where a channel passes the test of a ticket. -/
theorem State.swathFails_eq_false_iff (t : Ticket) (c : Channel) : s.swathFails t c = false ↔
    (0 < t.need.get c → (s.ledger.chan.get c).levelState = .normal ∧
      (s.ledger.chan.get c).rs + t.need.get c + s.params.floor + s.params.reserve ≤ (s.ledger.chan.get c).volume) := by
  unfold State.swathFails Ticket.uses
  by_cases used : 0 < t.need.get c <;> simp [used]

/-- R23: where a channel fails it. -/
theorem State.swathFails_iff (t : Ticket) (c : Channel) : s.swathFails t c = true ↔
    0 < t.need.get c ∧ ((s.ledger.chan.get c).levelState ≠ .normal ∨ (s.ledger.chan.get c).volume <
      (s.ledger.chan.get c).rs + t.need.get c + s.params.floor + s.params.reserve) := by
  rw [← Bool.not_eq_false, ne_eq, s.swathFails_eq_false_iff]
  simp only [Classical.not_imp, not_and_or, not_le]

variable {s} in
/-- R24: the pass reserves its oldest QUEUED ticket where no channel fails. -/
theorem State.passStep_reserves {t : Ticket} (hd : s.due.pass = true) (ht : s.oldestQueued = some t)
    (h : ∀ c, s.swathFails t c = false) : s.passStep = some (s.reserveTicket t).duePass := by
  have none_fails : Channel.all.filter (s.swathFails t) = [] := List.filter_eq_nil_iff.2 fun c _ => by simp [h c]
  simp [State.passStep, hd, ht, none_fails]

variable {s} in
/-- R24: the pass ends at a ticket that a channel fails, with the demands of the channels that fail. -/
theorem State.passStep_ends {t : Ticket} {c : Channel} (hd : s.due.pass = true) (ht : s.oldestQueued = some t)
    (h : s.swathFails t c = true) :
    s.passStep = some ((s.setDue { s.due with pass := false }).setDemands (Channel.all.filter (s.swathFails t))) := by
  have fails : (Channel.all.filter (s.swathFails t)).isEmpty = false :=
    List.isEmpty_eq_false_iff.2 (List.ne_nil_of_mem (List.mem_filter.2 ⟨c.mem_all, h⟩))
  simp [State.passStep, hd, ht, fails]

/-- R8: a demand once set stays, whatever others are set. -/
theorem State.setDemand_demand {c x : Channel} (h : c = x ∨ (s.manifold.session.get c).demand = true) :
    ((s.setDemand x).manifold.session.get c).demand = true := by
  by_cases e : c = x
  · subst e
    simp [State.setDemand]
  · simpa [State.setDemand, e] using h

theorem State.setDemands_demand {c : Channel} {l : List Channel} (h : c ∈ l ∨ (s.manifold.session.get c).demand = true) :
    ((s.setDemands l).manifold.session.get c).demand = true := by
  induction l generalizing s with
  | nil => exact h.resolve_left List.not_mem_nil
  | cons x l ih =>
    refine ih _ ?_
    rcases h with h | h
    · exact (List.mem_cons.1 h).symm.imp_right fun e => s.setDemand_demand (.inl e)
    · exact .inr (s.setDemand_demand (.inr h))

/-- R23: what a reservation does to the channel records. -/
theorem State.reserveTicket_ledger (t : Ticket) : (s.reserveTicket t).ledger =
    { s.ledger with chan := ledgerChans s.params s.ledger.chan fun c r => { r with rs := r.rs + t.need.get c } } := by
  have held : (s.reserveTicket t).ledger = (s.reserveInk t).ledger := by
    unfold State.reserveTicket State.holdCapDelay
    exact (Frame.when (bs := [.station]) _ _ fun u => u.setStation_frame _) .ledger (by decide)
  exact held.trans (s.ledgerOp_ledger _)

/-- R23: the ticket becomes RESERVED. -/
theorem State.reserveTicket_queue (t : Ticket) : (s.reserveTicket t).tickets.queue =
    s.tickets.queue.map fun x => if x.number = t.number then { x with state := .reserved } else x := by
  have held : (s.reserveTicket t).tickets = ((s.reserveInk t).modTicket t.number fun x => { x with state := .reserved }).tickets := by
    unfold State.reserveTicket State.holdCapDelay
    exact (Frame.when (bs := [.station]) _ _ fun u => u.setStation_frame _) .tickets (by decide)
  have ink : (s.reserveInk t).tickets = s.tickets := s.ledgerOp_frame _ .tickets (by decide)
  simp only [held, State.modTicket, State.setTickets_tickets, ink, beq_iff_eq]

theorem State.reserveTicket_frame (t : Ticket) : Frame [.ports, .ledger, .tickets, .station, .due] s (s.reserveTicket t) :=
  Frame.join (Frame.join (s.ledgerOp_frame _) (State.modTicket_frame _ _ _) (by decide) (by decide)
      (cs := [.ports, .ledger, .tickets, .due]))
    (Frame.trans (State.clearCapDue_frame _) (Frame.when _ _ fun u => u.setStation_frame _)) (by decide) (by decide)

end

/-- Settles O18: the pass step by its branches, the reservation record by record, the demands over the failing channels. -/
theorem passReservesOldestQueued : Obligations.PassReservesOldestQueued := by
  intro s t hd ht
  refine ⟨fun room => ?_, fun c used fails => ?_⟩
  · refine ⟨_, s.passStep_reserves hd ht fun c => (s.swathFails_eq_false_iff t c).2 (room c), rfl, fun c => ?_, ?_, ?_⟩
    · have record : (s.reserveTicket t).duePass.ledger.chan.get c = _ :=
        (congrArg (fun l => l.chan.get c) (s.reserveTicket_ledger t)).trans (ledgerChans_get _ _ _ c)
      rw [record]
      exact ⟨rfl, rfl, rfl, rfl⟩
    · exact s.reserveTicket_queue t
    · exact (s.reserveTicket_frame t).trans ((State.duePass_frame _).mono (by decide))
  · have failing := (s.swathFails_iff t c).2 ⟨used, fails⟩
    refine ⟨_, State.passStep_ends hd ht failing, ?_, ?_, ?_⟩
    · exact congrArg Due.pass (State.setDemands_frame _ _ .due (by decide))
    · exact State.setDemands_demand _ (.inl (List.mem_filter.2 ⟨c.mem_all, failing⟩))
    · exact Frame.join (s.setDue_frame _) (State.setDemands_frame _ _) (by decide) (by decide)

end Sys2Proof.Machine
end

section
/-!
SUPPORT. The bay: the chips that stand at the link positions and the account of the waste cartridge, which are all that O59 and the
step clause of O40 speak of. What each operation does to it: nothing (its `_bay` lemma, from its frame where the operation has
one), or a recomputation of the two flags.
-/

namespace Sys2Proof.Machine

/-! ### The bay -/

/-- The chips, and what R35 and R50 compute the flags of the waste cartridge from. -/
structure Bay where
  chips : Chips
  threshold : Nat
  wa : Nat
  wr : Nat
  uncovered : Bool
  waste : WasteRec

def State.bay (s : State) : Bay :=
  { chips := s.chips, threshold := s.mode.params.nearFull, wa := s.ledger.wa, wr := s.ledger.wr,
    uncovered := s.ledger.uncovered, waste := s.supply.waste }

/-- The record with the state and the near-full flag of R50. -/
def WasteRec.judged (w : WasteRec) (threshold wa : Nat) : WasteRec :=
  let x : WasteRec := if w.state = .ready ∧ w.wcap ≤ wa then { w with state := .full } else w
  { x with nearFull := x.identified && decide (threshold * x.wcap ≤ wa * 100) }

namespace Bay

/-- The uncovered flag is recomputed (R35). -/
def cover (b : Bay) : Bay := { b with uncovered := decide (b.waste.coverage < b.wa + b.wr) }

/-- FULL and the near-full flag are recomputed (R50). -/
def fill (b : Bay) : Bay := { b with waste := b.waste.judged b.threshold b.wa }

/-- The near-full flag is the one R50 computes, and a READY cartridge has room (R50). -/
def Filled (b : Bay) : Prop :=
  b.waste.nearFull = (b.waste.identified && decide (b.threshold * b.waste.wcap ≤ b.wa * 100)) ∧
    (b.waste.state = .ready → b.wa < b.waste.wcap)

/-- The flags are those that R35 and R50 compute. -/
def Current (b : Bay) : Prop := b.uncovered = decide (b.waste.coverage < b.wa + b.wr) ∧ b.Filled

end Bay

/-- The account of the cartridge is a fact about the bay. -/
theorem State.wasteCurrent_iff (s : State) : s.WasteCurrent ↔ s.bay.Current :=
  ⟨fun h => ⟨h.uncovered, h.nearFull, h.full⟩, fun h => ⟨h.1, h.2.1, h.2.2⟩⟩

theorem WasteRec.judged_coverage (w : WasteRec) (threshold wa : Nat) : (w.judged threshold wa).coverage = w.coverage := by
  unfold WasteRec.judged
  dsimp only
  split
  · next full => simp [WasteRec.coverage, full.1]
  · rfl

theorem WasteRec.judged_identified (w : WasteRec) (threshold wa : Nat) :
    (w.judged threshold wa).identified = w.identified := by
  unfold WasteRec.judged
  dsimp only
  split
  · next full => simp [WasteRec.identified, full.1]
  · rfl

@[simp] theorem WasteRec.judged_wcap (w : WasteRec) (threshold wa : Nat) : (w.judged threshold wa).wcap = w.wcap := by
  unfold WasteRec.judged
  dsimp only
  split <;> rfl

@[simp] theorem WasteRec.judged_marks (w : WasteRec) (threshold wa : Nat) : (w.judged threshold wa).marks = w.marks := by
  unfold WasteRec.judged
  dsimp only
  split <;> rfl

theorem WasteRec.judged_state (w : WasteRec) (threshold wa : Nat) :
    (w.judged threshold wa).state = if w.state = .ready ∧ w.wcap ≤ wa then .full else w.state := by
  unfold WasteRec.judged
  dsimp only
  split <;> rfl

theorem WasteRec.judged_nearFull (w : WasteRec) (threshold wa : Nat) :
    (w.judged threshold wa).nearFull = (w.identified && decide (threshold * w.wcap ≤ wa * 100)) := by
  unfold WasteRec.judged
  dsimp only
  split
  · next full => simp [WasteRec.identified, full.1]
  · rfl

namespace Bay

theorem filled_fill (b : Bay) : b.fill.Filled := by
  unfold Filled fill
  simp only [WasteRec.judged_nearFull, WasteRec.judged_identified, WasteRec.judged_wcap, WasteRec.judged_state, true_and]
  intro h
  split at h
  · cases h
  · next room => exact Nat.lt_of_not_le fun full => room ⟨h, full⟩

theorem Filled.cover {b : Bay} (h : b.Filled) : b.cover.Current := ⟨rfl, h⟩

theorem Current.cover {b : Bay} (h : b.Current) : b.cover.Current := h.2.cover

/-- R50 leaves the coverage, and so the uncovered flag, as it is. -/
theorem Current.fill {b : Bay} (h : b.Current) : b.fill.Current := by
  refine ⟨?_, b.filled_fill⟩
  rw [show b.fill.waste.coverage = b.waste.coverage from b.waste.judged_coverage _ _]
  exact h.1

theorem current_cover_fill (b : Bay) : b.fill.cover.Current := b.filled_fill.cover

/-- A cartridge that is neither READY nor FULL has no near-full flag. -/
theorem filled_of_not_identified {b : Bay} (hi : b.waste.identified = false) (hn : b.waste.nearFull = false) : b.Filled := by
  refine ⟨by rw [hi, hn]; rfl, fun ready => ?_⟩
  rw [WasteRec.identified, ready] at hi
  cases hi

end Bay

/-- A frame outside the chips, the mode, the ledger and the supply leaves the bay. -/
theorem Frame.bay {bs : List Block} {s t : State} (h : Frame bs s t)
    (hb : decide (Block.chips ∉ bs ∧ Block.mode ∉ bs ∧ Block.ledger ∉ bs ∧ Block.supply ∉ bs) = true) : t.bay = s.bay := by
  obtain ⟨h1, h2, h3, h4⟩ := of_decide_eq_true hb
  have hc : t.chips = s.chips := h .chips h1
  have hm : t.mode = s.mode := h .mode h2
  have hl : t.ledger = s.ledger := h .ledger h3
  have hs : t.supply = s.supply := h .supply h4
  simp only [State.bay, hc, hm, hl, hs]

section
variable (s : State)

/-! ### The updates -/

@[simp] theorem State.setPending_bay (x : List Instr) : (s.setPending x).bay = s.bay := by rfl
@[simp] theorem State.setPins_bay (x : Pins) : (s.setPins x).bay = s.bay := by rfl
@[simp] theorem State.setPorts_bay (x : PerPort PortRec) : (s.setPorts x).bay = s.bay := by rfl
@[simp] theorem State.setManifold_bay (x : Manifold) : (s.setManifold x).bay = s.bay := by rfl
@[simp] theorem State.setTickets_bay (x : Admission) : (s.setTickets x).bay = s.bay := by rfl
@[simp] theorem State.setFeed_bay (x : Feed) : (s.setFeed x).bay = s.bay := by rfl
@[simp] theorem State.setSheets_bay (x : Sheets) : (s.setSheets x).bay = s.bay := by rfl
@[simp] theorem State.setStation_bay (x : Station) : (s.setStation x).bay = s.bay := by rfl
@[simp] theorem State.setService_bay (x : Service) : (s.setService x).bay = s.bay := by rfl
@[simp] theorem State.setNozzles_bay (x : Nozzles) : (s.setNozzles x).bay = s.bay := by rfl
@[simp] theorem State.setDue_bay (x : Due) : (s.setDue x).bay = s.bay := by rfl
theorem State.setLedger_bay (x : Ledger) :
    (s.setLedger x).bay = { s.bay with wa := x.wa, wr := x.wr, uncovered := x.uncovered } := by rfl
theorem State.setSupply_bay (x : Supply) : (s.setSupply x).bay = { s.bay with waste := x.waste } := by rfl
theorem State.setMode_bay (x : ModeUnit) : (s.setMode x).bay = { s.bay with threshold := x.params.nearFull } := by rfl
theorem State.setMode_bay_same {x : ModeUnit} (h : x.params.nearFull = s.mode.params.nearFull) :
    (s.setMode x).bay = s.bay := by
  rw [State.setMode_bay, h]
  rfl
@[simp] theorem State.setWaste_bay (w : WasteRec) : (s.setWaste w).bay = { s.bay with waste := w } := by rfl
@[simp] theorem State.setWa_bay (n : Nat) : (s.setWa n).bay = { s.bay with wa := n } := by rfl

@[simp] theorem State.when_bay (b : Bool) {f : State → State} (h : ∀ t, (f t).bay = t.bay) : (s.when b f).bay = s.bay := by
  cases b
  · rfl
  · exact h s

@[simp] theorem State.foldl_bay {α : Type} (l : List α) {f : State → α → State} (h : ∀ t x, (f t x).bay = t.bay) :
    (l.foldl f s).bay = s.bay := by
  induction l generalizing s with
  | nil => rfl
  | cons x l ih => exact (ih (f s x)).trans (h s x)

/-! ### Events, ports, modes and what is due -/

@[simp] theorem State.raise_bay (e : Event) : (s.raise e).bay = s.bay := by rfl
@[simp] theorem State.raiseIf_bay (b : Bool) (e : Event) : (s.raiseIf b e).bay = s.bay := (s.raiseIf_frame b e).bay rfl
@[simp] theorem State.raiseLevels_bay (x y : Six ChannelRec) : (s.raiseLevels x y).bay = s.bay :=
  (s.raiseLevels_frame x y).bay rfl
@[simp] theorem State.raiseSurveys_bay (b : Bool) : (s.raiseSurveys b).bay = s.bay := by simp [State.raiseSurveys]
@[simp] theorem State.modPort_bay (p : Port) (f : PortRec → PortRec) : (s.modPort p f).bay = s.bay := by rfl
@[simp] theorem State.replied_bay (r : State) (p : Port) (c : Nat) (k : ReplyCode) (v n : Nat) :
    (s.replied r p c k v n).bay = s.bay := by rfl
@[simp] theorem State.loadIdleSleep_bay : s.loadIdleSleep.bay = s.bay := by rfl
@[simp] theorem State.enterSleep_bay : s.enterSleep.bay = s.bay := by rfl
@[simp] theorem State.enterRun_bay : s.enterRun.bay = s.bay := by rfl
@[simp] theorem State.duePass_bay : s.duePass.bay = s.bay := by rfl
@[simp] theorem State.dueArbiter_bay : s.dueArbiter.bay = s.bay := by rfl
@[simp] theorem State.dueExamine_bay : s.dueExamine.bay = s.bay := by rfl
@[simp] theorem State.dueStroke_bay (c : Channel) (b : Bool) : (s.dueStroke c b).bay = s.bay := by rfl
@[simp] theorem State.inkMoved_bay : s.inkMoved.bay = s.bay := s.inkMoved_frame.bay rfl
@[simp] theorem State.wasteMoved_bay : s.wasteMoved.bay = s.bay := s.wasteMoved_frame.bay rfl
@[simp] theorem State.reportRolls_bay (old : Two RollRec) : (s.reportRolls old).bay = s.bay := (s.reportRolls_frame old).bay rfl

/-! ### The ledger but for the waste -/

@[simp] theorem State.setChan_bay (x : Six ChannelRec) : (s.setChan x).bay = s.bay := by rfl
@[simp] theorem State.setDv_bay (m : Six Bool) (v : Nat) : (s.setDv m v).bay = s.bay := by rfl
@[simp] theorem State.ledgerOp_bay (f : Channel → ChannelRec → ChannelRec) : (s.ledgerOp f).bay = s.bay := by
  simp [State.ledgerOp]
@[simp] theorem State.recomputeLevels_bay : s.recomputeLevels.bay = s.bay := by simp [State.recomputeLevels]
@[simp] theorem State.setLevel_bay (c : Channel) (n : Nat) : (s.setLevel c n).bay = s.bay := s.ledgerOp_bay _
@[simp] theorem State.creditStroke_bay (c : Channel) (v : Nat) : (s.creditStroke c v).bay = s.bay := s.ledgerOp_bay _
@[simp] theorem State.reserveInk_bay (t : Ticket) : (s.reserveInk t).bay = s.bay := s.ledgerOp_bay _
@[simp] theorem State.releaseInk_bay (ts : List Ticket) : (s.releaseInk ts).bay = s.bay := s.ledgerOp_bay _

/-! ### The supply but for the cartridge -/

@[simp] theorem State.setLink_bay (l : Link) : (s.setLink l).bay = s.bay := by rfl
@[simp] theorem State.requestIdentify_bay (pos : LinkPos) : (s.requestIdentify pos).bay = s.bay := by rfl
@[simp] theorem State.requestMark_bay (pos : LinkPos) (n : Nat) : (s.requestMark pos n).bay = s.bay := by rfl
@[simp] theorem State.dropJob_bay (pos : LinkPos) : (s.dropJob pos).bay = s.bay := by rfl
@[simp] theorem State.endJob_bay : s.endJob.bay = s.bay := by rfl
@[simp] theorem State.nextCommand_bay (r : LinkRun) (x : ChipCommand) : (s.nextCommand r x).bay = s.bay := by rfl
@[simp] theorem State.endRemapped_bay (j : LinkJob) : (s.endRemapped j).bay = s.bay := by rfl
@[simp] theorem State.askCoverage_bay (w : Work) : (s.askCoverage w).bay = s.bay := by simp [State.askCoverage]
@[simp] theorem State.putSlot_bay (k : SlotId) (r : SlotRec) : (s.putSlot k r).bay = s.bay := by
  simp only [State.putSlot, State.raiseIf_bay]
  rfl

@[simp] theorem State.promote_bay (c : Channel) : (s.promote c).bay = s.bay := by
  unfold State.promote
  repeat' split
  all_goals simp

@[simp] theorem State.promoteFor_bay (k : SlotId) : (s.promoteFor k).bay = s.bay := by
  unfold State.promoteFor
  split <;> simp

@[simp] theorem State.placeSlot_bay (k : SlotId) (c : Channel) (r : SlotRec) : (s.placeSlot k c r).bay = s.bay := by
  unfold State.placeSlot
  dsimp only
  repeat' split
  all_goals simp

@[simp] theorem State.forgetSource_bay (k : SlotId) : (s.forgetSource k).bay = s.bay := by rfl
@[simp] theorem State.tankArrives_bay (k : SlotId) : (s.tankArrives k).bay = s.bay := by simp [State.tankArrives]
@[simp] theorem State.tankLeaves_bay (k : SlotId) : (s.tankLeaves k).bay = s.bay := by simp [State.tankLeaves]
@[simp] theorem State.acceptTank_bay (k : SlotId) (c : Channel) (n : Nat) : (s.acceptTank k c n).bay = s.bay :=
  s.placeSlot_bay k c _
@[simp] theorem State.recomputeLow_bay : s.recomputeLow.bay = s.bay := by simp [State.recomputeLow]

@[simp] theorem State.addDrawn_bay (k : SlotId) (v : Nat) : (s.addDrawn k v).bay = s.bay := by
  unfold State.addDrawn
  dsimp only
  split <;> simp

@[simp] theorem State.remapSlot_bay (k : SlotId) (e : Option Channel) : (s.remapSlot k e).bay = s.bay := by
  unfold State.remapSlot
  split
  · rfl
  · simp [State.setSupply_bay]
    rfl

@[simp] theorem State.takeMap_bay (m : Eight (Option Channel)) : (s.takeMap m).bay = s.bay := by simp [State.takeMap]

@[simp] theorem State.applyTank_bay (k : SlotId) (i : Identity) (m : BitVec 128) : (s.applyTank k i m).bay = s.bay := by
  unfold State.applyTank
  repeat' split
  all_goals simp

/-! ### The manifold -/

@[simp] theorem State.setSession_bay (c : Channel) (x : Session) : (s.setSession c x).bay = s.bay := by rfl
@[simp] theorem State.putSession_bay (c : Channel) (x : SessionState) : (s.putSession c x).bay = s.bay := by rfl
@[simp] theorem State.clearDemand_bay (c : Channel) : (s.clearDemand c).bay = s.bay := by rfl
@[simp] theorem State.enterWant_bay (c : Channel) : (s.enterWant c).bay = s.bay := by rfl
@[simp] theorem State.setPump_bay (p : Pump) : (s.setPump p).bay = s.bay := by rfl
@[simp] theorem State.setDemands_bay (cs : List Channel) : (s.setDemands cs).bay = s.bay := (s.setDemands_frame cs).bay rfl
@[simp] theorem State.requestSuction_bay (h : Head) (l : Nat) : (s.requestSuction h l).bay = s.bay :=
  (s.requestSuction_frame h l).bay rfl
@[simp] theorem State.startSuction_bay (q : SuctionReq) : (s.startSuction q).bay = s.bay := by rfl
@[simp] theorem State.fillFound_bay (c : Channel) : (s.fillFound c).bay = s.bay := by simp [State.fillFound]

@[simp] theorem State.strokeTest_bay (c : Channel) : (s.strokeTest c).bay = s.bay := by
  unfold State.strokeTest
  dsimp only
  repeat' split
  all_goals simp

@[simp] theorem State.afterStroke_bay (c : Channel) (b : Bool) : (s.afterStroke c b).bay = s.bay := by
  unfold State.afterStroke
  dsimp only
  repeat' split
  all_goals simp

@[simp] theorem State.completeStroke_bay (r : StrokeRun) (b : Bool) : (s.completeStroke r b).bay = s.bay := by
  cases b <;> simp [State.completeStroke]

@[simp] theorem State.startStroke_bay (c : Channel) : (s.startStroke c).bay = s.bay := by
  unfold State.startStroke
  split <;> simp

@[simp] theorem State.serveCandidate_bay (c : Channel) : (s.serveCandidate c).bay = s.bay := by
  unfold State.serveCandidate
  repeat' split
  all_goals simp

theorem State.sessionReacts_bay {s t : State} {c : Channel} (h : s.sessionReacts c = some t) : t.bay = s.bay := by
  unfold State.sessionReacts at h
  repeat' split at h
  all_goals cases h
  all_goals simp

@[simp] theorem State.askAgain_bay (c : Channel) : (s.askAgain c).bay = s.bay := by
  unfold State.askAgain
  split
  · cases h : s.sessionReacts c with
    | none => simp
    | some t => simpa using State.sessionReacts_bay h
  · rfl

/-! ### Tickets, sheets and the feed unit -/

@[simp] theorem State.modTicket_bay (n : Nat) (g : Ticket → Ticket) : (s.modTicket n g).bay = s.bay := by rfl
@[simp] theorem State.setTicketQueue_bay (q : List Ticket) : (s.setTicketQueue q).bay = s.bay := by rfl
@[simp] theorem State.appendTicket_bay (h i a : Nat) (p : Six Nat) : (s.appendTicket h i a p).bay = s.bay := by rfl
@[simp] theorem State.takeTicket_bay (n : Nat) : (s.takeTicket n).bay = s.bay := by rfl
@[simp] theorem State.dropFiring_bay (n : Nat) : (s.dropFiring n).bay = s.bay := by rfl
@[simp] theorem State.modSheet_bay (n : Nat) (f : Sheet → Sheet) : (s.modSheet n f).bay = s.bay := by rfl
@[simp] theorem State.appendSheet_bay (p : RollPref) (m w l t b d : Nat) (c : CutMode) :
    (s.appendSheet p m w l t b d c).bay = s.bay := by rfl
@[simp] theorem State.startDrying_bay (h : Sheet) : (s.startDrying h).bay = s.bay := by rfl
@[simp] theorem State.examineSheet_bay (h : Sheet) : (s.examineSheet h).bay = s.bay := (s.examineSheet_frame h).bay rfl
@[simp] theorem State.removeSheet_bay (n : Nat) (o : SheetOutcome) : (s.removeSheet n o).bay = s.bay :=
  (s.removeSheet_frame n o).bay rfl
@[simp] theorem State.setRoll_bay (r : Roll) (x : RollRec) : (s.setRoll r x).bay = s.bay := by rfl
@[simp] theorem State.modPathRoll_bay (f : RollRec → RollRec) : (s.modPathRoll f).bay = s.bay := (s.modPathRoll_frame f).bay rfl
@[simp] theorem State.endOp_bay (p : PathState) : (s.endOp p).bay = s.bay := by rfl
@[simp] theorem State.startOp_bay (p : PathState) (o : FeedOp) : (s.startOp p o).bay = s.bay := by rfl
@[simp] theorem State.pathFaults_bay (w : FeedCause) (e : Event) : (s.pathFaults w e).bay = s.bay := by rfl
@[simp] theorem State.completeAdvance_bay (o : FeedOp) : (s.completeAdvance o).bay = s.bay := (s.completeAdvance_frame o).bay rfl
@[simp] theorem State.proceedSwap_bay (o : FeedOp) : (s.proceedSwap o).bay = s.bay := (s.proceedSwap_frame o).bay rfl
@[simp] theorem State.completeCut_bay (o : FeedOp) : (s.completeCut o).bay = s.bay := (s.completeCut_frame o).bay rfl

@[simp] theorem State.settleTicket_bay (t : Ticket) (pairs : List (Nat × Nat)) : (s.settleTicket t pairs).bay = s.bay := by
  simp [State.settleTicket, State.settleSwath]

@[simp] theorem State.loseTicket_bay (t : Ticket) : (s.loseTicket t).bay = s.bay := by
  simp [State.loseTicket, State.settleLost, State.debitNeed]

@[simp] theorem State.removeTickets_bay (leaves : Ticket → Bool) : (s.removeTickets leaves).bay = s.bay := by
  unfold State.removeTickets
  dsimp only
  split <;> simp

@[simp] theorem State.cancelSheet_bay (n : Nat) (o : SheetOutcome) : (s.cancelSheet n o).bay = s.bay := by
  unfold State.cancelSheet
  dsimp only
  split <;> simp [State.removeSheetTickets]

@[simp] theorem State.cancelIf_bay (n : Nat) (o : SheetOutcome) : (s.cancelIf n o).bay = s.bay := by
  unfold State.cancelIf
  repeat' split
  all_goals simp

@[simp] theorem State.cancelActive_bay (o : SheetOutcome) : (s.cancelActive o).bay = s.bay := by
  unfold State.cancelActive
  split <;> simp

@[simp] theorem State.paperEndOn_bay (r : Roll) : (s.paperEndOn r).bay = s.bay := by
  unfold State.paperEndOn
  repeat' split
  all_goals simp

@[simp] theorem State.stoppedPaperEnd_bay (p : Purpose) (n : Nat) : (s.stoppedPaperEnd p n).bay = s.bay := by
  cases p <;> simp [State.stoppedPaperEnd]

@[simp] theorem State.feedFaulted_bay (o : FeedOp) : (s.feedFaulted o).bay = s.bay := by
  unfold State.feedFaulted
  repeat' split
  all_goals simp

@[simp] theorem State.stopAdvance_bay (o : FeedOp) (r : Roll) : (s.stopAdvance o r).bay = s.bay := by simp [State.stopAdvance]
@[simp] theorem State.faultAdvance_bay (o : FeedOp) (w : FeedCause) : (s.faultAdvance o w).bay = s.bay := by
  simp [State.faultAdvance]
@[simp] theorem State.faultSwap_bay (o : FeedOp) (w : FeedCause) : (s.faultSwap o w).bay = s.bay := by simp [State.faultSwap]

@[simp] theorem State.requestAdvance_bay (p : Purpose) (d n k : Nat) : (s.requestAdvance p d n k).bay = s.bay := by
  unfold State.requestAdvance
  split <;> simp

@[simp] theorem State.chooseAgain_bay (h : Sheet) : (s.chooseAgain h).bay = s.bay := by
  unfold State.chooseAgain
  repeat' split
  all_goals rfl

@[simp] theorem State.requestSwap_bay (h : Sheet) (r : Roll) : (s.requestSwap h r).bay = s.bay := by
  unfold State.requestSwap
  repeat' split
  all_goals simp [State.startSwap]

@[simp] theorem State.requestCut_bay (h : Sheet) : (s.requestCut h).bay = s.bay := by
  unfold State.requestCut
  split <;> rfl

@[simp] theorem State.rollLeaves_bay (r : Roll) : (s.rollLeaves r).bay = s.bay := by
  unfold State.rollLeaves
  dsimp only
  repeat' split
  all_goals simp

/-! ### The service and the station, but for the parts -/

@[simp] theorem State.setQueue_bay (q : List Item) : (s.setQueue q).bay = s.bay := by rfl
@[simp] theorem State.requestSpit_bay (h : Head) : (s.requestSpit h).bay = s.bay := (s.requestSpit_frame h).bay rfl
@[simp] theorem State.requestCheck_bay (m : Three Bool) : (s.requestCheck m).bay = s.bay := (s.requestCheck_frame m).bay rfl
@[simp] theorem State.requestClean_bay (h : Head) (l : Nat) (o : CleanOrigin) (u : Urgency) (a : Nat) :
    (s.requestClean h l o u a).bay = s.bay := (s.requestClean_frame h l o u a).bay rfl
@[simp] theorem State.cleanAll_bay (o : CleanOrigin) : (s.cleanAll o).bay = s.bay := (s.cleanAll_frame o).bay rfl
@[simp] theorem State.returnItem_bay (i : Item) : (s.returnItem i).bay = s.bay := (s.returnItem_frame i).bay rfl
@[simp] theorem State.startItem_bay (i : Item) : (s.startItem i).bay = s.bay := by rfl
@[simp] theorem State.passOver_bay (i : Item) : (s.passOver i).bay = s.bay := by simp [State.passOver]
@[simp] theorem State.clearCapDue_bay : s.clearCapDue.bay = s.bay := by rfl
@[simp] theorem State.holdCapDelay_bay : s.holdCapDelay.bay = s.bay := by simp [State.holdCapDelay]
@[simp] theorem State.reserveTicket_bay (t : Ticket) : (s.reserveTicket t).bay = s.bay := by simp [State.reserveTicket]
@[simp] theorem State.putNozzles_bay (x : Six NozzleRec) : (s.putNozzles x).bay = s.bay := (s.putNozzles_frame x).bay rfl
@[simp] theorem State.applyCheck_bay (r : List CheckReport) : (s.applyCheck r).bay = s.bay := (s.applyCheck_frame r).bay rfl
@[simp] theorem State.resetExposures_bay (m : Three Bool) : (s.resetExposures m).bay = s.bay :=
  (s.resetExposures_frame m).bay rfl
@[simp] theorem State.placeOrder_bay (k : OrderKind) (m : Three Bool) (d : Nat) (o : OrderOrigin) :
    (s.placeOrder k m d o).bay = s.bay := by rfl
@[simp] theorem State.placePark_bay (o : OrderOrigin) : (s.placePark o).bay = s.bay := by rfl
@[simp] theorem State.finishOrder_bay : s.finishOrder.bay = s.bay := by rfl
@[simp] theorem State.startMove_bay (k : MoveKind) (x : StationState) (n : Nat) : (s.startMove k x n).bay = s.bay := by rfl
@[simp] theorem State.startWipe_bay : s.startWipe.bay = s.bay := by rfl
@[simp] theorem State.enterOpen_bay : s.enterOpen.bay = s.bay := by rfl
@[simp] theorem State.enterCapped_bay : s.enterCapped.bay = s.bay := by simp [State.enterCapped]
@[simp] theorem State.startCap_bay : s.startCap.bay = s.bay := by simp [State.startCap]
@[simp] theorem State.startUncap_bay : s.startUncap.bay = s.bay := by simp [State.startUncap]
@[simp] theorem State.endStage_bay : s.endStage.bay = s.bay := s.endStage_frame.bay rfl
@[simp] theorem State.orphanSuction_bay : s.orphanSuction.bay = s.bay := s.orphanSuction_frame.bay rfl
@[simp] theorem State.askSuction_bay (h : Head) (l : Nat) : (s.askSuction h l).bay = s.bay := by simp [State.askSuction]

/-! ### The flags of the cartridge -/

@[simp] theorem State.refreshUncovered_bay : s.refreshUncovered.bay = s.bay.cover := by
  simp only [State.refreshUncovered, State.when_bay, State.wasteMoved_bay, State.requestMark_bay, implies_true]
  rfl

@[simp] theorem State.refreshFull_bay : s.refreshFull.bay = s.bay.fill := by
  simp only [State.refreshFull, State.when_bay, State.wasteMoved_bay, State.raiseIf_bay, State.setWaste_bay, implies_true,
    Bay.fill, WasteRec.judged, State.params, Bool.and_eq_true, beq_iff_eq, decide_eq_true_eq]
  rfl

@[simp] theorem State.refreshWaste_bay : s.refreshWaste.bay = s.bay.fill.cover := by simp [State.refreshWaste]

@[simp] theorem State.drainLink_bay : s.drainLink.bay = s.bay.cover := by simp [State.drainLink]

end

end Sys2Proof.Machine
end

section
/-!
SUPPORT. What a step may do to the bay (`Tends`): every operation and every reaction lets the marks of the chips grow alone and keeps
the flags of the waste cartridge the ones of R35 and R50 (`State.settle_tends`).
-/

namespace Sys2Proof.Machine

/-! ### Marks that grow, flags that stay current -/

/-- A chip that stands at the position stood there before, and every mark that it had it has. -/
def Chips.KeepMarks (x y : Chips) (pos : LinkPos) : Prop :=
  ∀ m', (y.at pos).map Chip.marks = some m' →
    ∃ m, (x.at pos).map Chip.marks = some m ∧ ∀ i, m.getLsbD i = true → m'.getLsbD i = true

theorem Chips.KeepMarks.refl (x : Chips) (pos : LinkPos) : x.KeepMarks x pos := fun m h => ⟨m, h, fun _ => id⟩

theorem Chips.KeepMarks.trans {x y z : Chips} {pos : LinkPos} (h : x.KeepMarks y pos) (k : y.KeepMarks z pos) :
    x.KeepMarks z pos := fun m'' hz => by
  obtain ⟨m', hy, grows'⟩ := k m'' hz
  obtain ⟨m, hx, grows⟩ := h m' hy
  exact ⟨m, hx, fun i hi => grows' i (grows i hi)⟩

/-- From one state to another the chips at the positions of `P` keep their marks, and the flags of the cartridge stay current. -/
structure Tends (P : LinkPos → Prop) (s t : State) : Prop where
  marks : ∀ pos, P pos → s.chips.KeepMarks t.chips pos
  flags : s.bay.Current → t.bay.Current

namespace Tends
variable {P : LinkPos → Prop} {s t u : State}

/-- The chips are left alone. -/
theorem of_chips (hc : t.chips = s.chips) (h : s.bay.Current → t.bay.Current) : Tends P s t :=
  ⟨fun pos _ => hc ▸ .refl _ pos, h⟩

@[simp] theorem of_bay (h : t.bay = s.bay) : Tends P s t := of_chips (congrArg Bay.chips h) fun hs => h ▸ hs

theorem refl (s : State) : Tends P s s := of_bay rfl

theorem trans (h : Tends P s t) (k : Tends P t u) : Tends P s u :=
  ⟨fun pos hp => (h.marks pos hp).trans (k.marks pos hp), k.flags ∘ h.flags⟩

/-- A state with the same bay is as good to go on from. -/
theorem from_bay {s' : State} (h : Tends P s' t) (hs : s'.bay = s.bay) : Tends P s t := (of_bay hs).trans h

theorem when (b : Bool) {f : State → State} (h : Tends P s (f s)) : Tends P s (s.when b f) := by
  cases b
  · exact refl s
  · exact h

/-- R35: another volume is reserved, and the uncovered flag is recomputed. -/
theorem of_cover (n : Nat) (h : t.bay = { s.bay with wr := n }.cover) : Tends P s t := by
  refine of_chips (congrArg Bay.chips h) fun hs => ?_
  rw [h]
  exact (show Bay.Filled { s.bay with wr := n } from hs.2).cover

/-- R35, R50: both flags are recomputed. -/
theorem of_refresh {b : Bay} (hc : b.chips = s.chips) (h : t.bay = b.fill.cover) : Tends P s t :=
  of_chips ((congrArg Bay.chips h).trans hc) fun _ => h ▸ b.current_cover_fill

/-- R35: the uncovered flag is recomputed for a cartridge that is neither READY nor FULL and has no near-full flag. -/
theorem of_unidentified {b : Bay} (hc : b.chips = s.chips) (hi : b.waste.identified = false) (hn : b.waste.nearFull = false)
    (h : t.bay = b.cover) : Tends P s t :=
  of_chips ((congrArg Bay.chips h).trans hc) fun _ => h ▸ (Bay.filled_of_not_identified hi hn).cover

end Tends

variable {P : LinkPos → Prop}

section
variable (s : State)

/-! ### Parts and items -/

theorem State.reserveService_tends (w : Work) : Tends P s (s.reserveService w) := by
  refine .of_cover (s.ledger.wr + s.wasteNeed w) ?_
  simp only [State.reserveService, State.refreshUncovered_bay, State.setLedger_bay, State.ledgerOp_bay, State.ledgerOp_ledger]
  rfl

theorem State.releaseParts_tends : Tends P s s.releaseParts := by
  refine .of_cover (s.ledger.wr - (Channel.all.map fun c => s.ledger.spitPart.get c + s.ledger.suctionPart.get c).sum) ?_
  simp only [State.releaseParts, State.refreshUncovered_bay, State.setLedger_bay, State.ledgerOp_bay, State.ledgerOp_ledger]
  rfl

theorem State.settleSpit_tends (m : Three Bool) (pairs : List (Nat × Nat)) : Tends P s (s.settleSpit m pairs) := by
  unfold State.settleSpit
  refine .of_refresh ?_ (State.refreshWaste_bay _)
  exact congrArg Bay.chips (s.ledgerOp_bay _)

theorem State.settleSuction_tends (h : Head) (level : Nat) (release : Bool) : Tends P s (s.settleSuction h level release) := by
  unfold State.settleSuction
  refine .of_refresh ?_ (State.refreshWaste_bay _)
  exact congrArg Bay.chips (s.ledgerOp_bay _)

theorem State.giveBack_tends : Tends P s s.giveBack := by
  unfold State.giveBack
  split
  · exact .refl s
  · exact s.releaseParts_tends.trans (.of_bay (by simp))

theorem tryItems_tends (l : List Item) : Tends P s (tryItems l s) := by
  induction l generalizing s with
  | nil => exact .refl s
  | cons i rest ih =>
    unfold tryItems
    split
    · exact .of_bay (s.startItem_bay i)
    · split
      · exact (s.reserveService_tends i.work).trans (.of_bay (State.startItem_bay _ i))
      · exact (ih _).from_bay (s.passOver_bay i)

theorem State.enterFault_tends (w : StationCause) : Tends P s (s.enterFault w) :=
  (State.giveBack_tends _).from_bay (by simp)

theorem State.orderTimesOut_tends : Tends P s s.orderTimesOut := by
  unfold State.orderTimesOut
  exact .trans (.trans (.of_bay (by simp)) (.when _ (State.giveBack_tends _))) (.when _ (State.enterFault_tends _ _))

theorem State.endSuction_tends (r : SuctionRun) : Tends P s (s.endSuction r) := by
  have settled : Tends P s ((s.setPump .free).settleSuction r.head r.level (!r.orphan)) :=
    (State.settleSuction_tends _ _ _ _).from_bay (s.setPump_bay .free)
  unfold State.endSuction
  dsimp only
  split <;> exact settled.trans (.of_bay (by simp))

/-! ### The cartridge -/

theorem State.wasteArrives_tends : Tends P s s.wasteArrives :=
  .of_unidentified (b := { s.bay with waste := { WasteRec.cleared with state := .identifying } }) rfl rfl rfl
    (by simp [State.wasteArrives])

theorem State.wasteLeaves_tends : Tends P s s.wasteLeaves :=
  .of_unidentified (b := { s.bay with waste := WasteRec.cleared, wa := 0 }) rfl rfl rfl (by simp [State.wasteLeaves])

theorem State.faultPosition_tends (pos : LinkPos) : Tends P s (s.faultPosition pos) := by
  cases pos with
  | slot k => exact .of_bay (by simp [State.faultPosition])
  | waste =>
    exact .of_unidentified (b := { s.bay with waste := { s.supply.waste with state := .faulted, nearFull := false } }) rfl rfl
      rfl (by simp [State.faultPosition])

theorem State.applyWaste_tends (i : Identity) (m : BitVec 128) : Tends P s (s.applyWaste i m) := by
  have refused : Tends P s
      (((s.setWaste { WasteRec.cleared with state := .refused }).raise .tankRefused).refreshUncovered).wasteMoved :=
    .of_unidentified (b := { s.bay with waste := { WasteRec.cleared with state := .refused } }) rfl rfl rfl (by simp)
  unfold State.applyWaste
  split
  · next cap n _ _ =>
    split
    · exact refused
    · exact .of_refresh (b := { s.bay with
        waste := { WasteRec.cleared with state := .ready, wcap := cap, marks := n }
        wa := n * cap / Config.marksFull }) rfl (by simp)
  · exact refused

theorem State.applyIdentity_tends (pos : LinkPos) (i : Identity) (m : BitVec 128) : Tends P s (s.applyIdentity pos i m) := by
  cases pos with
  | slot k => exact .of_bay (s.applyTank_bay k i m)
  | waste => exact s.applyWaste_tends i m

/-- The near-full flag does not depend on the marks (R50), and the uncovered flag is recomputed (R55). -/
theorem State.confirmMarks_tends (pos : LinkPos) (n : Nat) : Tends P s (s.confirmMarks pos n) := by
  cases pos with
  | slot k => exact .of_bay (by rfl)
  | waste =>
    have confirmed : (s.confirmMarks .waste n).bay = { s.bay with waste := { s.supply.waste with marks := n } }.cover := by
      simp [State.confirmMarks]
    refine .of_chips (congrArg Bay.chips confirmed) fun hs => ?_
    rw [confirmed]
    exact (show Bay.Filled { s.bay with waste := { s.supply.waste with marks := n } } from hs.2).cover

/-! ### The link -/

theorem State.judgeAttempt_tends (j : LinkJob) (m : BitVec 128) : Tends P s (s.judgeAttempt j m) := by
  have faults : Tends P s (s.endJob.faultPosition j.pos) := (State.faultPosition_tends _ _).from_bay s.endJob_bay
  unfold State.judgeAttempt
  dsimp only
  repeat' split
  · exact faults
  · exact faults
  · exact (State.confirmMarks_tends _ _ _).from_bay (by simp)
  · exact faults
  · exact .of_bay (by simp)

theorem State.takeAnswer_tends (j : LinkJob) (r : LinkRun) (a : LinkAnswer) : Tends P s (s.takeAnswer j r a) := by
  unfold State.takeAnswer
  split
  · split <;> simp
  · split
    case h_4 =>
      split
      · exact (State.applyIdentity_tends _ _ _ _).from_bay s.endJob_bay
      · exact .of_bay s.endJob_bay
      · exact s.judgeAttempt_tends j _
    all_goals simp

theorem State.drainLink_tends : Tends P s s.drainLink := .of_cover s.ledger.wr s.drainLink_bay

theorem State.afterTransaction_tends : Tends P s s.afterTransaction := .when _ s.drainLink_tends

theorem State.busyTimesOut_tends (j : LinkJob) (r : LinkRun) : Tends P s (s.busyTimesOut j r) := by
  unfold State.busyTimesOut
  split
  · exact (State.afterTransaction_tends _).from_bay (s.endRemapped_bay j)
  split
  · exact ((State.faultPosition_tends _ _).from_bay s.endJob_bay).trans (State.afterTransaction_tends _)
  · exact (State.afterTransaction_tends _).from_bay (by simp)

theorem State.startJob_bay (j : LinkJob) : (s.startJob j).bay = s.bay := by
  unfold State.startJob
  repeat' split
  all_goals simp

end

section
variable {s t : State}

theorem State.waitTimesOut_tends (h : s.waitTimesOut = some t) : Tends P s t := by
  unfold State.waitTimesOut at h
  repeat' split at h
  all_goals cases h
  exact s.busyTimesOut_tends _ _

theorem State.answerTimesOut_tends (h : s.answerTimesOut = some t) : Tends P s t := by
  unfold State.answerTimesOut at h
  repeat' split at h
  all_goals cases h
  exact s.busyTimesOut_tends _ _

/-! ### Reactions -/

theorem State.thresholds_bay (h : s.thresholds = some t) : t.bay = s.bay := by
  unfold State.thresholds at h
  repeat' split at h
  all_goals cases h
  all_goals simp

theorem State.withdrawStep_bay (h : s.withdrawStep = some t) : t.bay = s.bay := by
  unfold State.withdrawStep at h
  repeat' split at h
  all_goals cases h
  rfl

theorem State.passStep_bay (h : s.passStep = some t) : t.bay = s.bay := by
  unfold State.passStep at h
  dsimp only at h
  repeat' split at h
  all_goals cases h
  all_goals simp

theorem State.sheetStep_bay (h : s.sheetStep = some t) : t.bay = s.bay := by
  unfold State.sheetStep at h
  split at h
  · cases h
    rfl
  · split at h
    · cases h
      exact s.removeSheet_bay _ _
    · obtain ⟨x, -, rfl⟩ := Option.map_eq_some_iff.1 h
      unfold State.dryEnds
      split <;> simp

theorem State.examine_bay (h : s.examine = some t) : t.bay = s.bay := by
  unfold State.examine at h
  split at h
  · obtain rfl := Option.some.inj h
    repeat' split
    all_goals simp
  · cases h

theorem State.rollsChanged_bay (h : s.rollsChanged = some t) : t.bay = s.bay := by
  unfold State.rollsChanged at h
  split at h
  · cases h
  · obtain rfl := Option.some.inj h
    repeat' split
    all_goals simp

theorem State.askLoading_bay {x : Sheet} (h : s.askLoading x = some t) : t.bay = s.bay := by
  unfold State.askLoading at h
  repeat' split at h
  all_goals cases h
  all_goals simp

theorem State.askCutting_bay {x : Sheet} (h : s.askCutting x = some t) : t.bay = s.bay := by
  unfold State.askCutting at h
  repeat' split at h
  all_goals cases h
  all_goals simp

theorem State.sheetAsks_bay (h : s.sheetAsks = some t) : t.bay = s.bay := by
  have loading : ∀ {a : Sheet}, (if a.state == .loading then s.askLoading a else none) = some t → t.bay = s.bay := by
    intro a e
    split at e
    · exact State.askLoading_bay e
    · cases e
  unfold State.sheetAsks at h
  split at h
  · split at h
    · next cuts => cases h; exact State.askCutting_bay cuts
    · split at h
      · cases h
      · exact loading h
  · split at h
    · cases h
    · exact loading h

theorem State.advanceStep_bay (h : s.advanceStep = some t) : t.bay = s.bay := by
  unfold State.advanceStep at h
  repeat' split at h
  all_goals cases h
  simp

theorem State.sessionStep_bay (h : s.sessionStep = some t) : t.bay = s.bay := by
  obtain ⟨c, -, hc⟩ := List.exists_of_findSome?_eq_some h
  exact State.sessionReacts_bay hc

theorem State.pumpArbiter_bay (h : s.pumpArbiter = some t) : t.bay = s.bay := by
  unfold State.pumpArbiter at h
  split at h
  · cases h
  · cases h
  · split at h
    · cases h
      rfl
    · obtain ⟨c, -, rfl⟩ := Option.map_eq_some_iff.1 h
      exact s.serveCandidate_bay c

theorem State.serviceArbiter_tends (h : s.serviceArbiter = some t) : Tends P s t := by
  unfold State.serviceArbiter at h
  split at h
  · obtain rfl := Option.some.inj h
    dsimp only
    split
    · exact (tryItems_tends _ _).from_bay (s.setDue_bay _)
    · exact .of_bay (s.setDue_bay _)
  · cases h

theorem State.strokeStep_tends (h : s.strokeStep = some t) : Tends P s t := by
  obtain ⟨e, -, ha | ⟨-, rfl⟩⟩ := State.strokeStep_cases h
  · exact State.serviceArbiter_tends ha
  · exact .of_bay (by simp)

theorem State.bringParked_bay (h : s.bringParked = some t) : t.bay = s.bay := by
  unfold State.bringParked at h
  split at h
  · cases h; exact s.placePark_bay _
  · cases h

theorem State.bringMove_bay {mv : State → State} (hm : (mv s).bay = s.bay) (h : s.bringMove mv = some t) : t.bay = s.bay := by
  unfold State.bringMove at h
  split at h
  · cases h; exact hm
  · exact State.bringParked_bay h

theorem State.placeStageOrder_bay {w : Work} {k : OrderKind} {n : Nat} (h : s.placeStageOrder w k n = some t) :
    t.bay = s.bay := by
  unfold State.placeStageOrder at h
  split at h
  · split at h
    · cases h; exact s.placeOrder_bay _ _ _ _
    · cases h
  · exact State.bringMove_bay s.startUncap_bay h
  all_goals cases h

theorem State.doStage_bay {w : Work} {g : Stage} (h : s.doStage w g = some t) : t.bay = s.bay := by
  unfold State.doStage at h
  split at h
  case h_1 =>
    split at h
    · cases h; exact s.endStage_bay
    · exact State.bringParked_bay h
  case h_2 =>
    split at h
    · cases h; exact s.endStage_bay
    · exact State.bringMove_bay s.startCap_bay h
    all_goals cases h
  case h_3 =>
    split at h
    · cases h; exact s.endStage_bay
    · exact State.bringMove_bay s.startUncap_bay h
    all_goals cases h
  case h_4 =>
    split at h
    · exact State.bringMove_bay s.startWipe_bay h
    · exact State.bringMove_bay s.startUncap_bay h
    all_goals cases h
  case h_5 =>
    split at h
    · split at h
      · cases h
      · obtain rfl := Option.some.inj h
        exact s.askSuction_bay _ _
    · exact State.bringMove_bay s.startCap_bay h
    · cases h
  case h_6 => exact State.placeStageOrder_bay h
  case h_7 => exact State.placeStageOrder_bay h

theorem State.driveStage_bay (h : s.driveStage = some t) : t.bay = s.bay := by
  unfold State.driveStage at h
  split at h
  · cases h
  · split at h
    · cases h
    · split at h
      · exact State.doStage_bay h
      · cases h

theorem State.capDueActs_bay (h : s.capDueActs = some t) : t.bay = s.bay := by
  unfold State.capDueActs at h
  repeat' split at h
  all_goals cases h
  all_goals simp

theorem State.uncapForTicket_bay (h : s.uncapForTicket = some t) : t.bay = s.bay := by
  unfold State.uncapForTicket at h
  split at h
  · cases h; exact s.startUncap_bay
  · cases h

theorem State.grantStep_bay (h : s.grantStep = some t) : t.bay = s.bay := by
  unfold State.grantStep at h
  repeat' split at h
  all_goals cases h
  rfl

theorem State.startLink_tends (h : s.startLink = some t) : Tends P s t := by
  unfold State.startLink at h
  split at h
  · cases h
  · split at h
    · obtain rfl := Option.some.inj h
      exact s.drainLink_tends
    · split at h
      · cases h
      · obtain ⟨j, -, rfl⟩ := Option.map_eq_some_iff.1 h
        exact .of_bay (s.startJob_bay j)

theorem reactions_tends {f : State → Option State} (hf : f ∈ reactions) (h : f s = some t) : Tends P s t := by
  simp only [reactions, List.mem_cons, List.not_mem_nil, or_false] at hf
  rcases hf with rfl | rfl | rfl | rfl | rfl | rfl | rfl | rfl | rfl | rfl | rfl | rfl | rfl | rfl | rfl | rfl | rfl
  · exact .of_bay (State.thresholds_bay h)
  · exact .of_bay (State.withdrawStep_bay h)
  · exact .of_bay (State.passStep_bay h)
  · exact .of_bay (State.sheetStep_bay h)
  · exact .of_bay (State.examine_bay h)
  · exact .of_bay (State.rollsChanged_bay h)
  · exact .of_bay (State.sheetAsks_bay h)
  · exact .of_bay (State.advanceStep_bay h)
  · exact .of_bay (State.sessionStep_bay h)
  · exact State.strokeStep_tends h
  · exact .of_bay (State.pumpArbiter_bay h)
  · exact State.serviceArbiter_tends h
  · exact .of_bay (State.driveStage_bay h)
  · exact .of_bay (State.capDueActs_bay h)
  · exact .of_bay (State.uncapForTicket_bay h)
  · exact .of_bay (State.grantStep_bay h)
  · exact State.startLink_tends h

theorem follow_tends (n : Nat) (s : State) : Tends P s (follow n s) := by
  induction n generalizing s with
  | zero => exact .refl s
  | succ n ih =>
    unfold follow
    split
    · exact .refl s
    · next t h =>
      obtain ⟨f, hf, hs⟩ := List.exists_of_findSome?_eq_some h
      exact (reactions_tends hf hs).trans (ih t)

theorem State.settle_tends (s : State) : Tends P s s.settle :=
  (follow_tends _ s).trans (.when _ (.of_bay (State.loadIdleSleep_bay _)))

/-- What the reactions make of a state that has been reached. -/
theorem Tends.settle (h : Tends P s t) : Tends P s t.settle := h.trans t.settle_tends

/-- What the reactions make of a state with the same bay. -/
@[simp] theorem Tends.settle_bay (h : t.bay = s.bay) : Tends P s t.settle := (Tends.of_bay h).settle

theorem State.wake_tends (s : State) : Tends P s s.wake := by
  unfold State.wake
  split
  · exact .settle_bay s.enterRun_bay
  · exact .refl s

end

end Sys2Proof.Machine
end

section
/-!
SUPPORT. The chips at the positions, what a transaction does to their marks (R51), and that what the owning rules decide and the
resets let these marks grow alone and keep the flags of the waste cartridge (`Tends`).
-/

namespace Sys2Proof.Machine

/-! ### The chips at the positions (R51) -/

@[simp] theorem Chips.at_put_same (x : Chips) (pos : LinkPos) (c : Option Chip) : (x.put pos c).at pos = c := by
  cases pos <;> simp [Chips.put, Chips.at]

@[simp] theorem Chips.at_put_other (x : Chips) {pos q : LinkPos} (c : Option Chip) (h : q ≠ pos) :
    (x.put pos c).at q = x.at q := by
  cases pos <;> cases q <;> simp_all [Chips.put, Chips.at]

/-- A MARK command sets a mark and clears none. -/
theorem setLowestClear_keeps {m : BitVec 128} {i : Nat} (h : m.getLsbD i = true) : (setLowestClear m).getLsbD i = true := by
  simp [setLowestClear, h]

theorem chipRespond_keeps (c : Chip) (cmd : ChipCommand) {i : Nat} (h : c.marks.getLsbD i = true) :
    (chipRespond c cmd).1.marks.getLsbD i = true := by
  unfold chipRespond
  repeat' split
  case h_4.isTrue => exact setLowestClear_keeps h
  all_goals exact h

theorem chipTick_marks (c : Chip) : (chipTick c).marks = c.marks := by
  unfold chipTick
  split <;> rfl

namespace Chips.KeepMarks
variable (x : Chips)

/-- A chip is put at another position. -/
theorem put_other {pos q : LinkPos} (c : Option Chip) (h : q ≠ pos) : x.KeepMarks (x.put pos c) q := fun m' e =>
  ⟨m', by rwa [Chips.at_put_other x c h] at e, fun _ => id⟩

/-- A chip is removed. -/
theorem put_none (pos q : LinkPos) : x.KeepMarks (x.put pos none) q := by
  by_cases h : q = pos
  · subst h
    intro m' e
    simp at e
  · exact put_other x none h

/-- A chip that stands takes a command. -/
theorem put_respond {pos : LinkPos} {c : Chip} (hc : x.at pos = some c) (cmd : ChipCommand) (q : LinkPos) :
    x.KeepMarks (x.put pos (some (chipRespond c cmd).1)) q := by
  by_cases h : q = pos
  · subst h
    intro m' e
    refine ⟨c.marks, by simp [hc], fun i hi => ?_⟩
    obtain rfl : (chipRespond c cmd).1.marks = m' := by simpa using e
    exact chipRespond_keeps c cmd hi
  · exact put_other x _ h

/-- A transaction of the link. -/
theorem transact (pos : LinkPos) (cmd : ChipCommand) (d : LinkDelivery) (q : LinkPos) :
    x.KeepMarks (x.transact pos cmd d).1 q := by
  unfold Chips.transact
  split
  · exact .refl x q
  · next hc => exact put_respond x hc cmd q
  · exact .refl x q
  · next hc =>
    dsimp only
    split
    · exact put_respond x hc cmd q
    · exact .refl x q

end Chips.KeepMarks

variable {P : LinkPos → Prop}

theorem State.setChips_tends (s : State) {x : Chips} (h : ∀ pos, P pos → s.chips.KeepMarks x pos) : Tends P s (s.setChips x) :=
  ⟨h, id⟩

theorem State.countChips_tends (s : State) : Tends P s s.countChips := by
  refine s.setChips_tends fun pos _ m' e => ⟨m', ?_, fun _ => id⟩
  cases pos <;> simpa [Chips.at, Function.comp_def, chipTick_marks] using e

theorem State.linkAnswers_tends {s t : State} {d : LinkDelivery} (h : s.linkAnswers d = some t) : Tends P s t := by
  unfold State.linkAnswers at h
  split at h
  · next j r _ _ =>
    obtain rfl := Option.some.inj h
    generalize (if r.waiting then ChipCommand.chipState else r.cmd) = cmd
    refine .trans (s.setChips_tends fun pos _ => .transact s.chips j.pos cmd d pos) ?_
    split
    · exact .refl _
    · split
      · exact .refl _
      · split
        · exact (State.afterTransaction_tends _).from_bay (State.endRemapped_bay _ _)
        · exact (State.takeAnswer_tends _ _ _ _).trans (State.afterTransaction_tends _)
  · cases h

/-! ### The frames of the commands -/

section
variable {s t : State}

theorem State.takeWrite_tends (p : Port) (cmd : Command) (n : Nat) {d : State → Answer} (h : Tends P s (d s).after) :
    Tends P s (s.takeWrite p cmd n d) := by
  unfold State.takeWrite
  split
  · exact .refl s
  · split
    · exact (State.wake_tends _).from_bay (s.replied_bay s p cmd.code .notThisPort 0 n)
    · split
      · exact (State.wake_tends _).from_bay (s.replied_bay s p cmd.code .asleep 0 n)
      · exact h.trans (.of_bay (State.replied_bay _ _ _ _ _ _ _))

theorem State.takeRead_tends (s : State) (p : Port) (cmd : Command) (bits : Nat) (data : List Byte) :
    Tends P s (s.takeRead p cmd bits data id) := by
  unfold State.takeRead
  split
  · exact .refl s
  · split
    · exact (State.wake_tends _).from_bay (s.modPort_bay p _)
    · split
      · exact (State.wake_tends _).from_bay (s.modPort_bay p _)
      · exact .of_bay (s.modPort_bay p _)

theorem State.takePart_tends (s : State) (p : Port) (cmd : Command) (c : Clocks) (data : List Byte)
    (act : PortRec → PortRec) : Tends P s (s.takePart p cmd c data act) := by
  unfold State.takePart
  dsimp only
  split
  · exact .refl s
  · split
    · exact (Tends.when _ (State.wake_tends _)).from_bay (s.modPort_bay p _)
    · exact (Tends.when _ (State.wake_tends _)).from_bay (s.modPort_bay p _)

theorem State.discard_tends (s : State) (p : Port) (bits : Nat) : Tends P s (s.discard p bits) := by
  unfold State.discard
  split
  · exact .refl s
  · exact (State.wake_tends _).from_bay (by rfl)

/-- A sensor change sets its pins, with the chip that it brings or takes away, and acts unless the line is held. -/
theorem State.sensed_tends {act : State → State} (hs : Tends P s t) (h : Tends P t (act t)) : Tends P s (t.sensed act) := by
  unfold State.sensed
  split
  · exact hs
  · exact hs.trans h

theorem State.sensedSome_tends {act : State → Option State} (hs : t.bay = s.bay) (h : ∀ u, act t = some u → Tends P t u) :
    Tends P s (t.sensedSome act) := by
  refine State.sensed_tends (.of_bay hs) ?_
  cases hu : act t with
  | none => exact .refl t
  | some u => exact (h u hu).settle

theorem State.sensedAwake_tends {act : State → State} (hs : Tends P s t) (h : ∀ u, Tends P u (act u)) :
    Tends P s (t.sensedAwake act) := State.sensed_tends hs (t.wake_tends.trans (h _)).settle

end

section
variable (s : State)

/-! ### What the owning rules decide -/

theorem decideTableSel_tends (p : Port) (table place : Nat) : Tends P s (decideTableSel p table place s).after := by
  unfold decideTableSel
  repeat' split
  all_goals simp [Answer.refuse]

theorem decideSheetOpen_tends (pref media width planned top bottom dry mode : Nat) :
    Tends P s (decideSheetOpen pref media width planned top bottom dry mode s).after := by
  unfold decideSheetOpen
  repeat' split
  all_goals simp [Answer.refuse]

theorem decideSheetClose_tends (id final : Nat) : Tends P s (decideSheetClose id final s).after := by
  unfold decideSheetClose
  repeat' split
  all_goals simp [Answer.refuse, Answer.accept]

theorem decideSheetCancel_tends (id : Nat) : Tends P s (decideSheetCancel id s).after := by
  unfold decideSheetCancel
  repeat' split
  all_goals simp [Answer.refuse, Answer.accept]

theorem decideSwathAsk_tends (sheet index advance count : Nat) (pairs : List (Nat × Nat)) :
    Tends P s (decideSwathAsk sheet index advance count pairs s).after := by
  unfold decideSwathAsk
  dsimp only
  repeat' split
  all_goals simp [Answer.refuse]

theorem decideSwathWithdraw_tends (n : Nat) : Tends P s (decideSwathWithdraw n s).after := by
  unfold decideSwathWithdraw
  repeat' split
  all_goals simp [Answer.refuse, Answer.accept]

theorem decideSwathTake_tends (n : Nat) : Tends P s (decideSwathTake n s).after := by
  unfold decideSwathTake
  repeat' split
  all_goals simp [Answer.refuse, Answer.accept]

theorem decideSwathDone_tends (n count : Nat) (pairs : List (Nat × Nat)) :
    Tends P s (decideSwathDone n count pairs s).after := by
  unfold decideSwathDone
  repeat' split
  all_goals simp [Answer.refuse, Answer.accept]

theorem State.reportAway_tends : Tends P s s.reportAway := by
  unfold State.reportAway
  dsimp only
  split
  · exact .of_bay (s.setStation_bay _)
  · exact .of_bay (s.setStation_bay _)
  all_goals exact (State.enterFault_tends _ _).from_bay (s.setStation_bay _)

theorem decideParkState_tends (code : Nat) : Tends P s (decideParkState code s).after := by
  unfold decideParkState
  split
  · exact .refl s
  · exact .settle_bay (by simp [State.reportParked])
  · exact s.reportAway_tends.settle

theorem decideOrderDone_tends (kind count : Nat) (pairs : List (Nat × Nat)) (reports : List CheckReport) :
    Tends P s (decideOrderDone kind count pairs reports s).after := by
  have spit : Tends P s (s.spitDone pairs) := (s.settleSpit_tends s.station.order.mask pairs).trans (.of_bay (by simp [State.spitDone]))
  have check : (s.checkDone reports).bay = s.bay := by simp [State.checkDone]
  unfold decideOrderDone
  split
  · exact .refl s
  split
  · unfold decideSpitDone
    split
    · exact .refl s
    split
    · exact .refl s
    split
    · exact .refl s
    exact spit.settle
  · unfold decideCheckDone
    repeat' split
    all_goals simp [Answer.refuse, Answer.accept, check]

theorem decideGo_tends : Tends P s (decideGo s).after := by
  unfold decideGo
  split <;> simp [Answer.refuse, Answer.accept, State.goRun]

theorem decideSleepNow_tends : Tends P s (decideSleepNow s).after := by
  unfold decideSleepNow
  split <;> simp [Answer.refuse, Answer.accept]

/-- A parameter other than the near-full threshold leaves it. -/
theorem Params.put_nearFull (p : Params) {n : Nat} (v : Nat) (h : n ≠ 16) : (p.put n v).nearFull = p.nearFull := by
  unfold Params.put
  split <;> simp_all

theorem State.setParams_bay (p : Params) : (s.setParams p).bay = { s.bay with threshold := p.nearFull } := by rfl

/-- A new near-full threshold has the near-full flag recomputed; any other parameter leaves the bay (R183). -/
theorem State.applyParam_tends (n v : Nat) : Tends P s (s.applyParam n v) := by
  unfold State.applyParam
  split
  · exact .refl s
  · by_cases h : n = 16
    · subst h
      have refreshed : ((s.setParams (s.params.put 16 v)).paramActs 16).bay =
          { s.bay with threshold := (s.params.put 16 v).nearFull }.fill := State.refreshFull_bay _
      refine .of_chips (congrArg Bay.chips refreshed) fun hs => ?_
      rw [refreshed]
      exact ⟨by rw [Bay.fill, WasteRec.judged_coverage]; exact hs.1, Bay.filled_fill _⟩
    · have same : (s.setParams (s.params.put n v)).bay = s.bay := by
        rw [State.setParams_bay, s.params.put_nearFull v h]
        rfl
      refine Tends.from_bay ?_ same
      unfold State.paramActs
      split
      case h_8 => exact absurd rfl h
      case h_3 | h_4 => exact State.settle_tends _
      all_goals simp

theorem decideConfigSet_tends (n mask v : Nat) : Tends P s (decideConfigSet n mask v s).after := by
  unfold decideConfigSet decideDv
  repeat' split
  case isFalse.isFalse.isFalse.isFalse.isFalse => exact s.applyParam_tends _ _
  all_goals simp [Answer.refuse]

theorem decideSlotMapSet_tends (entries : Eight Nat) : Tends P s (decideSlotMapSet entries s).after := by
  unfold decideSlotMapSet
  repeat' split
  all_goals simp [Answer.refuse, Answer.accept]

theorem decideTankAccept_tends (slot ml : Nat) : Tends P s (decideTankAccept slot ml s).after := by
  unfold decideTankAccept
  repeat' split
  all_goals simp [Answer.refuse, Answer.accept]

theorem decideLevelRestore_tends (channel level : Nat) : Tends P s (decideLevelRestore channel level s).after := by
  unfold decideLevelRestore
  repeat' split
  all_goals simp [Answer.refuse]

theorem decideRetiredRestore_tends (channel count : Nat) (indices : List Nat) :
    Tends P s (decideRetiredRestore channel count indices s).after := by
  unfold decideRetiredRestore
  repeat' split
  all_goals simp [Answer.refuse, Answer.accept]

theorem decideRollLoad_tends (roll media width length : Nat) : Tends P s (decideRollLoad roll media width length s).after := by
  unfold decideRollLoad
  repeat' split
  all_goals simp [Answer.refuse, Answer.accept, State.describeRoll]

theorem decideCleanAsk_tends (mask level urgency : Nat) : Tends P s (decideCleanAsk mask level urgency s).after := by
  have cleans (m : Three Bool) (u : Urgency) : (s.panelCleans m level u).bay = s.bay := by simp [State.panelCleans]
  unfold decideCleanAsk
  repeat' split
  all_goals simp [Answer.refuse, Answer.accept, cleans]

theorem decideFeedClear_tends : Tends P s (decideFeedClear s).after := by
  unfold decideFeedClear
  dsimp only
  repeat' split
  all_goals simp [Answer.refuse, Answer.accept]

theorem decideStationClear_tends (park : ParkState) : Tends P s (decideStationClear park s).after := by
  unfold decideStationClear
  dsimp only
  repeat' split
  all_goals simp [Answer.refuse, Answer.accept, State.stationCleared]

/-! ### Resets -/

/-- R178: the ledger and the cartridge as power-on sets them. -/
theorem State.powerUp_tends (why : ResetCause) (park : ParkState) : Tends P s (s.powerUp why park) := by
  refine .settle (.of_chips (congrArg Bay.chips (State.raiseSurveys_bay _ true)) fun _ => ?_)
  rw [State.raiseSurveys_bay]
  have present : (supplyAtPower { s.pins with resetLow := false, parkSwitch := park }).waste.identified = false ∧
      (supplyAtPower { s.pins with resetLow := false, parkSwitch := park }).waste.nearFull = false ∧
      (supplyAtPower { s.pins with resetLow := false, parkSwitch := park }).waste.coverage = 0 := by
    cases h : s.pins.wastePresent <;> simp [supplyAtPower, h, WasteRec.cleared, WasteRec.identified, WasteRec.coverage]
  obtain ⟨unidentified, noFlag, coverage⟩ := present
  refine ⟨?_, Bay.filled_of_not_identified unidentified noFlag⟩
  show false = decide (_ < 0)
  simp

/-- R38: a soft reset recomputes both flags. -/
theorem State.softLedger_tends : Tends P s s.softLedger ∧ s.softLedger.bay.cover = s.softLedger.bay := by
  have refreshed : ∃ u : State, u.chips = s.chips ∧ s.softLedger.bay = u.bay.fill.cover := by
    unfold State.softLedger
    refine ⟨_, ?_, State.refreshWaste_bay _⟩
    show (State.bay _).chips = s.bay.chips
    rw [State.recomputeLevels_bay, State.setLedger_bay, State.ledgerOp_bay]
  obtain ⟨u, hc, h⟩ := refreshed
  exact ⟨.of_refresh hc h, by rw [h]; rfl⟩

/-- R60: where the uncovered flag is computed already, emptying the link's queue leaves it. -/
theorem State.resetLink_bay (h : s.bay.cover = s.bay) : s.resetLink.bay = s.bay := by
  unfold State.resetLink
  split
  · exact s.setLink_bay _
  · rw [State.drainLink_bay, h]

theorem State.softReset_bay (park : ParkState) : (s.softReset park).bay =
    ((s.setPorts (PerPort.const PortRec.reset)).setPins { s.pins with parkSwitch := park }).softLedger.bay := by
  have covered := (((s.setPorts (PerPort.const PortRec.reset)).setPins { s.pins with parkSwitch := park }).softLedger_tends
    (P := fun _ => False)).2
  unfold State.softReset
  dsimp only
  generalize ((s.setPorts (PerPort.const PortRec.reset)).setPins { s.pins with parkSwitch := park }).softLedger = r at covered ⊢
  rw [State.enterRun_bay, State.setMode_bay_same, State.raiseSurveys_bay, State.resetLink_bay]
  · simp
  · simpa using covered
  · rfl

theorem State.softReset_tends (park : ParkState) : Tends P s (s.softReset park) :=
  ((State.softLedger_tends _).1.from_bay (by rfl)).trans (.of_bay (s.softReset_bay park))

end

end Sys2Proof.Machine
end

section
/-!
SUPPORT. The commands of the sensors and timers, the tick, and so every step let the marks of the chips in place grow alone and
keep the flags of the waste cartridge (`exec_tends`, `step_tends`). O59 is settled from them, and so will be the step clause of O40.
-/

namespace Sys2Proof.Machine

/-! ### Sensor changes and timers -/

section
variable {P : LinkPos → Prop} {s t : State}

theorem State.strokeExpires_bay (h : s.strokeExpires = some t) : t.bay = s.bay := by
  unfold State.strokeExpires at h
  split at h
  · cases h; simp
  all_goals cases h

theorem State.suctionExpires_tends (h : s.suctionExpires = some t) : Tends P s t := by
  unfold State.suctionExpires at h
  split at h
  · cases h; exact s.endSuction_tends _
  all_goals cases h

theorem State.paperEnds_bay (h : s.paperEnds = some t) : t.bay = s.bay := by
  unfold State.paperEnds at h
  split at h
  · cases h
  · split at h
    · cases h
    · split at h
      · obtain ⟨o, -, rfl⟩ := Option.map_eq_some_iff.1 h
        exact s.stopAdvance_bay o _
      all_goals cases h
      all_goals simp

theorem State.threadChanges_bay {present : Bool} (h : s.threadChanges present = some t) : t.bay = s.bay := by
  unfold State.threadChanges at h
  split at h
  · repeat' split at h
    all_goals cases h
    all_goals simp
  · split at h
    · cases h
    · obtain ⟨o, -, rfl⟩ := Option.map_eq_some_iff.1 h
      exact s.faultAdvance_bay o _
  · obtain ⟨o, -, rfl⟩ := Option.map_eq_some_iff.1 h
    exact s.proceedSwap_bay o
  all_goals cases h

theorem State.actuatorReports_bay (h : s.actuatorReports = some t) : t.bay = s.bay := by
  unfold State.actuatorReports at h
  split at h
  · cases h; simp
  · cases h

theorem State.cutterReports_bay {home : Bool} (h : s.cutterReports home = some t) : t.bay = s.bay := by
  unfold State.cutterReports at h
  repeat' split at h
  all_goals cases h
  all_goals simp

theorem State.moveEnds_bay (h : s.moveEnds = some t) : t.bay = s.bay := by
  unfold State.moveEnds at h
  split at h
  · cases h; simp
  · cases h

theorem State.watchdogExpires_bay (h : s.watchdogExpires = some t) : t.bay = s.bay := by
  unfold State.watchdogExpires at h
  split at h
  · cases h; simp
  · cases h

theorem State.swapExpires_bay (h : s.swapExpires = some t) : t.bay = s.bay := by
  unfold State.swapExpires at h
  split at h
  · cases h; simp
  · cases h

theorem State.cutExpires_bay (h : s.cutExpires = some t) : t.bay = s.bay := by
  unfold State.cutExpires at h
  split at h
  · cases h; simp
  all_goals cases h

theorem State.capReports_bay {x : CapReading} (h : s.capReports x = some t) : t.bay = s.bay := by
  unfold State.capReports at h
  repeat' split at h
  all_goals cases h
  all_goals simp

theorem State.capMoveExpires_tends (h : s.capMoveExpires = some t) : Tends P s t := by
  unfold State.capMoveExpires at h
  repeat' split at h
  all_goals cases h
  exact s.enterFault_tends _

theorem State.wipeExpires_bay (h : s.wipeExpires = some t) : t.bay = s.bay := by
  unfold State.wipeExpires at h
  repeat' split at h
  all_goals cases h
  simp

theorem State.capDelayExpires_bay (h : s.capDelayExpires = some t) : t.bay = s.bay := by
  unfold State.capDelayExpires at h
  split at h <;> cases h
  rfl

theorem State.exposureReaches_bay {x : Head} {n : Nat} (h : s.exposureReaches x n = some t) : t.bay = s.bay := by
  unfold State.exposureReaches at h
  split at h <;> cases h
  rfl

theorem State.orderExpires_tends (h : s.orderExpires = some t) : Tends P s t := by
  unfold State.orderExpires at h
  split at h <;> cases h
  exact s.orderTimesOut_tends

theorem State.swathExpires_bay (h : s.swathExpires = some t) : t.bay = s.bay := by
  obtain ⟨x, -, rfl⟩ := Option.map_eq_some_iff.1 h
  exact s.loseTicket_bay x

theorem State.dryExpires_bay {id : Nat} (h : s.dryExpires id = some t) : t.bay = s.bay := by
  unfold State.dryExpires at h
  split at h <;> cases h
  rfl

end

/-! ### Commands and steps -/

/-- A chip that is brought to a position leaves the others. -/
theorem State.bringChip_tends (s : State) (x : Pins) (pos : LinkPos) (c : Option Chip) :
    Tends (fun q => q ≠ pos) s ((s.setPins x).setChips (s.chips.put pos c)) :=
  ⟨fun _ h => .put_other _ c h, id⟩

/-- A chip that is removed leaves no marks. -/
theorem State.removeChip_tends {P : LinkPos → Prop} (s : State) (x : Pins) (pos : LinkPos) :
    Tends P s ((s.setPins x).setChips (s.chips.put pos none)) :=
  ⟨fun q _ => .put_none _ pos q, id⟩

theorem Tends.mono {P Q : LinkPos → Prop} {s t : State} (h : Tends P s t) (hq : ∀ pos, Q pos → P pos) : Tends Q s t :=
  ⟨fun pos hp => h.marks pos (hq pos hp), h.flags⟩

/-- Every command lets the marks grow alone where it brings no chip, and keeps the flags of the cartridge. -/
theorem exec_tends {c : Instr} {s t : State} (h : exec c s = .next t) : Tends (fun pos => c.brings pos = false) s t := by
  cases c
  all_goals obtain rfl := Host.Outcome.next.inj h
  case powerOn => exact s.powerUp_tends _ _
  case resetLineAssert => exact .of_bay (by rfl)
  case resetLineRelease =>
    split
    · exact s.powerUp_tends _ _
    · exact .refl s
  case frameError => exact s.discard_tends _ _
  case unknownCommand =>
    split
    · exact .refl s
    · exact (State.wake_tends _).from_bay (State.replied_bay _ _ _ _ _ _ _)
  case getStatus =>
    split
    · exact .refl s
    · exact .of_bay (s.modPort_bay _ _)
  case getReply => exact s.takeRead_tends _ _ _ _
  case getOrder => exact s.takeRead_tends _ _ _ _
  case getEvents => exact s.takePart_tends _ _ _ _ _
  case tableRead => exact s.takePart_tends _ _ _ _ _
  case setEventMask => exact State.takeWrite_tends _ _ _ (.of_bay (s.modPort_bay _ _))
  case tableSel => exact State.takeWrite_tends _ _ _ (decideTableSel_tends s _ _ _)
  case sheetOpen => exact State.takeWrite_tends _ _ _ (decideSheetOpen_tends s _ _ _ _ _ _ _ _)
  case sheetClose => exact State.takeWrite_tends _ _ _ (decideSheetClose_tends s _ _)
  case sheetCancel => exact State.takeWrite_tends _ _ _ (decideSheetCancel_tends s _)
  case swathAsk => exact State.takeWrite_tends _ _ _ (decideSwathAsk_tends s _ _ _ _ _)
  case swathWithdraw => exact State.takeWrite_tends _ _ _ (decideSwathWithdraw_tends s _)
  case swathTake => exact State.takeWrite_tends _ _ _ (decideSwathTake_tends s _)
  case swathDone => exact State.takeWrite_tends _ _ _ (decideSwathDone_tends s _ _ _)
  case parkState => exact State.takeWrite_tends _ _ _ (decideParkState_tends s _)
  case orderDone => exact State.takeWrite_tends _ _ _ (decideOrderDone_tends s _ _ _ _)
  case go => exact State.takeWrite_tends _ _ _ (decideGo_tends s)
  case configSet => exact State.takeWrite_tends _ _ _ (decideConfigSet_tends s _ _ _)
  case configLock => exact State.takeWrite_tends _ _ _ (.of_bay (by rfl))
  case slotMapSet => exact State.takeWrite_tends _ _ _ (decideSlotMapSet_tends s _)
  case tankAccept => exact State.takeWrite_tends _ _ _ (decideTankAccept_tends s _ _)
  case levelRestore => exact State.takeWrite_tends _ _ _ (decideLevelRestore_tends s _ _)
  case retiredRestore => exact State.takeWrite_tends _ _ _ (decideRetiredRestore_tends s _ _ _)
  case rollLoad => exact State.takeWrite_tends _ _ _ (decideRollLoad_tends s _ _ _ _)
  case cleanAsk => exact State.takeWrite_tends _ _ _ (decideCleanAsk_tends s _ _ _)
  case feedClear => exact State.takeWrite_tends _ _ _ (decideFeedClear_tends s)
  case stationClear => exact State.takeWrite_tends _ _ _ (decideStationClear_tends s _)
  case sleepNow => exact State.takeWrite_tends _ _ _ (decideSleepNow_tends s)
  case hubReset park =>
    split
    · exact (s.softReset_tends park).settle.trans (.of_bay (State.modPort_bay _ _ _))
    · exact State.takeWrite_tends _ _ _ (.refl s)
  case probeTrip c wet =>
    refine State.sensedSome_tends (s.setPins_bay _) fun u hu => ?_
    split at hu
    · obtain ⟨r, -, rfl⟩ := Option.map_eq_some_iff.1 hu
      simp
    · cases hu
  case strokeTimerExpiry => exact State.sensedSome_tends rfl fun u hu => .of_bay (State.strokeExpires_bay hu)
  case suctionStageEnd => exact State.sensedSome_tends rfl fun u hu => State.suctionExpires_tends hu
  case slotTankArrival k chip =>
    split
    · exact .refl s
    · refine State.sensedAwake_tends ((s.bringChip_tends _ _ _).mono fun q hq => ?_) fun u => .of_bay (u.tankArrives_bay k)
      rintro rfl
      simp [Instr.brings] at hq
  case slotTankRemoval k =>
    split
    · exact State.sensedAwake_tends (s.removeChip_tends _ _) fun u => .of_bay (u.tankLeaves_bay k)
    · exact .refl s
  case wasteCartridgeArrival chip =>
    split
    · exact .refl s
    · refine State.sensedAwake_tends ((s.bringChip_tends _ _ _).mono fun q hq => ?_) fun u => u.wasteArrives_tends
      rintro rfl
      simp [Instr.brings] at hq
  case wasteCartridgeRemoval =>
    split
    · exact State.sensedAwake_tends (s.removeChip_tends _ _) fun u => u.wasteLeaves_tends
    · exact .refl s
  case linkAnswer => exact State.sensedSome_tends rfl fun u hu => State.linkAnswers_tends hu
  case linkAnswerTimeout => exact State.sensedSome_tends rfl fun u hu => State.answerTimesOut_tends hu
  case busyTimeout => exact State.sensedSome_tends rfl fun u hu => State.waitTimesOut_tends hu
  case rollArrival =>
    split
    · exact .refl s
    · exact State.sensedAwake_tends (.of_bay (by rfl)) fun u => .of_bay (State.reportRolls_bay _ _)
  case rollRemoval =>
    split
    · exact State.sensedAwake_tends (.of_bay (by rfl)) fun u => .of_bay (u.rollLeaves_bay _)
    · exact .refl s
  case paperEnd =>
    refine State.sensedSome_tends (s.setPins_bay _) fun u hu => ?_
    split at hu
    · cases hu
    · exact .of_bay (State.paperEnds_bay hu)
  case threadSensorChange =>
    exact State.sensedSome_tends (s.setPins_bay _) fun u hu => .of_bay (State.threadChanges_bay hu)
  case actuatorPositionReport =>
    exact State.sensedSome_tends (s.setPins_bay _) fun u hu => .of_bay (State.actuatorReports_bay hu)
  case cutterHomeSwitchChange =>
    exact State.sensedSome_tends (s.setPins_bay _) fun u hu => .of_bay (State.cutterReports_bay hu)
  case endOfMove => exact State.sensedSome_tends rfl fun u hu => .of_bay (State.moveEnds_bay hu)
  case advanceWatchdogExpiry => exact State.sensedSome_tends rfl fun u hu => .of_bay (State.watchdogExpires_bay hu)
  case swapTimerExpiry => exact State.sensedSome_tends rfl fun u hu => .of_bay (State.swapExpires_bay hu)
  case cutTimerExpiry => exact State.sensedSome_tends rfl fun u hu => .of_bay (State.cutExpires_bay hu)
  case capSensorReport => exact State.sensedSome_tends (s.setPins_bay _) fun u hu => .of_bay (State.capReports_bay hu)
  case capMoveTimerExpiry => exact State.sensedSome_tends rfl fun u hu => State.capMoveExpires_tends hu
  case wipeTimerExpiry => exact State.sensedSome_tends rfl fun u hu => .of_bay (State.wipeExpires_bay hu)
  case capDelayExpiry => exact State.sensedSome_tends rfl fun u hu => .of_bay (State.capDelayExpires_bay hu)
  case exposureSpitThreshold => exact State.sensedSome_tends rfl fun u hu => .of_bay (State.exposureReaches_bay hu)
  case exposureCleanThreshold => exact State.sensedSome_tends rfl fun u hu => .of_bay (State.exposureReaches_bay hu)
  case orderTimerExpiry => exact State.sensedSome_tends rfl fun u hu => State.orderExpires_tends hu
  case swathTimerExpiry => exact State.sensedSome_tends rfl fun u hu => .of_bay (State.swathExpires_bay hu)
  case dryTimerExpiry => exact State.sensedSome_tends rfl fun u hu => .of_bay (State.dryExpires_bay hu)
  case idleSleepExpiry =>
    refine State.sensed_tends (.refl s) ?_
    split
    · exact .of_bay s.enterSleep_bay
    · exact .refl s
  case idleServiceExpiry =>
    refine State.sensed_tends (.refl s) ?_
    split
    · exact .settle_bay (by simp)
    · exact .refl s

theorem State.countTimers_bay (s : State) : s.countTimers.bay = s.bay := by rfl

/-- A millisecond, or a timer put into the queue. -/
theorem State.tick_tends {P : LinkPos → Prop} (s : State) : Tends P s s.tick := by
  have counted : Tends P s s.countChips := s.countChips_tends
  unfold State.tick
  split
  · exact counted
  · split
    · split
      · exact .of_bay (s.setPending_bay _)
      · exact counted.trans (.of_bay (by rfl))
    · split
      · exact .of_bay (s.setPending_bay _)
      · exact (counted.trans (.of_bay ((State.countTimers_bay _).trans (State.setStation_bay _ _)))).settle

/-- Every step lets the marks grow alone where it brings no chip, and keeps the flags of the cartridge. -/
theorem step_tends {s t : State} (h : step s = .next t) :
    Tends (fun pos => ∀ c, s.pending.head? = some c → c.brings pos = false) s t := by
  unfold step at h
  split at h
  · obtain rfl := Host.Outcome.next.inj h
    exact s.tick_tends
  · next c rest pending =>
    refine ((exec_tends h).from_bay (s.setPending_bay rest)).mono fun pos hpos => hpos c ?_
    rw [pending]
    rfl

/-- Settles O59: each operation lets the marks of a chip in place grow alone, and a step is made of such operations. -/
theorem stepsNeverClearMarks : Obligations.StepsNeverClearMarks := by
  intro s t pos m hstep before stays
  cases after : t.marksAt pos with
  | none => exact .inl rfl
  | some m' =>
    obtain ⟨m₀, was, grows⟩ := (step_tends hstep).marks pos stays m' after
    obtain rfl : m₀ = m := Option.some.inj (was.symm.trans before)
    exact .inr ⟨m', rfl, grows⟩

end Sys2Proof.Machine
end

section
/-!
SUPPORT. The count of a map's marks (R43); what the recomputation of the cartridge's flags leaves and raises (R35, R50); the tests on
the cartridge's chip (R49). O40 is settled from them and from `step_tends`.
-/

namespace Sys2Proof.Machine

/-! ### The marks of a map -/

/-- R43: a map has n marks where its set marks are the lowest n. -/
theorem markCount_eq_some_iff {m : BitVec 128} {n : Nat} : markCount m = some n ↔ n ≤ 128 ∧ m.toNat + 1 = 2 ^ n := by
  have log (h : m.toNat + 1 = 2 ^ n) : Nat.log2 (m.toNat + 1) = n := by rw [h, Nat.log2_two_pow]
  unfold markCount
  dsimp only
  constructor
  · intro h
    split at h
    · next contiguous =>
      obtain rfl := Option.some.inj h
      exact ⟨(Nat.pow_le_pow_iff_right (by decide)).1 (contiguous ▸ m.isLt : 2 ^ _ ≤ 2 ^ 128), contiguous⟩
    · cases h
  · rintro ⟨-, contiguous⟩
    rw [log contiguous, if_pos contiguous]

theorem markCount_le {m : BitVec 128} {n : Nat} (h : markCount m = some n) : n ≤ 128 := (markCount_eq_some_iff.1 h).1

section
variable (s : State)

/-! ### The uncovered flag (R35) -/

theorem WasteRec.identified_iff (w : WasteRec) : w.identified = true ↔ w.state = .ready ∨ w.state = .full := by
  cases h : w.state <;> simp [WasteRec.identified, h]

theorem WasteRec.coverage_eq (w : WasteRec) :
    w.coverage = if w.state = .ready ∨ w.state = .full then w.marks * w.wcap / 128 else 0 := by
  cases h : w.state <;> simp [WasteRec.coverage, h, Config.marksFull]

@[simp] theorem State.wasteMoved_ports : s.wasteMoved.ports = s.ports := s.wasteMoved_frame .ports (by decide)
@[simp] theorem State.wasteMoved_ledger : s.wasteMoved.ledger = s.ledger := s.wasteMoved_frame .ledger (by decide)
@[simp] theorem State.wasteMoved_supply : s.wasteMoved.supply = s.supply := s.wasteMoved_frame .supply (by decide)

/-- What a conditional operation leaves. -/
theorem State.when_keeps {α : Type} (f : State → α) (b : Bool) {g : State → State} (h : f (g s) = f s) :
    f (s.when b g) = f s := by
  cases b
  · rfl
  · exact h

@[simp] theorem State.refreshUncovered_ports : s.refreshUncovered.ports = s.ports := s.refreshUncovered_frame .ports (by decide)

@[simp] theorem State.refreshUncovered_ledger : s.refreshUncovered.ledger =
    { s.ledger with uncovered := decide (s.supply.waste.coverage < s.ledger.wa + s.ledger.wr) } :=
  (State.when_keeps _ State.ledger _ (State.wasteMoved_ledger _)).trans (State.when_keeps _ State.ledger _ (by rfl))

/-- R35: an uncovered account asks for the MARK job that would cover it, up to all the marks. -/
theorem State.refreshUncovered_supply : s.refreshUncovered.supply =
    if s.supply.waste.coverage < s.ledger.wa + s.ledger.wr ∧ s.supply.waste.identified = true ∧ s.supply.waste.marks < 128 then
      { s.supply with
        link := s.supply.link.requestMark .waste
          (min 128 (ceilDiv ((s.ledger.wa + s.ledger.wr) * 128) s.supply.waste.wcap)) }
    else s.supply := by
  refine (State.when_keeps _ State.supply _ (State.wasteMoved_supply _)).trans ?_
  split
  · next h => simp [h, Config.marksFull]; rfl
  · next h =>
    have refrain : (decide (s.supply.waste.coverage < s.ledger.wa + s.ledger.wr) && s.supply.waste.identified &&
        decide (s.supply.waste.marks < Config.marksFull)) = false := by
      rw [Bool.eq_false_iff]
      simp only [ne_eq, Bool.and_eq_true, decide_eq_true_eq, and_assoc]
      exact h
    simp [refrain]

@[simp] theorem State.refreshUncovered_slot : s.refreshUncovered.supply.slot = s.supply.slot := by
  rw [State.refreshUncovered_supply]
  split <;> rfl

@[simp] theorem State.refreshUncovered_waste : s.refreshUncovered.supply.waste = s.supply.waste := by
  rw [State.refreshUncovered_supply]
  split <;> rfl

/-- R35: a cartridge that is neither READY nor FULL is asked for no marks. -/
theorem State.refreshUncovered_supply_of_not_identified (h : s.supply.waste.identified = false) :
    s.refreshUncovered.supply = s.supply := by
  rw [State.refreshUncovered_supply, if_neg (by simp [h])]

/-- R35: while the flag is set and marks are left to confirm, a job of the cartridge's position aims at what would clear it. -/
theorem State.refreshUncovered_asks (hu : s.supply.waste.coverage < s.ledger.wa + s.ledger.wr)
    (hi : s.supply.waste.identified = true) (hm : s.supply.waste.marks < 128) :
    ∃ j ∈ s.refreshUncovered.supply.link.jobs, j.pos = .waste ∧ (j.kind = .identify ∨ 128 ≤ j.target ∨
      (s.ledger.wa + s.ledger.wr) * 128 ≤ j.target * s.supply.waste.wcap ∨ s.supply.waste.wcap = 0) := by
  rw [State.refreshUncovered_supply, if_pos ⟨hu, hi, hm⟩]
  obtain ⟨j, hj, hpos, aims⟩ := s.supply.link.requestMark_job .waste
    (min 128 (ceilDiv ((s.ledger.wa + s.ledger.wr) * 128) s.supply.waste.wcap))
  refine ⟨j, hj, hpos, aims.imp_right fun target => ?_⟩
  rcases Nat.eq_zero_or_pos s.supply.waste.wcap with zero | pos
  · exact .inr (.inr zero)
  · rw [← ceilDiv_le_iff pos]
    omega

/-! ### The full cartridge and the near-full flag (R50) -/

@[simp] theorem State.refreshFull_ledger : s.refreshFull.ledger = s.ledger := s.refreshFull_frame .ledger (by decide)

@[simp] theorem State.raiseIf_supply (b : Bool) (e : Event) : (s.raiseIf b e).supply = s.supply :=
  s.raiseIf_frame b e .supply (by decide)

@[simp] theorem State.refreshFull_slot : s.refreshFull.supply.slot = s.supply.slot :=
  (State.when_keeps _ (fun t => t.supply.slot) _ (by simp)).trans (by simp [State.setWaste])

theorem State.refreshFull_waste : s.refreshFull.supply.waste = s.supply.waste.judged s.params.nearFull s.ledger.wa :=
  congrArg Bay.waste s.refreshFull_bay

/-- R50: a READY cartridge has taken its capacity. -/
def WasteRec.fills (w : WasteRec) (wa : Nat) : Bool := w.state == .ready && decide (w.wcap ≤ wa)

theorem WasteRec.fills_iff (w : WasteRec) (wa : Nat) : w.fills wa = true ↔ w.state = .ready ∧ w.wcap ≤ wa := by
  simp [WasteRec.fills]

/-- R50: what is recorded, and the two events. -/
theorem State.refreshFull_eq : s.refreshFull =
    (((s.setWaste (s.supply.waste.judged s.params.nearFull s.ledger.wa)).raiseIf (s.supply.waste.fills s.ledger.wa) .wasteFull).raiseIf
      ((s.supply.waste.judged s.params.nearFull s.ledger.wa).nearFull && !s.supply.waste.nearFull) .wasteNearFull).when
        (s.supply.waste.fills s.ledger.wa) State.wasteMoved := by
  unfold State.refreshFull WasteRec.judged WasteRec.fills
  simp only [Bool.and_eq_true, beq_iff_eq, decide_eq_true_eq]

theorem State.raiseIf_latched {b : Bool} {e : Event} (h : b = true) : (s.raiseIf b e).Latched e := by
  subst h
  exact s.raise_latched e

/-- R50: a READY cartridge that has become FULL. -/
theorem State.refreshFull_latches_full (h : s.supply.waste.fills s.ledger.wa = true) : s.refreshFull.Latched .wasteFull := by
  rw [State.refreshFull_eq]
  exact ((State.raiseIf_latched _ h).raiseIf _ _).of_ports (State.when_keeps _ State.ports _ (State.wasteMoved_ports _))

/-- R50: a near-full flag that has become set. -/
theorem State.refreshFull_latches_nearFull (h : s.refreshFull.supply.waste.nearFull = true)
    (ho : s.supply.waste.nearFull = false) : s.refreshFull.Latched .wasteNearFull := by
  rw [State.refreshFull_waste] at h
  rw [State.refreshFull_eq]
  exact (State.raiseIf_latched _ (by simp [h, ho])).of_ports (State.when_keeps _ State.ports _ (State.wasteMoved_ports _))

theorem State.Latched.refreshFull {s : State} {e : Event} (h : s.Latched e) : s.refreshFull.Latched e := by
  have kept : (s.setWaste (s.supply.waste.judged s.params.nearFull s.ledger.wa)).Latched e := h.of_ports rfl
  rw [State.refreshFull_eq]
  exact ((kept.raiseIf _ _).raiseIf _ _).of_ports (State.when_keeps _ State.ports _ (State.wasteMoved_ports _))

/-! ### The tests on the cartridge's chip (R49) -/

/-- A chip that fails its tests. -/
def State.refuseWaste : State :=
  (((s.setWaste { WasteRec.cleared with state := .refused }).raise .tankRefused).refreshUncovered).wasteMoved

/-- A chip that passes them, with the capacity and the marks read. -/
def State.readyWaste (cap n : Nat) : State :=
  ((((s.setWaste { WasteRec.cleared with state := .ready, wcap := cap, marks := n }).raise .tankChange).setWa
    (n * cap / 128)).refreshWaste).wasteMoved

theorem Config.wasteCapacity_eq (n : Nat) : Config.wasteCapacity n =
    if 1 < n then none else some (if n = 0 then 110000000 else 220000000) := by
  match n with
  | 0 => rfl
  | 1 => rfl
  | n + 2 => simp [Config.wasteCapacity]

theorem State.applyWaste_refused {i : Identity} {m : BitVec 128}
    (h : blankIdentity i = true ∨ i.kind ≠ 2 ∨ 1 < i.capCode.toNat ∨ markCount m = none) :
    s.applyWaste i m = s.refuseWaste := by
  unfold State.applyWaste
  split
  · next cap n hcap hn =>
    have tested : blankIdentity i = true ∨ i.kind ≠ 2 := by
      rcases h with blank | kind | code | noMarks
      · exact .inl blank
      · exact .inr kind
      · rw [Config.wasteCapacity_eq, if_pos code] at hcap
        cases hcap
      · rw [noMarks] at hn
        cases hn
    rw [if_pos (by simpa using tested)]
    rfl
  · rfl

theorem State.applyWaste_ready {i : Identity} {m : BitVec 128} {n : Nat} (hb : blankIdentity i = false) (hk : i.kind = 2)
    (hc : i.capCode.toNat ≤ 1) (hm : markCount m = some n) :
    s.applyWaste i m = s.readyWaste (if i.capCode.toNat = 0 then 110000000 else 220000000) n := by
  unfold State.applyWaste
  rw [Config.wasteCapacity_eq, if_neg (Nat.not_lt.2 hc), hm]
  simp only [hb, hk, bne_self_eq_false, Bool.or_self, Bool.false_eq_true, if_false]
  rfl

end

/-! ### O40 -/

section
variable (s : State)

theorem State.refreshWaste_waste :
    s.refreshWaste.supply.waste = s.supply.waste.judged s.params.nearFull s.ledger.wa :=
  congrArg Bay.waste s.refreshWaste_bay

theorem State.refreshWaste_ledger : s.refreshWaste.ledger =
    { s.ledger with uncovered := decide (s.supply.waste.coverage < s.ledger.wa + s.ledger.wr) } := by
  rw [State.refreshWaste, State.refreshUncovered_ledger, State.refreshFull_ledger, State.refreshFull_waste,
    WasteRec.judged_coverage]

theorem State.refreshWaste_slot : s.refreshWaste.supply.slot = s.supply.slot := by simp [State.refreshWaste]

variable {s} in
/-- An event latched by what precedes the uncovered flag stays latched. -/
theorem State.Latched.refreshWaste {e : Event} (h : s.refreshFull.Latched e) : s.refreshWaste.Latched e :=
  h.of_ports (State.refreshUncovered_ports _)

/-- What follows a change of the waste accounted (R35, R50). -/
theorem refreshWaste_judges :
    let u := s.refreshWaste
    let w := s.supply.waste
    Frame [.ports, .ledger, .supply, .due] s u ∧ u.ledger.wa = s.ledger.wa ∧ u.ledger.wr = s.ledger.wr ∧
      u.supply.waste.wcap = w.wcap ∧ u.supply.waste.marks = w.marks ∧
      (w.state = .ready → w.wcap ≤ s.ledger.wa → u.supply.waste.state = .full ∧ u.Latched .wasteFull) ∧
      (w.state ≠ .ready ∨ s.ledger.wa < w.wcap → u.supply.waste.state = w.state) ∧
      (u.supply.waste.nearFull = true ↔ (w.state = .ready ∨ w.state = .full) ∧
        s.params.nearFull * w.wcap ≤ s.ledger.wa * 100) ∧
      (w.nearFull = false → u.supply.waste.nearFull = true → u.Latched .wasteNearFull) ∧
      (u.ledger.uncovered = true ↔ (if w.state = .ready ∨ w.state = .full then w.marks * w.wcap / 128 else 0) <
        s.ledger.wa + s.ledger.wr) ∧
      (u.ledger.uncovered = true → (w.state = .ready ∨ w.state = .full) → w.marks < 128 →
        ∃ j ∈ u.supply.link.jobs, j.pos = .waste ∧ (j.kind = .identify ∨ 128 ≤ j.target ∨
          (s.ledger.wa + s.ledger.wr) * 128 ≤ j.target * w.wcap ∨ w.wcap = 0)) := by
  intro u w
  have waste : u.supply.waste = w.judged s.params.nearFull s.ledger.wa := s.refreshWaste_waste
  have ledger := s.refreshWaste_ledger
  refine ⟨s.refreshWaste_frame, by rw [ledger], by rw [ledger], by rw [waste]; simp, by rw [waste]; simp, fun ready fills => ?_,
    fun stays => ?_, ?_, fun clear near => ?_, ?_, fun uncovered identified left => ?_⟩
  · exact ⟨by rw [waste, WasteRec.judged_state, if_pos ⟨ready, fills⟩],
      .refreshWaste (s.refreshFull_latches_full ((WasteRec.fills_iff _ _).2 ⟨ready, fills⟩))⟩
  · rw [waste, WasteRec.judged_state, if_neg (fun full => stays.elim (absurd full.1) (Nat.not_lt.2 full.2))]
  · rw [waste, WasteRec.judged_nearFull, Bool.and_eq_true, WasteRec.identified_iff, decide_eq_true_eq]
  · refine .refreshWaste (s.refreshFull_latches_nearFull ?_ clear)
    rwa [State.refreshFull_waste, ← waste]
  · rw [ledger, decide_eq_true_eq, WasteRec.coverage_eq]
  · have asked := s.refreshFull.refreshUncovered_asks
    rw [State.refreshFull_waste, WasteRec.judged_coverage, WasteRec.judged_identified, WasteRec.judged_marks,
      WasteRec.judged_wcap, State.refreshFull_ledger] at asked
    refine asked ?_ ((WasteRec.identified_iff _).2 identified) left
    rwa [ledger, decide_eq_true_eq] at uncovered

theorem State.refuseWaste_frame : Frame [.ports, .ledger, .supply, .due] s s.refuseWaste :=
  ((s.setWaste_frame _).mono (by decide)).trans (((State.raise_frame _ _).mono (by decide)).trans
    (((State.refreshUncovered_frame _).mono (by decide)).trans ((State.wasteMoved_frame _).mono (by decide))))

theorem State.refuseWaste_waste : s.refuseWaste.supply.waste = { WasteRec.cleared with state := .refused } :=
  (congrArg Supply.waste (State.wasteMoved_supply _)).trans (State.refreshUncovered_waste _)

theorem State.refuseWaste_slot : s.refuseWaste.supply.slot = s.supply.slot :=
  (congrArg Supply.slot (State.wasteMoved_supply _)).trans (State.refreshUncovered_slot _)

theorem State.refuseWaste_ledger : s.refuseWaste.ledger =
    { s.ledger with uncovered := decide (0 < s.ledger.wa + s.ledger.wr) } :=
  (State.wasteMoved_ledger _).trans (State.refreshUncovered_ledger _)

theorem State.refuseWaste_latched : s.refuseWaste.Latched .tankRefused :=
  (State.raise_latched (s.setWaste { WasteRec.cleared with state := .refused }) .tankRefused).of_ports
    ((State.wasteMoved_ports _).trans (State.refreshUncovered_ports _))

variable (cap n : Nat)

/-- The record before its flags are judged, its event latched. -/
def State.tellWaste : State :=
  ((s.setWaste { WasteRec.cleared with state := .ready, wcap := cap, marks := n }).raise .tankChange).setWa (n * cap / 128)

theorem State.readyWaste_frame : Frame [.ports, .ledger, .supply, .due] s (s.readyWaste cap n) :=
  ((s.setWaste_frame _).mono (by decide)).trans (((State.raise_frame _ _).mono (by decide)).trans
    (((State.setWa_frame _ _).mono (by decide)).trans
      (((State.refreshWaste_frame _).mono (by decide)).trans ((State.wasteMoved_frame _).mono (by decide)))))

theorem State.readyWaste_waste : (s.readyWaste cap n).supply.waste =
    (s.tellWaste cap n).supply.waste.judged s.params.nearFull (n * cap / 128) :=
  (congrArg Supply.waste (State.wasteMoved_supply _)).trans (State.refreshWaste_waste _)

theorem State.readyWaste_slot : (s.readyWaste cap n).supply.slot = s.supply.slot :=
  (congrArg Supply.slot (State.wasteMoved_supply _)).trans (State.refreshWaste_slot _)

/-- The coverage is the waste that the chip records, so that what is reserved alone can be uncovered. -/
theorem State.readyWaste_ledger : (s.readyWaste cap n).ledger =
    { s.ledger with wa := n * cap / 128, uncovered := decide (0 < s.ledger.wr) } := by
  have recomputed : (s.readyWaste cap n).ledger =
      { s.ledger with wa := n * cap / 128, uncovered := decide (n * cap / 128 < n * cap / 128 + s.ledger.wr) } :=
    (State.wasteMoved_ledger _).trans (State.refreshWaste_ledger _)
  simpa using recomputed

variable {cap n} in
/-- A chip records less waste than the capacity but where all its marks are set. -/
theorem marks_fill_iff (hc : 0 < cap) (hn : n ≤ 128) : cap ≤ n * cap / 128 ↔ n = 128 := by
  rw [Nat.le_div_iff_mul_le (by decide), Nat.mul_comm cap, Nat.mul_le_mul_right_iff hc]
  omega

/-- A latched event stays latched. -/
theorem State.readyWaste_latches {e : Event} (h : (s.tellWaste cap n).refreshFull.Latched e) : (s.readyWaste cap n).Latched e :=
  (State.Latched.refreshWaste h).of_ports (State.wasteMoved_ports _)

/-- The tests on the waste cartridge's chip (R49). -/
theorem applyIdentity_waste_judges (i : Identity) (m : BitVec 128) :
    let u := s.applyIdentity .waste i m
    Frame [.ports, .ledger, .supply, .due] s u ∧ u.supply.slot = s.supply.slot ∧ u.ledger.chan = s.ledger.chan ∧
      u.ledger.wr = s.ledger.wr ∧
    ((blankIdentity i = true ∨ i.kind ≠ 2 ∨ 1 < i.capCode.toNat ∨ markCount m = none) →
      u.supply.waste = { WasteRec.cleared with state := .refused } ∧ u.Latched .tankRefused ∧ u.ledger.wa = s.ledger.wa ∧
        u.ledger.uncovered = decide (0 < s.ledger.wa + s.ledger.wr)) ∧
    (blankIdentity i = false → i.kind = 2 → i.capCode.toNat ≤ 1 → ∀ n, markCount m = some n →
      let cap := if i.capCode.toNat = 0 then 110000000 else 220000000
      u.supply.waste.wcap = cap ∧ u.supply.waste.marks = n ∧ u.Latched .tankChange ∧ u.ledger.wa = n * cap / 128 ∧
        u.supply.waste.state = (if n = 128 then .full else .ready) ∧ (n = 128 → u.Latched .wasteFull) ∧
        u.supply.waste.nearFull = decide (s.params.nearFull * cap ≤ n * cap / 128 * 100) ∧
        (u.supply.waste.nearFull = true → u.Latched .wasteNearFull) ∧
        u.ledger.uncovered = decide (0 < s.ledger.wr)) := by
  intro u
  by_cases refused : blankIdentity i = true ∨ i.kind ≠ 2 ∨ 1 < i.capCode.toNat ∨ markCount m = none
  · have made : u = s.refuseWaste := s.applyWaste_refused refused
    rw [made, s.refuseWaste_ledger]
    refine ⟨s.refuseWaste_frame, s.refuseWaste_slot, rfl, rfl, fun _ => ⟨s.refuseWaste_waste, s.refuseWaste_latched, rfl, rfl⟩,
      fun blank kind code n marks => ?_⟩
    simp [blank, kind, marks, Nat.not_lt.2 code] at refused
  · simp only [not_or, not_not, Bool.not_eq_true, Nat.not_lt] at refused
    obtain ⟨blank, kind, code, marked⟩ := refused
    obtain ⟨n, hn⟩ := Option.ne_none_iff_exists'.1 marked
    generalize hcap : (if i.capCode.toNat = 0 then 110000000 else 220000000) = cap
    have made : u = s.readyWaste cap n := hcap ▸ s.applyWaste_ready blank kind code hn
    have pos : 0 < cap := by
      rw [← hcap]
      split <;> decide
    have record : (s.tellWaste cap n).supply.waste = { WasteRec.cleared with state := .ready, wcap := cap, marks := n } := rfl
    have full : n = 128 ↔ cap ≤ n * cap / 128 := (marks_fill_iff pos (markCount_le hn)).symm
    have waste := s.readyWaste_waste cap n
    rw [made, s.readyWaste_ledger]
    refine ⟨s.readyWaste_frame cap n, s.readyWaste_slot cap n, rfl, rfl, fun refused => ?_, fun _ _ _ n' hn' => ?_⟩
    · simp [blank, kind, marked, Nat.not_lt.2 code] at refused
    · obtain rfl : n = n' := Option.some.inj (hn.symm.trans hn')
      refine ⟨by rw [waste, WasteRec.judged_wcap, record], by rw [waste, WasteRec.judged_marks, record], ?_, rfl, ?_,
        fun all => ?_, ?_, fun near => ?_, rfl⟩
      · have told : (s.tellWaste cap n).Latched .tankChange := State.Latched.of_ports (State.raise_latched _ .tankChange) rfl
        exact s.readyWaste_latches cap n told.refreshFull
      · rw [waste, WasteRec.judged_state, record]
        simp only [true_and, full]
      · exact s.readyWaste_latches cap n (State.refreshFull_latches_full _ ((WasteRec.fills_iff _ _).2 ⟨rfl, full.1 all⟩))
      · rw [waste, WasteRec.judged_nearFull, record]
        rfl
      · refine s.readyWaste_latches cap n (State.refreshFull_latches_nearFull _ ?_ rfl)
        rw [State.refreshFull_waste]
        rwa [waste] at near

end

/-- Settles O40: the tests on the chip, what follows a change of the waste accounted, and the flags that every step keeps. -/
theorem wasteCartridgeIsJudged : Obligations.WasteCartridgeIsJudged :=
  ⟨applyIdentity_waste_judges, refreshWaste_judges, fun s t current hstep =>
    t.wasteCurrent_iff.2 ((step_tends hstep).flags (s.wasteCurrent_iff.1 current))⟩

end Sys2Proof.Machine
end

section
/-!
SUPPORT. What a new slot record and the promotion of a partner do to the supply (R44, R45, R58), and what the arrivals and removals
of tanks and of the waste cartridge do (R41, R42, R49). O37 is settled from them.
-/

namespace Sys2Proof.Machine

/-! ### A new slot record -/

theorem State.putSlot_supply (s : State) (k : SlotId) (r : SlotRec) : (s.putSlot k r).supply =
    { s.supply with slot := s.supply.slot.set k { r with low := r.isLow s.params.inkLow } } := by
  simp [State.putSlot]

@[simp] theorem State.putSlot_get_same (s : State) (k : SlotId) (r : SlotRec) :
    (s.putSlot k r).supply.slot.get k = { r with low := r.isLow s.params.inkLow } := by simp [State.putSlot_slot]

@[simp] theorem State.putSlot_get_other (s : State) {k j : SlotId} (r : SlotRec) (h : j ≠ k) :
    (s.putSlot k r).supply.slot.get j = s.supply.slot.get j := by simp [State.putSlot_slot, h]

/-- R58: a slot that is not usable is not low. -/
theorem SlotRec.isLow_of_not_usable {r : SlotRec} (n : Nat) (h : r.state.usable = false) : r.isLow n = false := by
  simp [SlotRec.isLow, h]

/-- R58: a record that is not usable and shows no low flag is taken as it is. -/
theorem State.putSlot_supply_of_not_usable (s : State) (k : SlotId) {r : SlotRec} (h : r.state.usable = false)
    (hl : r.low = false) : (s.putSlot k r).supply = { s.supply with slot := s.supply.slot.set k r } := by
  rw [State.putSlot_supply, SlotRec.isLow_of_not_usable _ h, ← hl]

/-! ### Promotion (R45) -/

/-- From one supply to another some partners that waited have become ACTIVE, and nothing else has changed but their low flags. -/
structure Promotes (u v : Supply) : Prop where
  rest : v = { u with slot := v.slot }
  slots : ∀ k, v.slot.get k = u.slot.get k ∨
    (((u.slot.get k).state = .standby ∨ (u.slot.get k).state = .manual) ∧
      ∃ low, v.slot.get k = { u.slot.get k with state := .active, low := low })

namespace Promotes
variable {u v w : Supply}

theorem refl (u : Supply) : Promotes u u := ⟨rfl, fun _ => .inl rfl⟩

theorem trans (h : Promotes u v) (h' : Promotes v w) : Promotes u w := by
  refine ⟨by rw [h'.rest, h.rest], fun k => ?_⟩
  rcases h.slots k with kept | ⟨waited, low, active⟩
  · rw [← kept]
    exact h'.slots k
  · refine .inr ⟨waited, ?_⟩
    rcases h'.slots k with kept | ⟨waits, -⟩
    · exact ⟨low, kept.trans active⟩
    · simp [active] at waits

theorem map (h : Promotes u v) : v.map = u.map := by rw [h.rest]
theorem link (h : Promotes u v) : v.link = u.link := by rw [h.rest]
theorem waste (h : Promotes u v) : v.waste = u.waste := by rw [h.rest]

/-- A slot that did not wait is as it was. -/
theorem slot_of_not_waiting (h : Promotes u v) {k : SlotId} (hs : (u.slot.get k).state ≠ .standby)
    (hm : (u.slot.get k).state ≠ .manual) : v.slot.get k = u.slot.get k :=
  (h.slots k).elim id fun ⟨waited, _⟩ => absurd waited (not_or.2 ⟨hs, hm⟩)

/-- What a slot is identified as, has drawn and has marked, and what it holds, is as it was. -/
theorem keeps (h : Promotes u v) (k : SlotId) : (v.slot.get k).identity = (u.slot.get k).identity ∧
    (v.slot.get k).marks = (u.slot.get k).marks ∧ (v.slot.get k).drawn = (u.slot.get k).drawn ∧
    (v.slot.get k).capacity = (u.slot.get k).capacity := by
  rcases h.slots k with kept | ⟨-, low, active⟩
  · simp [kept]
  · simp [active]

end Promotes

theorem State.promote_promotes (s : State) (c : Channel) : Promotes s.supply (s.promote c).supply := by
  unfold State.promote
  split
  · exact .refl _
  · split
    · exact .refl _
    · next k found =>
      have waits : (s.supply.slot.get k).state = .standby ∨ (s.supply.slot.get k).state = .manual := by
        simpa using List.find?_some found
      refine ⟨by rw [State.putSlot_supply], fun j => ?_⟩
      by_cases h : j = k
      · subst h
        exact .inr ⟨waits, _, State.putSlot_get_same _ _ _⟩
      · exact .inl (s.putSlot_get_other _ h)

theorem State.promoteFor_promotes (s : State) (k : SlotId) : Promotes s.supply (s.promoteFor k).supply := by
  unfold State.promoteFor
  split
  · exact .refl _
  · exact s.promote_promotes _

/-! ### Tanks that arrive and leave (R41, R42) -/

section
variable (s : State) (k : SlotId)

/-- The hub with a tank in a slot, the chip just powered. -/
def State.withTank (chip : Chip) : State :=
  (s.setPins { s.pins with slotPresent := s.pins.slotPresent.set k true }).setChips
    (s.chips.put (.slot k) (some (powerUpChip chip)))

/-- The hub with no tank in a slot. -/
def State.withoutTank : State :=
  (s.setPins { s.pins with slotPresent := s.pins.slotPresent.set k false }).setChips (s.chips.put (.slot k) none)

/-- The hub with a cartridge, its chip just powered. -/
def State.withCartridge (chip : Chip) : State :=
  (s.setPins { s.pins with wastePresent := true }).setChips (s.chips.put .waste (some (powerUpChip chip)))

/-- The hub with no cartridge. -/
def State.withoutCartridge : State := (s.setPins { s.pins with wastePresent := false }).setChips (s.chips.put .waste none)

variable {s k} in
/-- R181: a presence sensor that changes while the hub is awake is acted on. -/
theorem State.sensedAwake_acts (h : s.Awake) (act : State → State) : s.sensedAwake act = (act s).settle := by
  simp [State.sensedAwake, State.sensed, h.1, State.wake_of_not_asleep s h.2]

theorem exec_slotTankArrival_arrives (h : s.Awake) (hp : s.pins.slotPresent.get k = false) (chip : Chip) :
    exec (.slotTankArrival k chip) s = .next ((s.withTank k chip).tankArrives k).settle :=
  (congrArg Host.Outcome.next (if_neg (by simp [hp]))).trans
    (congrArg Host.Outcome.next (State.sensedAwake_acts (s := s.withTank k chip) h _))

theorem exec_slotTankRemoval_leaves (h : s.Awake) (hp : s.pins.slotPresent.get k = true) :
    exec (.slotTankRemoval k) s = .next ((s.withoutTank k).tankLeaves k).settle :=
  (congrArg Host.Outcome.next (if_pos hp)).trans
    (congrArg Host.Outcome.next (State.sensedAwake_acts (s := s.withoutTank k) h _))

theorem exec_wasteCartridgeArrival_arrives (h : s.Awake) (hp : s.pins.wastePresent = false) (chip : Chip) :
    exec (.wasteCartridgeArrival chip) s = .next (s.withCartridge chip).wasteArrives.settle :=
  (congrArg Host.Outcome.next (if_neg (by simp [hp]))).trans
    (congrArg Host.Outcome.next (State.sensedAwake_acts (s := s.withCartridge chip) h _))

theorem exec_wasteCartridgeRemoval_leaves (h : s.Awake) (hp : s.pins.wastePresent = true) :
    exec .wasteCartridgeRemoval s = .next s.withoutCartridge.wasteLeaves.settle :=
  (congrArg Host.Outcome.next (if_pos hp)).trans
    (congrArg Host.Outcome.next (State.sensedAwake_acts (s := s.withoutCartridge) h _))

/-- R41: the slot is IDENTIFYING with nothing known of it, and its job is appended. -/
theorem State.tankArrives_supply : (s.tankArrives k).supply =
    { s.supply with
      slot := s.supply.slot.set k { SlotRec.cleared with state := .identifying }
      link := s.supply.link.requestIdentify (.slot k) } := by
  have put := s.putSlot_supply_of_not_usable k (r := { SlotRec.cleared with state := .identifying }) rfl rfl
  rw [State.tankArrives, State.requestIdentify, State.setLink, State.setSupply_supply, put]

/-- R42: before a partner takes over the slot's record is cleared and its job dropped. -/
theorem State.tankLeaves_supply : Promotes
    { s.supply with slot := s.supply.slot.set k SlotRec.cleared, link := s.supply.link.drop (.slot k) } (s.tankLeaves k).supply := by
  have put := s.putSlot_supply_of_not_usable k (r := SlotRec.cleared) rfl rfl
  have left : (((s.putSlot k SlotRec.cleared).dropJob (.slot k)).forgetSource k).supply =
      { s.supply with slot := s.supply.slot.set k SlotRec.cleared, link := s.supply.link.drop (.slot k) } := by
    rw [State.forgetSource, State.setManifold_supply, State.dropJob, State.setLink, State.setSupply_supply, put]
  rw [← left]
  exact State.promoteFor_promotes _ k

/-- R42: a running stroke forgets the record that it started from. -/
theorem State.tankLeaves_pump : (s.tankLeaves k).manifold.pump = s.manifold.pump.forget k := by
  rw [State.tankLeaves, State.promoteFor_frame _ k .manifold (by decide)]
  show ((s.putSlot k SlotRec.cleared).manifold.pump).forget k = _
  rw [s.putSlot_frame k _ .manifold (by decide)]

theorem Pump.forget_stroke (r : StrokeRun) :
    (Pump.stroke r).forget k = .stroke { r with stands := r.stands && r.source != k } := by
  cases h : r.source == k <;> simp [Pump.forget, bne, h]

theorem Link.drop_pos {l : Link} {pos : LinkPos} {j : LinkJob} (h : j ∈ (l.drop pos).jobs) : j.pos ≠ pos := by
  simpa using (List.mem_filter.1 h).2

/-! ### The cartridge (R49, R36) -/

theorem State.wasteArrives_supply : s.wasteArrives.supply =
    { s.supply with
      waste := { WasteRec.cleared with state := .identifying }
      link := s.supply.link.requestIdentify .waste } :=
  (State.wasteMoved_supply _).trans (State.refreshUncovered_supply_of_not_identified _ rfl)

theorem State.wasteArrives_ledger : s.wasteArrives.ledger =
    { s.ledger with uncovered := decide (0 < s.ledger.wa + s.ledger.wr) } :=
  (State.wasteMoved_ledger _).trans (State.refreshUncovered_ledger _)

/-- R49: the record cleared, its job dropped and the waste accounted 0, before the uncovered flag. -/
def State.emptyBay : State :=
  (((s.setWaste WasteRec.cleared).dropJob .waste).raiseIf (s.supply.waste.state != .absent) .tankChange).setWa 0

theorem State.emptyBay_supply : s.emptyBay.supply = { s.supply with waste := WasteRec.cleared, link := s.supply.link.drop .waste } :=
  State.raiseIf_supply _ _ _

theorem State.emptyBay_ledger : s.emptyBay.ledger = { s.ledger with wa := 0 } := by
  show { (State.raiseIf _ _ _).ledger with wa := 0 } = _
  rw [State.raiseIf_frame _ _ _ .ledger (by decide)]
  rfl

theorem State.wasteLeaves_supply : s.wasteLeaves.supply =
    { s.supply with waste := WasteRec.cleared, link := s.supply.link.drop .waste } := by
  rw [← s.emptyBay_supply]
  refine (State.wasteMoved_supply _).trans (State.refreshUncovered_supply_of_not_identified s.emptyBay ?_)
  rw [s.emptyBay_supply]
  rfl

theorem State.wasteLeaves_ledger : s.wasteLeaves.ledger = { s.ledger with wa := 0, uncovered := decide (0 < s.ledger.wr) } := by
  have recomputed : s.wasteLeaves.ledger = _ := (State.wasteMoved_ledger _).trans (State.refreshUncovered_ledger s.emptyBay)
  rw [s.emptyBay_supply, s.emptyBay_ledger, Nat.zero_add] at recomputed
  exact recomputed

/-- What the sensors change. -/
theorem State.bringChip_frame (x : Pins) (y : Chips) : Frame [.pins, .chips] s ((s.setPins x).setChips y) :=
  ((s.setPins_frame x).mono (by decide)).trans ((State.setChips_frame _ y).mono (by decide))

end

/-- Settles O37: what the four commands of the presence sensors make of the supply, the ledger and the pump. -/
theorem suppliesComeAndGo : Obligations.SuppliesComeAndGo := by
  intro s awake
  refine ⟨fun k chip absent => ?_, fun k present => ?_, fun chip absent => ?_, fun present => ?_⟩
  · have frame := (s.withTank k chip).tankArrives_frame k
    have supply := (s.withTank k chip).tankArrives_supply k
    refine ⟨_, exec_slotTankArrival_arrives s k awake absent chip, by rw [supply]; rfl, by rw [supply]; rfl, frame .chips (by decide),
      frame .pins (by decide), by rw [supply]; rfl, ?_⟩
    exact ((s.bringChip_frame _ _).mono (by decide)).trans (frame.mono (by decide))
  · have frame := (s.withoutTank k).tankLeaves_frame k
    have supply := (s.withoutTank k).tankLeaves_supply k
    refine ⟨_, exec_slotTankRemoval_leaves s k awake present, ?_, fun k' other => ?_, fun j hj => ?_, fun r running => ?_,
      frame .chips (by decide), frame .pins (by decide), supply.map, ?_⟩
    · have cleared : ((s.withoutTank k).supply.slot.set k SlotRec.cleared).get k = SlotRec.cleared := Eight.get_set_same _ _ _
      exact (supply.slot_of_not_waiting (by rw [cleared]; decide) (by rw [cleared]; decide)).trans cleared
    · have kept := supply.keeps k'
      rwa [Eight.get_set_other _ _ _ _ other] at kept
    · rw [supply.link] at hj
      exact Link.drop_pos hj
    · rw [State.tankLeaves_pump]
      exact (congrArg (Pump.forget · k) running).trans (Pump.forget_stroke k r)
    · exact ((s.bringChip_frame _ _).mono (by decide)).trans (frame.mono (by decide))
  · have frame := (s.withCartridge chip).wasteArrives_frame
    have supply := (s.withCartridge chip).wasteArrives_supply
    have ledger := (s.withCartridge chip).wasteArrives_ledger
    refine ⟨_, exec_wasteCartridgeArrival_arrives s awake absent chip, by rw [supply], by rw [ledger]; rfl, by rw [ledger]; rfl,
      by rw [supply]; rfl, by rw [supply]; rfl, frame .chips (by decide), frame .pins (by decide), ?_⟩
    exact ((s.bringChip_frame _ _).mono (by decide)).trans (frame.mono (by decide))
  · have frame := s.withoutCartridge.wasteLeaves_frame
    have supply := s.withoutCartridge.wasteLeaves_supply
    have ledger := s.withoutCartridge.wasteLeaves_ledger
    refine ⟨_, exec_wasteCartridgeRemoval_leaves s awake present, by rw [supply], by rw [ledger], by rw [ledger]; rfl,
      by rw [ledger]; rfl, fun j hj => ?_, by rw [supply]; rfl, frame .chips (by decide), frame .pins (by decide), ?_⟩
    · rw [supply] at hj
      exact Link.drop_pos hj
    · exact ((s.bringChip_frame _ _).mono (by decide)).trans (frame.mono (by decide))

end Sys2Proof.Machine
end

section
/-!
SUPPORT. What a chip answers and the mark that it makes (R51), and what the tests on a tank's chip give its slot (R43). O38 is
settled from them.
-/

namespace Sys2Proof.Machine

/-! ### The lowest clear mark -/

/-- The successor of a number whose lowest clear bit is bit i: that bit is set, those below it are cleared. -/
theorem testBit_succ_of_lowest_clear {n i : Nat} (hi : n.testBit i = false) (hl : ∀ j, j < i → n.testBit j = true) (j : Nat) :
    (n + 1).testBit j = if j < i + 1 then decide (i = j) else n.testBit j := by
  have low : n % 2 ^ (i + 1) = 2 ^ i - 1 := by
    refine Nat.eq_of_testBit_eq fun j => ?_
    rw [Nat.testBit_mod_two_pow, Nat.testBit_two_pow_sub_one]
    rcases Nat.lt_trichotomy j i with h | rfl | h
    · simp [h, hl j h, Nat.lt_succ_of_lt h]
    · simp [hi]
    · simp [Nat.not_lt.2 h.le, Nat.not_lt.2 (Nat.succ_le_of_lt h)]
  have room : 2 ^ i < 2 ^ (i + 1) := Nat.pow_lt_pow_right (by decide) (Nat.lt_succ_self i)
  have pos : 0 < 2 ^ i := Nat.two_pow_pos i
  have split : n = 2 ^ (i + 1) * (n / 2 ^ (i + 1)) + (2 ^ i - 1) := by
    rw [← low, Nat.div_add_mod]
  have next : n + 1 = 2 ^ (i + 1) * (n / 2 ^ (i + 1)) + 2 ^ i := by omega
  rw [next, Nat.testBit_two_pow_mul_add _ room, Nat.testBit_two_pow]
  split_ifs with h
  · rfl
  · rw [Nat.testBit_div_two_pow, Nat.sub_add_cancel (Nat.not_lt.1 h)]

theorem ne_allOnes_of_clear {m : BitVec 128} {i : Nat} (h : i < 128) (hi : m.getLsbD i = false) : m ≠ BitVec.allOnes 128 := by
  rintro rfl
  rw [BitVec.getLsbD_allOnes, decide_eq_true h] at hi
  cases hi

/-- R51: a MARK command sets the lowest clear mark and no other. -/
theorem setLowestClear_getLsbD {m : BitVec 128} {i : Nat} (h : i < 128) (hi : m.getLsbD i = false)
    (hl : ∀ j, j < i → m.getLsbD j = true) (j : Nat) :
    (setLowestClear m).getLsbD j = (decide (j = i) || m.getLsbD j) := by
  have notAll : m.toNat ≠ 2 ^ 128 - 1 := fun all => ne_allOnes_of_clear h hi (BitVec.eq_of_toNat_eq (by simpa using all))
  have next : (m + 1).toNat = m.toNat + 1 := by bv_omega
  have bit : (m + 1).getLsbD j = if j < i + 1 then decide (i = j) else m.getLsbD j := by
    rw [BitVec.getLsbD, next]
    exact testBit_succ_of_lowest_clear hi hl j
  rw [setLowestClear, BitVec.getLsbD_or, bit]
  by_cases same : j = i
  · simp [same]
  · by_cases below : j < i + 1
    · simp [below, same, Ne.symm same]
    · simp [below, same]

/-! ### What a chip answers -/

theorem chipRespond_silent {c : Chip} (h : c.answering = false) (cmd : ChipCommand) : chipRespond c cmd = (c, none) := by
  simp [chipRespond, h]

theorem chipRespond_busy {c : Chip} (h : c.answering = true) (hb : 0 < c.busyLeft) :
    chipRespond c .chipState = (c, some (.state true c.latched)) ∧
      ∀ cmd, cmd ≠ .chipState → chipRespond c cmd = (c, none) := by
  refine ⟨by simp [chipRespond, h, hb], fun cmd other => ?_⟩
  cases cmd
  case chipState => exact absurd rfl other
  all_goals simp [chipRespond, h, hb]

section
variable {c : Chip} (h : c.answering = true) (hb : c.busyLeft = 0)
include h hb

theorem chipRespond_idRead : chipRespond c .idRead = (c, some (.identity c.identity)) := by simp [chipRespond, h, hb]
theorem chipRespond_mapRead : chipRespond c .mapRead = (c, some (.map c.marks)) := by simp [chipRespond, h, hb]
theorem chipRespond_arm : chipRespond c .arm = ({ c with latched := true }, some .ack) := by simp [chipRespond, h, hb]
theorem chipRespond_chipState : chipRespond c .chipState = (c, some (.state false c.latched)) := by simp [chipRespond, h, hb]

theorem chipRespond_mark : chipRespond c .mark =
    (if c.latched && c.marks != BitVec.allOnes 128 then { c with marks := setLowestClear c.marks, busyLeft := 5 } else c,
      some .ack) := by
  unfold chipRespond
  split_ifs <;> simp_all [Config.writeMs]

end

/-! ### The tests on a tank's chip -/

section
variable (s : State) (k : SlotId)

/-- R44: the slot takes its record, ACTIVE or waiting; in START the channel's other usable slot may take one after it. -/
theorem State.placeSlot_cases (c : Channel) (r : SlotRec) : ∃ x, (x = .active ∨ x = r.waiting) ∧
    (s.placeSlot k c r = s.putSlot k { r with state := x } ∨
      ∃ j q, k ≠ j ∧ s.placeSlot k c r = (s.putSlot k { r with state := x }).putSlot j q) := by
  unfold State.placeSlot
  dsimp only
  split
  · split
    · exact ⟨_, .inl rfl, .inl rfl⟩
    · next j found =>
      have other : k ≠ j := by
        rintro rfl
        simpa using List.find?_some found
      split
      · exact ⟨_, .inl rfl, .inr ⟨j, _, other, rfl⟩⟩
      · exact ⟨_, .inr rfl, .inr ⟨j, _, other, rfl⟩⟩
  · split
    · exact ⟨_, .inr rfl, .inl rfl⟩
    · exact ⟨_, .inl rfl, .inl rfl⟩

theorem State.placeSlot_get_self (c : Channel) (r : SlotRec) : ∃ x low, (x = .active ∨ x = r.waiting) ∧
    (s.placeSlot k c r).supply.slot.get k = { r with state := x, low := low } := by
  obtain ⟨x, hx, placed | ⟨j, q, other, placed⟩⟩ := s.placeSlot_cases k c r
  · exact ⟨x, _, hx, by rw [placed, State.putSlot_get_same]⟩
  · exact ⟨x, _, hx, by rw [placed, State.putSlot_get_other _ _ other, State.putSlot_get_same]⟩

variable (i : Identity) (m : BitVec 128)

/-- A record that the slot takes and that is not usable is taken but for its low flag. -/
theorem State.putSlot_refuse (why : RefusalReason) :
    ((s.putSlot k (SlotRec.refuse i why)).supply.slot.get k).state = .refused ∧
      ((s.putSlot k (SlotRec.refuse i why)).supply.slot.get k).reason = some why ∧
      ((s.putSlot k (SlotRec.refuse i why)).supply.slot.get k).identity = some i := by
  rw [State.putSlot_get_same]
  exact ⟨rfl, rfl, rfl⟩

variable {i m}

theorem State.applyTank_blank (hb : blankIdentity i = true) :
    s.applyTank k i m = s.putSlot k { SlotRec.cleared with state := .unidentified } := if_pos hb

theorem Config.tankCapacity_eq_none_iff (n : Nat) : Config.tankCapacity n = none ↔ 2 < n := by
  match n with
  | 0 | 1 | 2 => simp [Config.tankCapacity]
  | n + 3 => simp [Config.tankCapacity]

theorem State.applyTank_badChip (hb : blankIdentity i = false)
    (h : i.kind ≠ 1 ∨ 2 < i.capCode.toNat ∨ markCount m = none) :
    s.applyTank k i m = s.putSlot k (SlotRec.refuse i .badChip) := by
  unfold State.applyTank
  rw [if_neg (by simp [hb])]
  split
  · next cap n hcap hn =>
    have kind : i.kind ≠ 1 := by
      rcases h with kind | code | noMarks
      · exact kind
      · rw [(Config.tankCapacity_eq_none_iff _).2 code] at hcap
        cases hcap
      · rw [noMarks] at hn
        cases hn
    rw [if_pos (by simpa using kind)]
  · rfl

/-- The record of a tank whose chip passes the tests. -/
def SlotRec.read (i : Identity) (cap n : Nat) : SlotRec :=
  { SlotRec.cleared with identity := some i, capacity := cap, marks := n, drawn := n * cap / 128 }

variable {cap n : Nat} (hb : blankIdentity i = false) (hk : i.kind = 1)
  (hc : Config.tankCapacity i.capCode.toNat = some cap) (hm : markCount m = some n)
include hb hk hc hm

theorem State.applyTank_unmapped (h : s.supply.map.get k = none) :
    s.applyTank k i m = s.putSlot k (SlotRec.refuse i .unmapped) := by
  simp [State.applyTank, hb, hk, hc, hm, h]

theorem State.applyTank_mapped {c : Channel} (h : s.supply.map.get k = some c) : s.applyTank k i m =
    if i.colour.toNat ≠ c.toNat + 1 then s.putSlot k (SlotRec.refuse i .wrongInk)
    else if n = 128 then s.putSlot k { SlotRec.read i cap n with state := .spent }
    else s.placeSlot k c (SlotRec.read i cap n) := by
  unfold State.applyTank
  rw [if_neg (by simp [hb]), hc, hm, h]
  by_cases ink : i.colour.toNat = c.toNat + 1
  · by_cases all : n = 128 <;> simp [hk, SlotRec.read, Channel.colour, Config.marksFull, ink, all]
  · simp [hk, Channel.colour, ink]

end

theorem applyTank_gives (s : State) (k : SlotId) (i : Identity) (m : BitVec 128) :
    let r := (s.applyTank k i m).supply.slot.get k
    (∀ n, markCount m = some n ↔ n ≤ 128 ∧ m.toNat + 1 = 2 ^ n) ∧
    (blankIdentity i = true → r.state = .unidentified ∧ r.identity = none) ∧
    (blankIdentity i = false → (i.kind ≠ 1 ∨ 2 < i.capCode.toNat ∨ markCount m = none) →
      r.state = .refused ∧ r.reason = some .badChip ∧ r.identity = some i) ∧
    (blankIdentity i = false → i.kind = 1 → ∀ cap n, Config.tankCapacity i.capCode.toNat = some cap →
      markCount m = some n →
      (s.supply.map.get k = none → r.state = .refused ∧ r.reason = some .unmapped ∧ r.identity = some i) ∧
      (∀ c, s.supply.map.get k = some c →
        (i.colour.toNat ≠ c.toNat + 1 → r.state = .refused ∧ r.reason = some .wrongInk ∧ r.identity = some i) ∧
        (i.colour.toNat = c.toNat + 1 → r.identity = some i ∧ r.capacity = cap ∧ r.marks = n ∧
          r.drawn = n * cap / 128 ∧ r.manual = false ∧
          (if n = 128 then r.state = .spent else r.state = .active ∨ r.state = .standby)))) := by
  intro r
  refine ⟨fun n => markCount_eq_some_iff, fun blank => ?_, fun known bad => ?_, fun known kind cap n hc hm => ⟨fun unmapped => ?_,
    fun c mapped => ⟨fun colour => ?_, fun colour => ?_⟩⟩⟩
  · have made : r = (s.putSlot k { SlotRec.cleared with state := .unidentified }).supply.slot.get k := by
      rw [← s.applyTank_blank k blank]
    rw [made, State.putSlot_get_same]
    exact ⟨rfl, rfl⟩
  · have made : r = (s.putSlot k (SlotRec.refuse i .badChip)).supply.slot.get k := by
      rw [← s.applyTank_badChip k known bad]
    rw [made]
    exact s.putSlot_refuse k i .badChip
  · have made : r = (s.putSlot k (SlotRec.refuse i .unmapped)).supply.slot.get k := by
      rw [← s.applyTank_unmapped k known kind hc hm unmapped]
    rw [made]
    exact s.putSlot_refuse k i .unmapped
  · have made : r = (s.putSlot k (SlotRec.refuse i .wrongInk)).supply.slot.get k := by
      have placed := s.applyTank_mapped k known kind hc hm mapped
      rw [if_pos colour] at placed
      rw [← placed]
    rw [made]
    exact s.putSlot_refuse k i .wrongInk
  · have placed := s.applyTank_mapped k known kind hc hm mapped
    rw [if_neg (not_not.2 colour)] at placed
    split_ifs at placed with all
    · have made : r = (s.putSlot k { SlotRec.read i cap n with state := .spent }).supply.slot.get k := by rw [← placed]
      rw [made, State.putSlot_get_same, if_pos all]
      exact ⟨rfl, rfl, rfl, rfl, rfl, rfl⟩
    · obtain ⟨x, low, hx, taken⟩ := s.placeSlot_get_self k c (SlotRec.read i cap n)
      have made : r = { SlotRec.read i cap n with state := x, low := low } := by rw [← taken, ← placed]
      rw [made, if_neg all]
      exact ⟨rfl, rfl, rfl, rfl, rfl, hx⟩

/-- Settles O38: by the cases of what a chip answers, and of the tests on a tank's chip. -/
theorem chipsAnswerAndIdentify : Obligations.ChipsAnswerAndIdentify := by
  refine ⟨fun c => ⟨fun silent => chipRespond_silent silent, fun answers busy => chipRespond_busy answers busy,
    fun answers idle => ?_⟩, applyTank_gives⟩
  have mark := chipRespond_mark answers idle
  refine ⟨chipRespond_idRead answers idle, chipRespond_mapRead answers idle, chipRespond_arm answers idle,
    chipRespond_chipState answers idle, by rw [mark], fun unlatched => by simp [mark, unlatched],
    fun latched i hi clear lower => ?_⟩
  have room : c.marks ≠ BitVec.allOnes 128 := ne_allOnes_of_clear hi clear
  have marks := setLowestClear_getLsbD hi clear lower
  rw [mark, if_pos (by rw [latched, Bool.true_and, bne_iff_ne]; exact room)]
  exact ⟨rfl, by simp [marks], fun j other => by simp [marks, other]⟩

end Sys2Proof.Machine
end

section
/-!
SUPPORT. What an answer, a timeout and a fault of the link job that runs make of the state, where no soft reset waits to empty the queue
and no map change ends the job (R52, R54 to R56). O39 is settled from them.
-/

namespace Sys2Proof.Machine

/-! ### Operations that leave the link, or its transaction -/

section
variable (s : State)

@[simp] theorem State.putSlot_link (k : SlotId) (r : SlotRec) : (s.putSlot k r).supply.link = s.supply.link := by
  rw [State.putSlot_supply]

@[simp] theorem State.placeSlot_link (k : SlotId) (c : Channel) (r : SlotRec) :
    (s.placeSlot k c r).supply.link = s.supply.link := by
  unfold State.placeSlot
  dsimp only
  repeat' split
  all_goals simp

@[simp] theorem State.applyTank_link (k : SlotId) (i : Identity) (m : BitVec 128) :
    (s.applyTank k i m).supply.link = s.supply.link := by
  unfold State.applyTank
  repeat' split
  all_goals simp

theorem Link.requestMark_draining (l : Link) (pos : LinkPos) (n : Nat) : (l.requestMark pos n).draining = l.draining := by
  unfold Link.requestMark
  dsimp only
  split <;> rfl

theorem Link.requestMark_run (l : Link) (pos : LinkPos) (n : Nat) : (l.requestMark pos n).run = l.run := by
  unfold Link.requestMark
  dsimp only
  split <;> rfl

theorem State.refreshUncovered_draining : s.refreshUncovered.supply.link.draining = s.supply.link.draining := by
  rw [State.refreshUncovered_supply]
  split
  · exact Link.requestMark_draining _ _ _
  · rfl

theorem State.refreshUncovered_run : s.refreshUncovered.supply.link.run = s.supply.link.run := by
  rw [State.refreshUncovered_supply]
  split
  · exact Link.requestMark_run _ _ _
  · rfl

theorem State.refreshFull_link : s.refreshFull.supply.link = s.supply.link :=
  (State.when_keeps _ (fun t => t.supply.link) _ (by simp)).trans (by simp [State.setWaste])

theorem State.applyWaste_draining (i : Identity) (m : BitVec 128) :
    (s.applyWaste i m).supply.link.draining = s.supply.link.draining := by
  have moved (t : State) : t.refreshUncovered.wasteMoved.supply.link.draining = t.supply.link.draining := by
    rw [State.wasteMoved_supply, State.refreshUncovered_draining]
  unfold State.applyWaste
  split
  · split
    · exact moved _
    · refine (moved _).trans ?_
      rw [State.refreshFull_link]
      rfl
  · exact moved _

theorem State.applyIdentity_draining (pos : LinkPos) (i : Identity) (m : BitVec 128) :
    (s.applyIdentity pos i m).supply.link.draining = s.supply.link.draining := by
  cases pos with
  | slot k => exact congrArg Link.draining (s.applyTank_link k i m)
  | waste => exact s.applyWaste_draining i m

variable {s}

theorem State.afterTransaction_of_not_draining (h : s.supply.link.draining = false) : s.afterTransaction = s := by
  simp [State.afterTransaction, h]

theorem Chips.put_at_self {x : Chips} {pos : LinkPos} {c : Chip} (h : x.at pos = some c) : x.put pos (some c) = x := by
  cases pos with
  | slot k =>
    have same : x.slot.set k (some c) = x.slot := Eight.ext_get _ _ fun i => by
      by_cases e : i = k
      · subst e
        rw [Eight.get_set_same]
        exact h.symm
      · rw [Eight.get_set_other _ _ _ _ e]
    simp [Chips.put, same]
  | waste =>
    simp only [Chips.at] at h
    simp [Chips.put, ← h]

theorem State.setChips_at_self {pos : LinkPos} {c : Chip} (h : s.chips.at pos = some c) :
    s.setChips (s.chips.put pos (some c)) = s := by
  rw [Chips.put_at_self h]
  rfl

/-! ### Latched events -/

theorem State.Latched.putSlot {e : Event} (h : s.Latched e) (k : SlotId) (r : SlotRec) : (s.putSlot k r).Latched e := by
  have kept (x : Supply) : (s.setSupply x).Latched e := h.of_ports (s.setSupply_ports x)
  unfold State.putSlot
  dsimp only
  exact (((kept _).raiseIf _ _).raiseIf _ _).raiseIf _ _

theorem State.Latched.promoteFor {e : Event} (h : s.Latched e) (k : SlotId) : (s.promoteFor k).Latched e := by
  unfold State.promoteFor State.promote
  repeat' split
  · exact h
  · exact h
  · exact h
  · exact h.putSlot _ _

end

/-! ### A position that faults (R56) -/

/-- The job is over, and its position FAULTED, with what was known of it. -/
def LinkFaulted (s : State) (j : LinkJob) (rest : List LinkJob) (u : State) : Prop :=
  u.Latched .linkFault ∧ u.supply.link.jobs = rest ∧ u.supply.link.run = none ∧
    (∀ k, j.pos = .slot k → (u.supply.slot.get k).state = .faulted ∧
      (u.supply.slot.get k).identity = (s.supply.slot.get k).identity ∧
      (u.supply.slot.get k).marks = (s.supply.slot.get k).marks ∧
      (u.supply.slot.get k).drawn = (s.supply.slot.get k).drawn ∧ Frame [.ports, .supply] s u) ∧
    (j.pos = .waste → u.supply.waste.state = .faulted ∧ u.supply.waste.marks = s.supply.waste.marks ∧
      u.supply.slot = s.supply.slot ∧ u.ledger.wa = s.ledger.wa ∧ Frame [.ports, .ledger, .supply, .due] s u)

section
variable (s : State)

/-- R56: the slot is FAULTED, and a partner that waited is ACTIVE. -/
theorem State.faultPosition_slot (k : SlotId) : Promotes
    { s.supply with
      slot := s.supply.slot.set k { s.supply.slot.get k with state := .faulted, reason := none, low := false } }
    (s.faultPosition (.slot k)).supply := by
  have put : ((s.raise .linkFault).putSlot k { s.supply.slot.get k with state := .faulted, reason := none }).supply =
      { s.supply with
        slot := s.supply.slot.set k { s.supply.slot.get k with state := .faulted, reason := none, low := false } } := by
    rw [State.putSlot_supply, SlotRec.isLow_of_not_usable _ rfl]
    rfl
  rw [← put]
  exact State.promoteFor_promotes _ k

theorem State.faultPosition_slot_frame (k : SlotId) : Frame [.ports, .supply] s (s.faultPosition (.slot k)) :=
  ((s.raise_frame _).mono (by decide)).trans ((State.putSlot_frame _ _ _).trans (State.promoteFor_frame _ _))

theorem State.faultPosition_slot_latched (k : SlotId) : (s.faultPosition (.slot k)).Latched .linkFault :=
  ((s.raise_latched .linkFault).putSlot _ _).promoteFor _

theorem State.faultPosition_waste_supply : (s.faultPosition .waste).supply =
    { s.supply with waste := { s.supply.waste with state := .faulted, nearFull := false } } :=
  (State.wasteMoved_supply _).trans (State.refreshUncovered_supply_of_not_identified _ rfl)

theorem State.faultPosition_waste_frame : Frame [.ports, .ledger, .supply, .due] s (s.faultPosition .waste) :=
  ((s.raise_frame _).mono (by decide)).trans (((State.setWaste_frame _ _).mono (by decide)).trans
    (((State.refreshUncovered_frame _).mono (by decide)).trans ((State.wasteMoved_frame _).mono (by decide))))

theorem State.faultPosition_waste_wa : (s.faultPosition .waste).ledger.wa = s.ledger.wa := by
  rw [State.faultPosition, State.wasteMoved_ledger, State.refreshUncovered_ledger]
  rfl

theorem State.faultPosition_waste_latched : (s.faultPosition .waste).Latched .linkFault :=
  (s.raise_latched .linkFault).of_ports ((State.wasteMoved_ports _).trans (State.refreshUncovered_ports _))

/-- A fault of a position leaves the link. -/
theorem State.faultPosition_link (pos : LinkPos) : (s.faultPosition pos).supply.link = s.supply.link := by
  cases pos with
  | slot k => exact (s.faultPosition_slot k).link
  | waste => rw [State.faultPosition_waste_supply]

end

/-! ### The job that runs -/

/-- The state with the link's queue and run given, and no soft reset waiting. -/
def State.linked (s : State) (jobs : List LinkJob) (run : Option LinkRun) : State :=
  { s with supply := { s.supply with link := { jobs := jobs, run := run, draining := false } } }

section
variable {s : State} {j : LinkJob} {rest : List LinkJob} {r : LinkRun}

theorem State.linked_faults (s : State) (j : LinkJob) (rest : List LinkJob) :
    LinkFaulted s j rest ((s.linked rest none).faultPosition j.pos) := by
  have linked_frame : Frame [.supply] s (s.linked rest none) := s.setSupply_frame _
  unfold LinkFaulted
  cases j.pos with
  | slot k =>
    have faulted := (s.linked rest none).faultPosition_slot k
    have record := faulted.slot_of_not_waiting (k := k) (by simp) (by simp)
    refine ⟨State.faultPosition_slot_latched _ k, congrArg Link.jobs faulted.link, congrArg Link.run faulted.link,
      fun k' e => ?_, nofun⟩
    cases e
    rw [record, Eight.get_set_same]
    exact ⟨rfl, rfl, rfl, rfl, (linked_frame.mono (by decide)).trans (State.faultPosition_slot_frame _ k)⟩
  | waste =>
    rw [State.faultPosition_waste_supply]
    exact ⟨State.faultPosition_waste_latched _, rfl, rfl, nofun, fun _ => ⟨rfl, rfl, rfl, State.faultPosition_waste_wa _,
      (linked_frame.mono (by decide)).trans (State.faultPosition_waste_frame _)⟩⟩

variable (hl : s.pins.resetLow = false) (hk : s.supply.link = { jobs := j :: rest, run := some r, draining := false })
  (he : r.ending = false)
include hk

theorem State.endJob_linked : s.endJob = s.linked rest none := by
  unfold State.endJob
  rw [hk]
  rfl

include hl he

/-- R52: an answer of the kind asked for is taken by the job. -/
theorem exec_linkAnswer_takes {chip chip' : Chip} {a : LinkAnswer} (hc : s.chips.at j.pos = some chip)
    (hr : chipRespond chip (if r.waiting then .chipState else r.cmd) = (chip', some a)) (ha : r.answeredBy a = true) :
    exec (.linkAnswer .clean) s =
      .next (((s.setChips (s.chips.put j.pos (some chip'))).takeAnswer j r a).afterTransaction).settle := by
  have answers : s.linkAnswers .clean =
      some ((s.setChips (s.chips.put j.pos (some chip'))).takeAnswer j r a).afterTransaction := by
    simp [State.linkAnswers, hk, Chips.transact, hc, hr, ha, he]
  exact congrArg Host.Outcome.next (State.sensedSome_acts hl answers)

/-- R52: where the chip is left as it was and no soft reset waits, what the job makes of the answer is all that happens. -/
theorem exec_linkAnswer_reads {chip : Chip} {a : LinkAnswer} (hc : s.chips.at j.pos = some chip)
    (hr : chipRespond chip (if r.waiting then .chipState else r.cmd) = (chip, some a)) (ha : r.answeredBy a = true)
    (hd : (s.takeAnswer j r a).supply.link.draining = false) :
    exec (.linkAnswer .clean) s = .next (s.takeAnswer j r a).settle := by
  rw [exec_linkAnswer_takes hl hk he hc hr ha, State.setChips_at_self hc, State.afterTransaction_of_not_draining hd]

/-- R52: an answer that moves the running transaction on. -/
theorem exec_linkAnswer_moves {chip chip' : Chip} {a : LinkAnswer} {r' : LinkRun} (hc : s.chips.at j.pos = some chip)
    (hr : chipRespond chip (if r.waiting then .chipState else r.cmd) = (chip', some a)) (ha : r.answeredBy a = true)
    (hm : ∀ t : State, t.takeAnswer j r a = t.setLink { t.supply.link with run := some r' }) :
    exec (.linkAnswer .clean) s =
      .next (State.settle { s.linked (j :: rest) (some r') with chips := s.chips.put j.pos (some chip') }) := by
  have moved : (s.setChips (s.chips.put j.pos (some chip'))).takeAnswer j r a =
      { s.linked (j :: rest) (some r') with chips := s.chips.put j.pos (some chip') } := by
    rw [hm, State.setChips_supply, hk]
    rfl
  rw [exec_linkAnswer_takes hl hk he hc hr ha, moved, State.afterTransaction_of_not_draining rfl]

/-! ### A map read back (R55) -/

variable {chip : Chip} {n : Nat} (hc : s.chips.at j.pos = some chip) (ha : chip.answering = true) (hb : chip.busyLeft = 0)
  (hw : r.waiting = false) (hr : r.cmd = .mapRead)
include hc ha hb hw hr

/-- The map is read, and the job makes of it what it does. -/
theorem exec_linkAnswer_map {u : State} (hu : s.takeAnswer j r (.map chip.marks) = u) (hd : u.supply.link.draining = false) :
    exec (.linkAnswer .clean) s = .next u.settle := by
  subst hu
  exact exec_linkAnswer_reads hl hk he hc (by simp [hw, hr, chipRespond_mapRead ha hb]) (by simp [LinkRun.answeredBy, hw, hr]) hd

theorem exec_linkAnswer_identifies {i : Identity} (hj : j.kind = .identify) (hi : r.ident = some i) :
    exec (.linkAnswer .clean) s = .next ((s.linked rest none).applyIdentity j.pos i chip.marks).settle :=
  exec_linkAnswer_map hl hk he hc ha hb hw hr (by simp [State.takeAnswer, hw, hr, hj, hi, State.endJob_linked hk])
    (State.applyIdentity_draining _ _ _ _)

/-- R55: the attempt of a MARK job is judged. -/
theorem exec_linkAnswer_judges {u : State} (hj : j.kind = .mark) (hu : s.judgeAttempt j chip.marks = u)
    (hd : u.supply.link.draining = false) : exec (.linkAnswer .clean) s = .next u.settle :=
  exec_linkAnswer_map hl hk he hc ha hb hw hr (by simp [State.takeAnswer, hw, hr, hj, hu]) hd

/-- R55, R56: an attempt that faults the position. -/
theorem exec_linkAnswer_faults (hj : j.kind = .mark)
    (hf : s.judgeAttempt j chip.marks = s.endJob.faultPosition j.pos) :
    ∃ u, exec (.linkAnswer .clean) s = .next u.settle ∧ LinkFaulted s j rest u := by
  rw [State.endJob_linked hk] at hf
  refine ⟨_, exec_linkAnswer_judges hl hk he hc ha hb hw hr hj hf ?_, s.linked_faults j rest⟩
  rw [State.faultPosition_link]
  rfl

end

/-! ### What an attempt is judged -/

section
variable {s : State} {j : LinkJob} {m : BitVec 128} {n : Nat}

theorem State.judgeAttempt_of_fewer (h : markCount m = none ∨ ∃ n, markCount m = some n ∧ n < s.supply.marksAt j.pos) :
    s.judgeAttempt j m = s.endJob.faultPosition j.pos := by
  rcases h with noMarks | ⟨n, hn, fewer⟩
  · simp [State.judgeAttempt, noMarks]
  · simp [State.judgeAttempt, hn, fewer]

theorem State.judgeAttempt_of_same (h : markCount m = some (s.supply.marksAt j.pos)) : s.judgeAttempt j m =
    if j.attempts = 2 then s.endJob.faultPosition j.pos
    else s.setLink { s.supply.link with jobs := { j with attempts := j.attempts + 1 } :: s.supply.link.jobs.tail, run := none } := by
  simp [State.judgeAttempt, h]
  rfl

theorem State.judgeAttempt_of_more (h : markCount m = some n) (hn : s.supply.marksAt j.pos < n) : s.judgeAttempt j m =
    (s.setLink { s.supply.link with jobs := { j with attempts := 0 } :: s.supply.link.jobs.tail, run := none }).confirmMarks
      j.pos n := by
  simp [State.judgeAttempt, h, hn, Nat.not_lt.2 hn.le]
  rfl

end

/-! ### Confirmed marks (R55) -/

section
variable (s : State) (j : LinkJob) (rest : List LinkJob) (n : Nat)

theorem State.confirmMarks_draining (pos : LinkPos) : (s.confirmMarks pos n).supply.link.draining = s.supply.link.draining := by
  cases pos with
  | slot k => rfl
  | waste =>
    rw [State.confirmMarks, State.wasteMoved_supply, State.refreshUncovered_draining]
    rfl

theorem State.confirmMarks_waste_frame : Frame [.ledger, .supply, .due] s (s.confirmMarks .waste n) :=
  ((s.setWaste_frame _).mono (by decide)).trans
    ((State.refreshUncovered_frame _).trans ((State.wasteMoved_frame _).mono (by decide)))

/-- R53: a MARK request for the position of the job that runs raises its target. -/
theorem Link.requestMark_head {l : Link} {j : LinkJob} {rest : List LinkJob} (hl : l.jobs = j :: rest) (hj : j.kind = .mark)
    {pos : LinkPos} (hp : j.pos = pos) (n : Nat) :
    ∃ target, j.target ≤ target ∧ (l.requestMark pos n).jobs.head? = some { j with target := target } := by
  subst hp
  exact ⟨max j.target (min n 128), Nat.le_max_left _ _, by simp [Link.requestMark, Link.jobAt, hl, hj, Config.marksFull]⟩

/-- The marks of a cartridge: a MARK request that follows raises the target of the job that runs (R53). -/
theorem State.confirmMarks_waste_jobs (hp : j.pos = .waste) (hj : j.kind = .mark) : ∃ target, j.target ≤ target ∧
    ((s.linked ({ j with attempts := 0 } :: rest) none).confirmMarks .waste n).supply.link.jobs.head? =
      some { j with attempts := 0, target := target } := by
  rw [State.confirmMarks, State.wasteMoved_supply, State.refreshUncovered_supply]
  split
  · exact Link.requestMark_head (j := { j with attempts := 0 }) rfl hj hp _
  · exact ⟨j.target, le_rfl, rfl⟩

end

/-- R55: the marks read are the confirmed ones, and the attempts are counted afresh. -/
theorem State.linked_confirms (s : State) {j : LinkJob} (rest : List LinkJob) (n : Nat) (hj : j.kind = .mark) {pos : LinkPos}
    (hp : j.pos = pos) :
    let u := (s.linked ({ j with attempts := 0 } :: rest) none).confirmMarks pos n
    u.supply.link.run = none ∧
      (∀ k, pos = .slot k → u.supply.link.jobs = { j with attempts := 0 } :: rest ∧
        u.supply.slot = s.supply.slot.set k { s.supply.slot.get k with marks := n } ∧ Frame [.supply] s u) ∧
      (pos = .waste → u.supply.waste = { s.supply.waste with marks := n } ∧ u.supply.slot = s.supply.slot ∧
        (∃ target, j.target ≤ target ∧ u.supply.link.jobs.head? = some { j with attempts := 0, target := target }) ∧
        Frame [.ledger, .supply, .due] s u) := by
  have linked_frame : Frame [.supply] s (s.linked ({ j with attempts := 0 } :: rest) none) := s.setSupply_frame _
  cases pos with
  | slot k =>
    refine ⟨rfl, fun k' e => ?_, nofun⟩
    cases e
    exact ⟨rfl, rfl, linked_frame.trans (State.setSupply_frame _ _)⟩
  | waste =>
    refine ⟨?_, nofun, fun _ => ⟨?_, ?_, s.confirmMarks_waste_jobs j rest n hp hj,
      (linked_frame.mono (by decide)).trans (State.confirmMarks_waste_frame _ n)⟩⟩
    · rw [State.confirmMarks, State.wasteMoved_supply, State.refreshUncovered_run]
      rfl
    · rw [State.confirmMarks, State.wasteMoved_supply, State.refreshUncovered_waste]
      rfl
    · rw [State.confirmMarks, State.wasteMoved_supply, State.refreshUncovered_slot]
      rfl

/-! ### Timeouts (R52, R56) -/

section
variable {s : State} {j : LinkJob} {rest : List LinkJob} {r : LinkRun}
  (hl : s.pins.resetLow = false) (hk : s.supply.link = { jobs := j :: rest, run := some r, draining := false })
include hl hk

theorem exec_timeout {c : Instr} (hc : c = if r.waiting then Instr.busyTimeout else .linkAnswerTimeout) :
    exec c s = .next (s.busyTimesOut j r).settle := by
  subst hc
  cases hw : r.waiting with
  | false =>
    have expires : s.answerTimesOut = some (s.busyTimesOut j r) := by simp [State.answerTimesOut, hk, hw]
    exact congrArg Host.Outcome.next (State.sensedSome_acts hl expires)
  | true =>
    have expires : s.waitTimesOut = some (s.busyTimesOut j r) := by simp [State.waitTimesOut, hk, hw]
    exact congrArg Host.Outcome.next (State.sensedSome_acts hl expires)

end

section
variable {s : State} {j : LinkJob} {rest : List LinkJob} {r : LinkRun}
  (hk : s.supply.link = { jobs := j :: rest, run := some r, draining := false }) (he : r.ending = false)
include hk he

theorem State.busyTimesOut_waits (hb : j.busy ≠ 2) : s.busyTimesOut j r =
    s.linked ({ j with busy := j.busy + 1 } :: rest) (some { r with waiting := true, left := 20 }) := by
  have again : ¬ j.busy + 1 = 3 := by omega
  unfold State.busyTimesOut
  rw [if_neg (by simp [he]), if_neg again, hk]
  exact State.afterTransaction_of_not_draining rfl

theorem State.busyTimesOut_faults (hb : j.busy = 2) : s.busyTimesOut j r = (s.linked rest none).faultPosition j.pos := by
  unfold State.busyTimesOut
  rw [if_neg (by simp [he]), if_pos (by rw [hb]), State.endJob_linked hk]
  refine State.afterTransaction_of_not_draining ?_
  rw [State.faultPosition_link]
  rfl

end

/-- Settles O39: each answer and each timeout is one of the cases that the link's rules tell apart. -/
theorem linkJobsRun : Obligations.LinkJobsRun := by
  intro s j rest r hl hk he linked faulted
  refine ⟨fun chip hc ha => ⟨fun busy hw => ?_, fun hb => ⟨fun hw => ?_, fun hw hr => ?_, fun hw hr => ?_, fun hw hr => ?_,
    fun hw hr hj i hi => ?_, fun hw hr hj => ⟨fun n hn more => ?_, fun same again => ?_, fun same third => ?_, fun fewer => ?_⟩⟩⟩,
    fun c hc => ⟨fun again => ?_, fun third => ?_⟩⟩
  · have stays : s.takeAnswer j r (.state true chip.latched) = s := by simp [State.takeAnswer, hw]
    have taken := exec_linkAnswer_reads hl hk he hc (by simpa [hw] using (chipRespond_busy ha busy).1)
      (by simp [LinkRun.answeredBy, hw]) (by rw [stays, hk])
    rwa [stays] at taken
  · have taken := exec_linkAnswer_moves hl hk he hc (by simpa [hw] using chipRespond_chipState ha hb)
      (by simp [LinkRun.answeredBy, hw]) (r' := { r with waiting := false, left := 1 })
      (fun t => by simp [State.takeAnswer, hw, Config.answerMs])
    rwa [Chips.put_at_self hc] at taken
  · have taken := exec_linkAnswer_moves hl hk he hc (by simpa [hw, hr] using chipRespond_idRead ha hb)
      (by simp [LinkRun.answeredBy, hw, hr])
      (r' := { r with ident := some chip.identity, cmd := .mapRead, waiting := true, left := 20 })
      (fun t => by simp [State.takeAnswer, State.nextCommand, hw, hr, Config.busyMs])
    rwa [Chips.put_at_self hc] at taken
  · exact exec_linkAnswer_moves hl hk he hc (by simpa [hw, hr] using chipRespond_arm ha hb)
      (by simp [LinkRun.answeredBy, hw, hr]) (r' := { r with cmd := .mark, waiting := true, left := 20 })
      (fun t => by simp [State.takeAnswer, State.nextCommand, hw, hr, Config.busyMs])
  · have acked : chipRespond chip .mark = ((chipRespond chip .mark).1, some .ack) :=
      Prod.ext rfl (by rw [chipRespond_mark ha hb])
    exact exec_linkAnswer_moves hl hk he hc (by simpa [hw, hr] using acked)
      (by simp [LinkRun.answeredBy, hw, hr]) (r' := { r with cmd := .mapRead, waiting := true, left := 20 })
      (fun t => by simp [State.takeAnswer, State.nextCommand, hw, hr, Config.busyMs])
  · exact exec_linkAnswer_identifies hl hk he hc ha hb hw hr hj hi
  · have judged := State.judgeAttempt_of_more hn more
    rw [hk] at judged
    refine ⟨_, exec_linkAnswer_judges hl hk he hc ha hb hw hr hj judged (State.confirmMarks_draining _ _ _),
      s.linked_confirms rest n hj rfl⟩
  · have judged := State.judgeAttempt_of_same same
    rw [if_neg again, hk] at judged
    exact exec_linkAnswer_judges hl hk he hc ha hb hw hr hj judged rfl
  · have judged := State.judgeAttempt_of_same same
    rw [if_pos third] at judged
    exact exec_linkAnswer_faults hl hk he hc ha hb hw hr hj judged
  · exact exec_linkAnswer_faults hl hk he hc ha hb hw hr hj (State.judgeAttempt_of_fewer fewer)
  · rw [exec_timeout hl hk hc, State.busyTimesOut_waits hk he again]
    rfl
  · exact ⟨_, by rw [exec_timeout hl hk hc, State.busyTimesOut_faults hk he third], s.linked_faults j rest⟩

end Sys2Proof.Machine
end

section
/-!
SUPPORT. A new slot map, slot by slot (R48), and the place that an accepted tank takes (R44, R46). O41 is settled from them.
-/

namespace Sys2Proof.Machine

/-! ### The slot map (R48) -/

section
variable (s : State) (m : Eight (Option Channel))

theorem State.remapSlot_map (k : SlotId) (e : Option Channel) (i : SlotId) :
    (s.remapSlot k e).supply.map.get i = if i = k then e else s.supply.map.get i := by
  have written : (s.supply.map.set k e).get i = if i = k then e else s.supply.map.get i := by
    split
    · next h => subst h; simp
    · next h => simp [h]
  unfold State.remapSlot
  split
  · next same =>
    split
    · next h => subst h; simpa using same
    · rfl
  · rw [← written]
    refine State.when_keeps _ (fun t => t.supply.map.get i) _ ?_
    simp [State.forgetSource, State.setLink, State.putSlot_supply]

/-- R48: an occupied slot whose entry changed is IDENTIFYING with nothing known of it, and every other slot is as it was. -/
theorem State.remapSlot_slot (k : SlotId) (e : Option Channel) (i : SlotId) : (s.remapSlot k e).supply.slot.get i =
    if i = k ∧ e ≠ s.supply.map.get i ∧ (s.supply.slot.get i).state ≠ .empty then
      { SlotRec.cleared with state := .identifying }
    else s.supply.slot.get i := by
  unfold State.remapSlot
  split
  · next same =>
    rw [if_neg]
    rintro ⟨rfl, changed, -⟩
    exact changed (eq_of_beq same).symm
  · next changed =>
    cases occupied : (s.supply.slot.get k).state != .empty with
    | false =>
      rw [if_neg]
      · rfl
      · rintro ⟨rfl, -, full⟩
        exact full (by simpa using occupied)
    | true =>
      have taken : ∀ t : State, (t.putSlot k { SlotRec.cleared with state := .identifying }).supply.slot =
          t.supply.slot.set k { SlotRec.cleared with state := .identifying } := fun t => by
        rw [t.putSlot_supply_of_not_usable k (r := { SlotRec.cleared with state := .identifying }) rfl rfl]
      simp only [State.when_true, State.forgetSource, State.setManifold_supply, State.setLink, State.setSupply_supply, taken]
      split
      · next h =>
        obtain ⟨rfl, -, -⟩ := h
        exact Eight.get_set_same _ _ _
      · next h =>
        refine Eight.get_set_other _ _ _ _ fun e' => h ?_
        subst e'
        exact ⟨rfl, fun e' => changed (by simp [e']), by simpa using occupied⟩

/-- The slots of a list have received their entries. -/
def State.remapped (l : List SlotId) : State := l.foldl (fun t k => t.remapSlot k (m.get k)) s

theorem State.remapped_slot (l : List SlotId) (i : SlotId) :
    (s.remapped m l).supply.map.get i = (if i ∈ l then m.get i else s.supply.map.get i) ∧
      (s.remapped m l).supply.slot.get i =
        if i ∈ l ∧ m.get i ≠ s.supply.map.get i ∧ (s.supply.slot.get i).state ≠ .empty then
          { SlotRec.cleared with state := .identifying }
        else s.supply.slot.get i := by
  induction l generalizing s with
  | nil => simp [State.remapped]
  | cons k l ih =>
    obtain ⟨map, slot⟩ := ih (s.remapSlot k (m.get k))
    rw [State.remapSlot_map] at map slot
    rw [State.remapSlot_slot] at slot
    refine ⟨map.trans ?_, slot.trans ?_⟩
    · by_cases h : i = k <;> simp [h]
    · by_cases h : i = k
      · subst h
        simp
      · simp [h]

theorem foldl_promote_promotes (l : List Channel) (s : State) : Promotes s.supply (l.foldl State.promote s).supply := by
  induction l generalizing s with
  | nil => exact .refl _
  | cons c l ih => exact (s.promote_promotes c).trans (ih _)

theorem State.takeMap_promotes : Promotes (s.remapped m SlotId.all).supply (s.takeMap m).supply := foldl_promote_promotes _ _

theorem State.takeMap_map : (s.takeMap m).supply.map = m := by
  refine (s.takeMap_promotes m).map.trans (Eight.ext_get _ _ fun i => ?_)
  rw [(s.remapped_slot m _ i).1, if_pos i.mem_all]

variable {s m} {i : SlotId}

theorem State.takeMap_changed (hm : m.get i ≠ s.supply.map.get i) (hs : (s.supply.slot.get i).state ≠ .empty) :
    (s.takeMap m).supply.slot.get i = { SlotRec.cleared with state := .identifying } := by
  have afresh := (s.remapped_slot m SlotId.all i).2
  rw [if_pos ⟨i.mem_all, hm, hs⟩] at afresh
  exact ((s.takeMap_promotes m).slot_of_not_waiting (by simp [afresh]) (by simp [afresh])).trans afresh

theorem State.takeMap_kept (h : m.get i = s.supply.map.get i ∨ (s.supply.slot.get i).state = .empty) :
    ((s.takeMap m).supply.slot.get i).drawn = (s.supply.slot.get i).drawn ∧
      ((s.takeMap m).supply.slot.get i).identity = (s.supply.slot.get i).identity := by
  have same := (s.remapped_slot m SlotId.all i).2
  rw [if_neg fun changed => h.elim changed.2.1 changed.2.2] at same
  obtain ⟨identity, -, drawn, -⟩ := (s.takeMap_promotes m).keeps i
  rw [same] at identity drawn
  exact ⟨drawn, identity⟩

end

section
variable {s : State} {e : Eight Nat} {m : Eight (Option Channel)}

/-- R48: what an accepted map makes of the state. -/
theorem decideSlotMapSet_accepts (hl : s.mode.lock = false) (he : mapOf? e = some m) (hm : mapLegal m = true)
    (ha : s.activeSheet = none) (hi : ∀ c, (s.session c).state = .idle) :
    decideSlotMapSet e s = Answer.accept (if m = s.supply.map then s else (s.takeMap m).settle) := by
  have idle : s.sessionsBusy = false := by
    refine List.any_eq_false.2 fun c _ => ?_
    simp [hi c]
  unfold decideSlotMapSet
  rw [if_neg (by simp [hl]), he]
  simp only [hm, ha, idle, Bool.not_true, Bool.false_eq_true, if_false, Option.isSome_none, Bool.or_self]
  split <;> rfl

/-- What a new map leaves, and what the reactions to it leave. -/
theorem slotMap_frame : let t := if m = s.supply.map then s else (s.takeMap m).settle
    t.pins = s.pins ∧ t.chips = s.chips ∧ t.mode.params = s.mode.params ∧ t.nozzles = s.nozzles ∧
      t.station.park = s.station.park ∧ t.ledger.wa = s.ledger.wa := by
  intro t
  have frame := s.takeMap_frame m
  have pins : (s.takeMap m).pins = s.pins := frame .pins (by decide)
  have chips : (s.takeMap m).chips = s.chips := frame .chips (by decide)
  have mode : (s.takeMap m).mode = s.mode := frame .mode (by decide)
  have nozzles : (s.takeMap m).nozzles = s.nozzles := frame .nozzles (by decide)
  have station : (s.takeMap m).station = s.station := frame .station (by decide)
  have ledger : (s.takeMap m).ledger = s.ledger := frame .ledger (by decide)
  by_cases same : m = s.supply.map
  · simp [t, same]
  · simp [t, same, pins, chips, mode, nozzles, station, ledger]

/-- What a new map makes of the supply. -/
theorem slotMap_supply : let t := if m = s.supply.map then s else (s.takeMap m).settle
    t.supply.map = m ∧
      (∀ k, m.get k ≠ s.supply.map.get k → (s.supply.slot.get k).state ≠ .empty →
        t.supply.slot.get k = { SlotRec.cleared with state := .identifying }) ∧
      (∀ k, (m.get k = s.supply.map.get k ∨ (s.supply.slot.get k).state = .empty) →
        (t.supply.slot.get k).drawn = (s.supply.slot.get k).drawn ∧
          (t.supply.slot.get k).identity = (s.supply.slot.get k).identity) := by
  intro t
  by_cases same : m = s.supply.map
  · have stays : t = s := if_pos same
    rw [stays]
    exact ⟨same.symm, fun k changed => absurd (by rw [same]) changed, fun _ _ => ⟨rfl, rfl⟩⟩
  · have taken : t = (s.takeMap m).settle := if_neg same
    rw [taken, State.settle_map, State.settle_slot]
    exact ⟨s.takeMap_map m, fun k => State.takeMap_changed, fun k => State.takeMap_kept⟩

end

/-! ### An accepted tank (R46) -/

section
variable (s : State) (k : SlotId) (c : Channel) (r : SlotRec)

/-- R59: a state that is announced and that the slot did not have raises TANK_CHANGE. -/
theorem State.putSlot_latches (hs : r.state ≠ (s.supply.slot.get k).state) (ha : r.state.announced = true) :
    (s.putSlot k r).Latched .tankChange := by
  unfold State.putSlot
  dsimp only
  exact (State.raiseIf_latched _ (by simp [hs, ha])).raiseIf _ _

theorem SlotRec.waiting_announced : r.waiting.announced = true := by
  unfold SlotRec.waiting
  split <;> rfl

theorem State.placeSlot_latches (h : (s.supply.slot.get k).state = .unidentified) : (s.placeSlot k c r).Latched .tankChange := by
  obtain ⟨x, hx, placed⟩ := s.placeSlot_cases k c r
  have changes : x ≠ (s.supply.slot.get k).state ∧ x.announced = true := by
    rw [h]
    rcases hx with rfl | rfl
    · decide
    · refine ⟨?_, r.waiting_announced⟩
      unfold SlotRec.waiting
      split <;> decide
  have latched := s.putSlot_latches k { r with state := x } changes.1 changes.2
  rcases placed with placed | ⟨j, q, -, placed⟩
  · rwa [placed]
  · rw [placed]
    exact latched.putSlot j q

theorem State.placeSlot_map : (s.placeSlot k c r).supply.map = s.supply.map := by
  obtain ⟨x, -, placed | ⟨j, q, -, placed⟩⟩ := s.placeSlot_cases k c r
  · rw [placed, State.putSlot_supply]
  · rw [placed, State.putSlot_supply, State.putSlot_supply]

/-- R44: in RUN. -/
theorem State.placeSlot_inRun (h : s.inStart = false) : s.placeSlot k c r =
    s.putSlot k { r with state := if s.supply.activeSlot c = none then .active else r.waiting } := by
  unfold State.placeSlot
  rw [if_neg (by simp [h])]
  split
  · next j found => simp [found]
  · next found => simp [found]

/-- Another usable slot of the channel. -/
def Supply.Rival (u : Supply) (k : SlotId) (c : Channel) (j : SlotId) : Prop :=
  j ≠ k ∧ u.map.get j = some c ∧ ((u.slot.get j).state = .active ∨ (u.slot.get j).state = .standby ∨ (u.slot.get j).state = .manual)

theorem SlotState.usable_iff (x : SlotState) : x.usable = true ↔ x = .active ∨ x = .standby ∨ x = .manual := by
  cases x <;> simp [SlotState.usable]

theorem Supply.rival_iff (u : Supply) (k : SlotId) (c : Channel) (j : SlotId) :
    u.Rival k c j ↔ j ∈ u.slotsOf c ∧ (j != k && (u.slot.get j).state.usable) = true := by
  simp only [Supply.Rival, Supply.slotsOf, List.mem_filter, j.mem_all, true_and, beq_iff_eq, Bool.and_eq_true, bne_iff_ne,
    SlotState.usable_iff]
  tauto

/-- The rival that R44 compares with. -/
def Supply.rival? (u : Supply) (k : SlotId) (c : Channel) : Option SlotId :=
  (u.slotsOf c).find? fun j => j != k && (u.slot.get j).state.usable

theorem Supply.rival?_eq_none {u : Supply} {k : SlotId} {c : Channel} (h : ∀ j, ¬u.Rival k c j) : u.rival? k c = none :=
  List.find?_eq_none.2 fun j hj usable => h j ((u.rival_iff k c j).2 ⟨hj, usable⟩)

theorem Supply.rival?_eq_some {u : Supply} {k j : SlotId} {c : Channel} (hj : u.Rival k c j)
    (only : ∀ j', u.Rival k c j' → j' = j) : u.rival? k c = some j := by
  cases found : u.rival? k c with
  | none =>
    obtain ⟨mem, usable⟩ := (u.rival_iff k c j).1 hj
    exact absurd usable (List.find?_eq_none.1 found j mem)
  | some j' =>
    unfold Supply.rival? at found
    have usable := List.find?_some found
    rw [only j' ((u.rival_iff k c j').2 ⟨List.mem_of_find?_eq_some found, usable⟩)]

variable {s k c r}

theorem State.placeSlot_alone (h : s.inStart = true) (hn : s.supply.rival? k c = none) :
    s.placeSlot k c r = s.putSlot k { r with state := .active } := by
  unfold State.placeSlot
  rw [if_pos h]
  unfold Supply.rival? at hn
  rw [hn]

theorem State.placeSlot_rival {j : SlotId} (h : s.inStart = true) (hj : s.supply.rival? k c = some j) : s.placeSlot k c r =
    if r.remaining < (s.supply.slot.get j).remaining ∨ (r.remaining = (s.supply.slot.get j).remaining ∧ k.toNat < j.toNat) then
      (s.putSlot k { r with state := .active }).putSlot j { s.supply.slot.get j with state := (s.supply.slot.get j).waiting }
    else (s.putSlot k { r with state := r.waiting }).putSlot j { s.supply.slot.get j with state := .active } := by
  unfold State.placeSlot
  rw [if_pos h]
  unfold Supply.rival? at hj
  rw [hj]

end

/-- The record of a manual tank of the volume given. -/
def SlotRec.accepted (ml : Nat) : SlotRec := { SlotRec.cleared with capacity := ml * 1000000, manual := true }

section
variable {s : State} {k : SlotId} {c : Channel} {ml : Nat}

theorem decideTankAccept_accepts {slot : Nat} (hk : SlotId.ofNat? slot = some k) (lo : 1 ≤ ml) (hi : ml ≤ 1000)
    (hs : (s.supply.slot.get k).state = .unidentified) (hc : s.supply.map.get k = some c) :
    decideTankAccept slot ml s = Answer.accept (s.acceptTank k c ml).settle := by
  simp [decideTankAccept, hk, between, lo, hi, hs, hc]

theorem State.acceptTank_eq : s.acceptTank k c ml = s.placeSlot k c (SlotRec.accepted ml) := rfl

theorem State.acceptTank_inRun (h : s.inRun = true) :
    ((s.acceptTank k c ml).supply.slot.get k).state = (if s.supply.activeSlot c = none then .active else .manual) ∧
      ∀ k', k' ≠ k → (s.acceptTank k c ml).supply.slot.get k' = s.supply.slot.get k' := by
  rw [State.acceptTank_eq, State.placeSlot_inRun _ _ _ _ (State.of_inRun h).1]
  exact ⟨by rw [State.putSlot_get_same]; rfl, fun k' other => State.putSlot_get_other _ _ other⟩

theorem State.acceptTank_alone (h : s.inStart = true) (hn : ∀ j, ¬s.supply.Rival k c j) :
    ((s.acceptTank k c ml).supply.slot.get k).state = .active ∧
      ∀ k', k' ≠ k → (s.acceptTank k c ml).supply.slot.get k' = s.supply.slot.get k' := by
  rw [State.acceptTank_eq, State.placeSlot_alone h (Supply.rival?_eq_none hn)]
  exact ⟨by rw [State.putSlot_get_same], fun k' other => State.putSlot_get_other _ _ other⟩

/-- The channel's two usable slots have taken their records. -/
theorem State.putSlot_putSlot (r q : SlotRec) {j : SlotId} (other : j ≠ k) :
    let u := (s.putSlot k r).putSlot j q
    (u.supply.slot.get k).state = r.state ∧ u.supply.slot.get j = { q with low := q.isLow s.params.inkLow } ∧
      ∀ k', k' ≠ k → k' ≠ j → u.supply.slot.get k' = s.supply.slot.get k' := by
  have params : (s.putSlot k r).params = s.params := by
    rw [State.params, s.putSlot_frame k r .mode (by decide)]
    rfl
  refine ⟨?_, ?_, fun k' hk hj => ?_⟩
  · rw [State.putSlot_get_other _ _ other.symm, State.putSlot_get_same]
  · rw [State.putSlot_get_same, params]
  · rw [State.putSlot_get_other _ _ hj, State.putSlot_get_other _ _ hk]

/-- R44: in START the two usable slots of a channel are compared. -/
theorem State.acceptTank_rival {j : SlotId} (h : s.inStart = true) (hj : s.supply.Rival k c j)
    (only : ∀ j', s.supply.Rival k c j' → j' = j) :
    let u := s.acceptTank k c ml
    let remaining := (s.supply.slot.get j).capacity - (s.supply.slot.get j).drawn
    (if ml * 1000000 < remaining ∨ (ml * 1000000 = remaining ∧ k.toNat < j.toNat) then
        (u.supply.slot.get k).state = .active ∧
        (u.supply.slot.get j).state = (if (s.supply.slot.get j).manual then .manual else .standby)
      else (u.supply.slot.get k).state = .manual ∧ (u.supply.slot.get j).state = .active) ∧
    (u.supply.slot.get j).capacity = (s.supply.slot.get j).capacity ∧
    (u.supply.slot.get j).drawn = (s.supply.slot.get j).drawn ∧
    (u.supply.slot.get j).marks = (s.supply.slot.get j).marks ∧
    (u.supply.slot.get j).manual = (s.supply.slot.get j).manual ∧
    (u.supply.slot.get j).identity = (s.supply.slot.get j).identity ∧
    ∀ k', k' ≠ k → k' ≠ j → u.supply.slot.get k' = s.supply.slot.get k' := by
  intro u remaining
  have placed : u = if ml * 1000000 < remaining ∨ (ml * 1000000 = remaining ∧ k.toNat < j.toNat) then
      (s.putSlot k { SlotRec.accepted ml with state := .active }).putSlot j
        { s.supply.slot.get j with state := (s.supply.slot.get j).waiting }
    else (s.putSlot k { SlotRec.accepted ml with state := .manual }).putSlot j
        { s.supply.slot.get j with state := .active } :=
    State.placeSlot_rival h (Supply.rival?_eq_some hj only)
  by_cases less : ml * 1000000 < remaining ∨ (ml * 1000000 = remaining ∧ k.toNat < j.toNat)
  · rw [if_pos less] at placed ⊢
    obtain ⟨self, partner, others⟩ := s.putSlot_putSlot (k := k) { SlotRec.accepted ml with state := .active }
      { s.supply.slot.get j with state := (s.supply.slot.get j).waiting } hj.1
    rw [placed, partner]
    exact ⟨⟨self, rfl⟩, rfl, rfl, rfl, rfl, rfl, others⟩
  · rw [if_neg less] at placed ⊢
    obtain ⟨self, partner, others⟩ := s.putSlot_putSlot (k := k) { SlotRec.accepted ml with state := .manual }
      { s.supply.slot.get j with state := .active } hj.1
    rw [placed, partner]
    exact ⟨⟨self, rfl⟩, rfl, rfl, rfl, rfl, rfl, others⟩

end

/-- Settles O41: the map is taken slot by slot, and the accepted tank takes its place by R44. -/
theorem slotMapAndAcceptanceApply : Obligations.SlotMapAndAcceptanceApply := by
  intro s p
  refine ⟨fun e m takes unlocked he legal noSheet idle => ?_, fun slot ml k c takes hk lo hi hs hc => ?_⟩
  · have runs : exec (.slotMapSet p e) s = .next (State.replied (if m = s.supply.map then s else (s.takeMap m).settle) s p 0x63
        .accepted 0 8) := by
      refine congrArg Host.Outcome.next ((s.takeWrite_takes p takes 8 _).trans ?_)
      rw [decideSlotMapSet_accepts unlocked he legal noSheet idle]
      rfl
    obtain ⟨map, changed, kept⟩ := slotMap_supply (s := s) (m := m)
    exact ⟨_, runs, map, State.replied_reply _ _ _ _ _ _ _, changed, kept, slotMap_frame⟩
  · intro rival remaining
    have runs : exec (.tankAccept p slot ml) s = .next ((s.acceptTank k c ml).settle.replied s p 0x64 .accepted 0 3) := by
      refine congrArg Host.Outcome.next ((s.takeWrite_takes p takes 3 _).trans ?_)
      rw [decideTankAccept_accepts hk lo hi hs hc]
      rfl
    obtain ⟨x, low, -, record⟩ := s.placeSlot_get_self k c (SlotRec.accepted ml)
    rw [← State.acceptTank_eq] at record
    refine ⟨_, runs, by rw [record]; rfl, by rw [record]; rfl, by rw [record]; rfl, by rw [record]; rfl, State.acceptTank_inRun,
      State.acceptTank_alone, fun start j => State.acceptTank_rival start, s.placeSlot_latches k c _ hs, s.placeSlot_map k c _,
      s.acceptTank_frame k c ml⟩

end Sys2Proof.Machine
end

section
/-!
SUPPORT. The berths: what the invariant of the link job queue (R53) speaks of, which is the positions that have a job, the positions
whose records hold something, and the slot that a running stroke draws from. What the hub does to them, but for an arrival and a
removal, brings in no position (`Berths.Leads`).
-/

namespace Sys2Proof.Machine

/-! ### The berths -/

/-- The positions of the link's jobs, in order; the positions whose slot is not EMPTY or whose cartridge is not ABSENT; and the slot
whose record a running stroke draws from. -/
structure Berths where
  posts : List LinkPos
  held : LinkPos → Bool
  source : Option SlotId

/-- The slot whose record a running stroke draws from (R42, R47). -/
def Pump.source : Pump → Option SlotId
  | .stroke r => if r.stands then some r.source else none
  | .free => none
  | .suction _ => none

/-- The record of the position holds something. -/
def Supply.holds (u : Supply) : LinkPos → Bool
  | .slot k => (u.slot.get k).state != .empty
  | .waste => u.waste.state != .absent

def State.berths (s : State) : Berths :=
  { posts := s.supply.link.jobs.map LinkJob.pos, held := s.supply.holds, source := s.manifold.pump.source }

namespace Berths

/-- The position has a job, or its record holds something, or a running stroke draws from it. -/
def Known (b : Berths) (p : LinkPos) : Prop := p ∈ b.posts ∨ b.held p = true ∨ b.source.map LinkPos.slot = some p

/-- One job of a position (R53), and a stroke draws from a record that holds something (R42). -/
def Sound (b : Berths) : Prop := b.posts.Nodup ∧ ∀ k, b.source = some k → b.held (.slot k) = true

/-- From one to another no position comes in, and what was sound stays so. -/
structure Leads (b b' : Berths) : Prop where
  known : ∀ p, b'.Known p → b.Known p
  sound : b.Sound → b'.Sound

/-- A MARK job is asked for (R53). -/
def ask (b : Berths) (p : LinkPos) : Berths := if p ∈ b.posts then b else { b with posts := b.posts ++ [p] }

/-- The record of a position changes. -/
def put (b : Berths) (p : LinkPos) (x : Bool) : Berths := { b with held := Function.update b.held p x }

/-- Something arrives at a position, and its job is appended (R41, R49). -/
def arrive (b : Berths) (p : LinkPos) : Berths := { b.put p true with posts := b.posts ++ [p] }

/-- What stood at a position leaves it, with its job (R42, R49). -/
def leave (b : Berths) (p : LinkPos) : Berths :=
  { posts := b.posts.filter fun q => q != p, held := Function.update b.held p false
    source := if b.source.map LinkPos.slot = some p then none else b.source }

variable {b b' b'' : Berths} {p : LinkPos} {k : SlotId}

theorem Known.of_posts (h : p ∈ b.posts) : b.Known p := .inl h

theorem Known.of_held (h : b.held p = true) : b.Known p := .inr (.inl h)

theorem Known.of_source (h : b.source = some k) : b.Known (.slot k) := .inr (.inr (by rw [h]; rfl))

namespace Leads

theorem refl (b : Berths) : b.Leads b := ⟨fun _ => id, id⟩

theorem trans (h : b.Leads b') (h' : b'.Leads b'') : b.Leads b'' := ⟨fun p => h.known p ∘ h'.known p, h'.sound ∘ h.sound⟩

/-- A job that a known position has not yet is appended. -/
theorem post (h : b.Leads b') (hp : b.Known p) (hn : p ∉ b'.posts) : b.Leads { b' with posts := b'.posts ++ [p] } := by
  refine ⟨fun q hq => ?_, fun hs => ?_⟩
  · rcases hq with hq | hq
    · rcases List.mem_append.1 hq with hq | hq
      · exact h.known q (.of_posts hq)
      · exact List.mem_singleton.1 hq ▸ hp
    · exact h.known q (.inr hq)
  · obtain ⟨once, source⟩ := h.sound hs
    exact ⟨once.append (List.nodup_singleton p) (by simpa using hn), source⟩

theorem ask (h : b.Leads b') (hp : b.Known p) : b.Leads (b'.ask p) := by
  unfold Berths.ask
  split
  · exact h
  · next hn => exact h.post hp hn

/-- Jobs leave the queue. -/
theorem drop (h : b.Leads b') {l : List LinkPos} (hl : l.Sublist b'.posts) : b.Leads { b' with posts := l } :=
  ⟨fun q hq => h.known q (hq.imp_left fun hq => hl.subset hq), fun hs => ⟨(h.sound hs).1.sublist hl, (h.sound hs).2⟩⟩

/-- The record of a known position comes to hold something. -/
theorem put (h : b.Leads b') (hp : b.Known p) : b.Leads (b'.put p true) := by
  refine ⟨fun q hq => ?_, fun hs => ⟨(h.sound hs).1, fun k hk => ?_⟩⟩
  · by_cases e : q = p
    · exact e ▸ hp
    · exact h.known q (by simpa [Known, Berths.put, Function.update_of_ne e] using hq)
  · have held := (h.sound hs).2 k hk
    by_cases e : LinkPos.slot k = p <;> simp [Berths.put, e, held]

/-- The pump draws from no slot. -/
theorem draw_none (h : b.Leads b') : b.Leads { b' with source := none } :=
  ⟨fun q hq => h.known q (hq.imp_right fun hq => hq.imp_right fun hq => by cases hq), fun hs => ⟨(h.sound hs).1, nofun⟩⟩

/-- The pump draws from a slot whose record holds something (R13). -/
theorem draw (h : b.Leads b') (hk : b'.held (.slot k) = true) : b.Leads { b' with source := some k } := by
  refine ⟨fun q hq => ?_, fun hs => ⟨(h.sound hs).1, fun j hj => ?_⟩⟩
  · rcases hq with hq | hq | hq
    · exact h.known q (.of_posts hq)
    · exact h.known q (.of_held hq)
    · exact h.known q (.of_held (Option.some.inj hq ▸ hk))
  · cases hj
    exact hk

end Leads

theorem put_self (b : Berths) (p : LinkPos) : b.put p (b.held p) = b := by simp [put]

/-- What has arrived is known beside what was. -/
theorem arrive_sound (h : b.Sound) (hp : ¬b.Known p) :
    (b.arrive p).Sound ∧ ∀ q, (b.arrive p).Known q → q = p ∨ b.Known q := by
  have free : p ∉ b.posts := fun hq => hp (.of_posts hq)
  refine ⟨⟨h.1.append (List.nodup_singleton p) (by simpa using free), fun k hk => ?_⟩, fun q hq => ?_⟩
  · have held := h.2 k hk
    by_cases e : LinkPos.slot k = p <;> simp [arrive, put, e, held]
  · by_cases e : q = p
    · exact .inl e
    · exact .inr (by simpa [Known, arrive, put, Function.update_of_ne e, e] using hq)

/-- What has left is known no more. -/
theorem leave_sound (h : b.Sound) (p : LinkPos) :
    (b.leave p).Sound ∧ ∀ q, (b.leave p).Known q → q ≠ p ∧ b.Known q := by
  refine ⟨⟨h.1.filter _, fun k hk => ?_⟩, fun q hq => ?_⟩
  · simp only [leave] at hk ⊢
    split at hk
    · cases hk
    · next other =>
      have e : LinkPos.slot k ≠ p := fun e => other (by rw [hk, ← e]; rfl)
      rw [Function.update_of_ne e]
      exact h.2 k hk
  · simp only [leave, Known, List.mem_filter, Function.update_apply, bne_iff_ne] at hq
    rcases hq with ⟨hq, ne⟩ | hq | hq
    · exact ⟨ne, .of_posts hq⟩
    · split at hq
      · cases hq
      · next ne => exact ⟨ne, .of_held hq⟩
    · split at hq
      · cases hq
      · next other => exact ⟨fun e => other (e ▸ hq), .inr (.inr hq)⟩

end Berths

/-- While the reset line is high, something is inserted at the position. -/
def Pins.occupied (x : Pins) : LinkPos → Prop
  | .slot k => x.resetLow = false → x.slotPresent.get k = true
  | .waste => x.resetLow = false → x.wastePresent = true

theorem LinkPos.length_le_of_nodup {l : List LinkPos} (h : l.Nodup) : l.length ≤ 9 := by
  have every : l ⊆ SlotId.all.map LinkPos.slot ++ [LinkPos.waste] := fun p _ => by
    cases p with
    | slot k => simp [k.mem_all]
    | waste => simp
  exact (List.subperm_of_subset h every).length_le

/-- The invariant of the link job queue is one of the berths: they are sound, and what they know is occupied. -/
theorem State.linkQueueFits_iff (s : State) :
    s.LinkQueueFits ↔ s.berths.Sound ∧ ∀ p, s.berths.Known p → s.pins.occupied p := by
  constructor
  · intro h
    have source : ∀ k, s.berths.source = some k → s.supply.holds (.slot k) = true := by
      intro k hk
      simp only [State.berths, Pump.source] at hk
      split at hk
      · next r pump =>
        split at hk
        · next stands => cases hk; simpa [Supply.holds] using h.source r pump stands
        · cases hk
      all_goals cases hk
    have holds : ∀ p, s.supply.holds p = true → s.pins.occupied p := by
      rintro (k | _) hp high
      · exact h.slots high k (by simpa [Supply.holds] using hp)
      · exact h.cartridge high (by simpa [Supply.holds] using hp)
    refine ⟨⟨h.once, source⟩, ?_⟩
    rintro p (hp | hp | hp)
    · obtain ⟨j, hj, rfl⟩ := List.mem_map.1 hp
      cases hpos : j.pos with
      | slot k => exact fun high => h.slotJobs high j hj k hpos
      | waste => exact fun high => h.wasteJobs high j hj hpos
    · exact holds p hp
    · obtain ⟨k, hk, rfl⟩ := Option.map_eq_some_iff.1 hp
      exact holds _ (source k hk)
  · rintro ⟨⟨once, source⟩, known⟩
    refine ⟨once, by simpa [State.berths] using LinkPos.length_le_of_nodup once, fun high j hj k hpos => ?_, fun high j hj hpos => ?_,
      fun high k hk => ?_, fun high hw => ?_, fun r pump stands => ?_⟩
    · exact known (.slot k) (.of_posts (List.mem_map.2 ⟨j, hj, hpos⟩)) high
    · exact known .waste (.of_posts (List.mem_map.2 ⟨j, hj, hpos⟩)) high
    · exact known (.slot k) (.of_held (by simpa [State.berths, Supply.holds] using hk)) high
    · exact known .waste (.of_held (by simpa [State.berths, Supply.holds] using hw)) high
    · simpa [State.berths, Supply.holds] using source r.source (by simp [State.berths, pump, Pump.source, stands])

end Sys2Proof.Machine
end

section
/-!
SUPPORT. The racks: what the invariants of the queues speak of (R61, R62, R97, R98, R116, R134, R53), and the operations that leave
them as they are (their `_racks` lemmas).
-/

namespace Sys2Proof.Machine

/-! ### Places of the service queue (R134) -/

/-- The place of the service queue that an item can take: one for a SPIT, one for a CHECK, one for the CLEANs of each head. -/
def Work.lane : Work → Fin 5
  | .spit _ => 0
  | .check _ => 1
  | .clean .h0 _ _ _ _ => 2
  | .clean .h1 _ _ _ _ => 3
  | .clean .h2 _ _ _ _ => 4

/-- Items merge that take the same place. -/
theorem Work.mergesWith_eq (w w' : Work) : w.mergesWith w' = decide (w.lane = w'.lane) := by
  cases w with
  | clean h =>
    cases w' with
    | clean h' => cases h <;> cases h' <;> rfl
    | _ => cases h <;> rfl
  | _ =>
    cases w' with
    | clean h' => cases h' <;> rfl
    | _ => rfl

theorem Work.mergesWith_iff {w w' : Work} : w.mergesWith w' = true ↔ w.lane = w'.lane := by simp [Work.mergesWith_eq]

/-- A merge keeps the place (R135 to R137). -/
theorem Work.lane_merge (w w' : Work) : (w.merge w').lane = w.lane := by
  cases w with
  | clean h => cases w' <;> cases h <;> rfl
  | _ => cases w' <;> rfl

/-- A SPIT that a head leaves keeps its place (R135). -/
theorem Work.lane_without (h : Head) (w : Work) : (w.without h).lane = w.lane := by cases w <;> rfl

def State.lanes (s : State) : List (Fin 5) := s.service.queue.map fun i => i.work.lane

/-- The service queue is within its places where no two of its items take the same. -/
theorem State.serviceQueueFits_iff (s : State) : s.ServiceQueueFits ↔ s.lanes.Nodup := by
  have apart : s.service.queue.Pairwise (fun i j => i.work.mergesWith j.work = false) ↔ s.lanes.Nodup := by
    simp [State.lanes, List.Nodup, List.pairwise_map, Work.mergesWith_eq]
  refine ⟨fun h => apart.1 h.1, fun h => ⟨apart.2 h, ?_⟩⟩
  simpa [State.lanes] using h.length_le_card

/-! ### The racks -/

/-- How many tickets, sheets and outcomes there are, the numbers next assigned, the places taken in the service queue, the berths, and
the positions at which something is inserted. -/
@[ext] structure Racks where
  tickets : Nat
  nextNumber : Nat
  sheets : Nat
  outcomes : Nat
  nextId : Nat
  lanes : List (Fin 5)
  berths : Berths
  occupied : LinkPos → Prop

def State.racks (s : State) : Racks :=
  { tickets := s.tickets.queue.length, nextNumber := s.tickets.nextNumber, sheets := s.sheets.queue.length
    outcomes := s.sheets.outcomes.length, nextId := s.sheets.nextId, lanes := s.lanes, berths := s.berths
    occupied := s.pins.occupied }

/-- The queues and the outcome list are within their places, and the numbers next assigned in 1..255. -/
def Racks.Fit (r : Racks) : Prop :=
  r.tickets ≤ Config.ticketPlaces ∧ r.sheets ≤ Config.sheetPlaces ∧ r.outcomes ≤ Config.sheetPlaces ∧ 1 ≤ r.nextNumber ∧
    r.nextNumber ≤ 255 ∧ 1 ≤ r.nextId ∧ r.nextId ≤ 255

theorem State.queuesFit_iff (s : State) : s.QueuesFit ↔ s.racks.Fit := Iff.rfl

/-- A frame outside the pins, the manifold, the supply, the tickets, the sheets and the service leaves the racks. -/
theorem Frame.racks {bs : List Block} {s t : State} (h : Frame bs s t)
    (hb : decide (Block.pins ∉ bs ∧ Block.manifold ∉ bs ∧ Block.supply ∉ bs ∧ Block.tickets ∉ bs ∧ Block.sheets ∉ bs ∧
      Block.service ∉ bs) = true) : t.racks = s.racks := by
  obtain ⟨h1, h2, h3, h4, h5, h6⟩ := of_decide_eq_true hb
  have hp : t.pins = s.pins := h .pins h1
  have hm : t.manifold = s.manifold := h .manifold h2
  have hu : t.supply = s.supply := h .supply h3
  have ht : t.tickets = s.tickets := h .tickets h4
  have hh : t.sheets = s.sheets := h .sheets h5
  have hs : t.service = s.service := h .service h6
  simp only [State.racks, State.lanes, State.berths, hp, hm, hu, ht, hh, hs]

section
variable (s : State)

/-! ### The updates -/

@[simp] theorem State.setPending_racks (x : List Instr) : (s.setPending x).racks = s.racks := by rfl
@[simp] theorem State.setMode_racks (x : ModeUnit) : (s.setMode x).racks = s.racks := by rfl
@[simp] theorem State.setPorts_racks (x : PerPort PortRec) : (s.setPorts x).racks = s.racks := by rfl
@[simp] theorem State.setLedger_racks (x : Ledger) : (s.setLedger x).racks = s.racks := by rfl
@[simp] theorem State.setFeed_racks (x : Feed) : (s.setFeed x).racks = s.racks := by rfl
@[simp] theorem State.setStation_racks (x : Station) : (s.setStation x).racks = s.racks := by rfl
@[simp] theorem State.setDue_racks (x : Due) : (s.setDue x).racks = s.racks := by rfl
@[simp] theorem State.modPort_racks (p : Port) (f : PortRec → PortRec) : (s.modPort p f).racks = s.racks := by rfl
@[simp] theorem State.replied_racks (r : State) (p : Port) (c : Nat) (k : ReplyCode) (v n : Nat) :
    (s.replied r p c k v n).racks = s.racks := by rfl

theorem State.setPins_racks {x : Pins} (h : x.occupied = s.pins.occupied) : (s.setPins x).racks = s.racks := by
  simp only [State.racks, State.setPins_pins, h]
  rfl

@[simp] theorem State.when_racks (b : Bool) {f : State → State} (h : ∀ t, (f t).racks = t.racks) :
    (s.when b f).racks = s.racks := by
  cases b
  · rfl
  · exact h s

@[simp] theorem State.foldl_racks {α : Type} (l : List α) {f : State → α → State} (h : ∀ t x, (f t x).racks = t.racks) :
    (l.foldl f s).racks = s.racks := by
  induction l generalizing s with
  | nil => rfl
  | cons x l ih => exact (ih (f s x)).trans (h s x)

/-! ### Events, modes, and what is due -/

@[simp] theorem State.raise_racks (e : Event) : (s.raise e).racks = s.racks := by rfl
@[simp] theorem State.raiseIf_racks (b : Bool) (e : Event) : (s.raiseIf b e).racks = s.racks := (s.raiseIf_frame b e).racks rfl
@[simp] theorem State.raiseSurveys_racks (b : Bool) : (s.raiseSurveys b).racks = s.racks := by simp [State.raiseSurveys]
@[simp] theorem State.loadIdleSleep_racks : s.loadIdleSleep.racks = s.racks := by rfl
@[simp] theorem State.enterSleep_racks : s.enterSleep.racks = s.racks := by rfl
@[simp] theorem State.enterRun_racks : s.enterRun.racks = s.racks := by rfl
@[simp] theorem State.setParams_racks (p : Params) : (s.setParams p).racks = s.racks := by rfl
@[simp] theorem State.duePass_racks : s.duePass.racks = s.racks := by rfl
@[simp] theorem State.dueArbiter_racks : s.dueArbiter.racks = s.racks := by rfl
@[simp] theorem State.dueExamine_racks : s.dueExamine.racks = s.racks := by rfl
@[simp] theorem State.dueStroke_racks (c : Channel) (b : Bool) : (s.dueStroke c b).racks = s.racks := by rfl
@[simp] theorem State.wasteMoved_racks : s.wasteMoved.racks = s.racks := s.wasteMoved_frame.racks rfl
@[simp] theorem State.reportRolls_racks (old : Two RollRec) : (s.reportRolls old).racks = s.racks := (s.reportRolls_frame old).racks rfl

/-! ### The ledger -/

@[simp] theorem State.setDv_racks (m : Six Bool) (v : Nat) : (s.setDv m v).racks = s.racks := by rfl
@[simp] theorem State.setWa_racks (n : Nat) : (s.setWa n).racks = s.racks := by rfl
@[simp] theorem State.ledgerOp_racks (f : Channel → ChannelRec → ChannelRec) : (s.ledgerOp f).racks = s.racks :=
  (s.ledgerOp_frame f).racks rfl
@[simp] theorem State.recomputeLevels_racks : s.recomputeLevels.racks = s.racks := s.recomputeLevels_frame.racks rfl
@[simp] theorem State.setLevel_racks (c : Channel) (n : Nat) : (s.setLevel c n).racks = s.racks := s.ledgerOp_racks _
@[simp] theorem State.creditStroke_racks (c : Channel) (v : Nat) : (s.creditStroke c v).racks = s.racks := s.ledgerOp_racks _
@[simp] theorem State.reserveInk_racks (t : Ticket) : (s.reserveInk t).racks = s.racks := s.ledgerOp_racks _
@[simp] theorem State.releaseInk_racks (ts : List Ticket) : (s.releaseInk ts).racks = s.racks := s.ledgerOp_racks _

/-! ### Sessions of the manifold -/

@[simp] theorem State.setSession_racks (c : Channel) (x : Session) : (s.setSession c x).racks = s.racks := by rfl
@[simp] theorem State.putSession_racks (c : Channel) (x : SessionState) : (s.putSession c x).racks = s.racks := by rfl
@[simp] theorem State.clearDemand_racks (c : Channel) : (s.clearDemand c).racks = s.racks := by rfl
@[simp] theorem State.enterWant_racks (c : Channel) : (s.enterWant c).racks = s.racks := by rfl
@[simp] theorem State.setDemands_racks (cs : List Channel) : (s.setDemands cs).racks = s.racks := s.foldl_racks cs fun _ _ => rfl
@[simp] theorem State.fillFound_racks (c : Channel) : (s.fillFound c).racks = s.racks := by simp [State.fillFound]

@[simp] theorem State.requestSuction_racks (h : Head) (l : Nat) : (s.requestSuction h l).racks = s.racks := by
  simp only [State.requestSuction]
  exact State.foldl_racks _ _ fun t c => t.when_racks _ fun u => u.putSession_racks c _

@[simp] theorem State.askSuction_racks (h : Head) (l : Nat) : (s.askSuction h l).racks = s.racks := by simp [State.askSuction]

/-- A running suction that is marked goes on (R130). -/
@[simp] theorem State.orphanSuction_racks : s.orphanSuction.racks = s.racks := by
  unfold State.orphanSuction
  split
  · rfl
  · split
    · split
      · next pump =>
        have source : (s.setPump (.suction { ‹SuctionRun› with orphan := true })).berths = s.berths := by
          simp [State.setPump, State.berths, pump, Pump.source]
        simp only [State.racks, source]
        rfl
      all_goals rfl
    · rfl

/-! ### Tickets and sheets in their places -/

@[simp] theorem State.modTicket_racks (n : Nat) (f : Ticket → Ticket) : (s.modTicket n f).racks = s.racks := by
  simp only [State.racks, State.modTicket, State.setTickets_tickets, List.length_map]
  rfl

@[simp] theorem State.modSheet_racks (n : Nat) (f : Sheet → Sheet) : (s.modSheet n f).racks = s.racks := by
  simp only [State.racks, State.modSheet, State.setSheets_sheets, List.length_map]
  rfl

@[simp] theorem State.takeTicket_racks (n : Nat) : (s.takeTicket n).racks = s.racks := s.modTicket_racks n _
@[simp] theorem State.clearCapDue_racks : s.clearCapDue.racks = s.racks := by rfl
@[simp] theorem State.holdCapDelay_racks : s.holdCapDelay.racks = s.racks := by simp [State.holdCapDelay]
@[simp] theorem State.reserveTicket_racks (t : Ticket) : (s.reserveTicket t).racks = s.racks := by simp [State.reserveTicket]
@[simp] theorem State.startDrying_racks (h : Sheet) : (s.startDrying h).racks = s.racks := by simp [State.startDrying]

@[simp] theorem State.examineSheet_racks (h : Sheet) : (s.examineSheet h).racks = s.racks := by
  unfold State.examineSheet
  repeat' split
  all_goals simp

@[simp] theorem State.chooseAgain_racks (h : Sheet) : (s.chooseAgain h).racks = s.racks := by
  unfold State.chooseAgain
  repeat' split
  all_goals simp

/-! ### The feed unit, but for the sheets that it has removed -/

@[simp] theorem State.setRoll_racks (r : Roll) (x : RollRec) : (s.setRoll r x).racks = s.racks := by rfl
@[simp] theorem State.modPathRoll_racks (f : RollRec → RollRec) : (s.modPathRoll f).racks = s.racks := (s.modPathRoll_frame f).racks rfl
@[simp] theorem State.endOp_racks (p : PathState) : (s.endOp p).racks = s.racks := by rfl
@[simp] theorem State.startOp_racks (p : PathState) (o : FeedOp) : (s.startOp p o).racks = s.racks := by rfl
@[simp] theorem State.pathFaults_racks (w : FeedCause) (e : Event) : (s.pathFaults w e).racks = s.racks := by rfl
@[simp] theorem State.rollArrives_racks (r : Roll) : (s.rollArrives r).racks = s.racks := by simp [State.rollArrives]
@[simp] theorem State.describeRoll_racks (r : Roll) (m w l : Nat) : (s.describeRoll r m w l).racks = s.racks := by
  simp [State.describeRoll]
@[simp] theorem State.completeSwap_racks (o : FeedOp) (r : Roll) : (s.completeSwap o r).racks = s.racks := by
  simp [State.completeSwap]

@[simp] theorem State.proceedSwap_racks (o : FeedOp) : (s.proceedSwap o).racks = s.racks := by
  unfold State.proceedSwap
  repeat' split
  all_goals simp

@[simp] theorem State.advanceDone_racks (o : FeedOp) : (s.advanceDone o).racks = s.racks := by
  unfold State.advanceDone
  repeat' split
  all_goals simp

@[simp] theorem State.completeAdvance_racks (o : FeedOp) : (s.completeAdvance o).racks = s.racks := by simp [State.completeAdvance]

@[simp] theorem State.requestSwap_racks (h : Sheet) (r : Roll) : (s.requestSwap h r).racks = s.racks := by
  unfold State.requestSwap
  repeat' split
  all_goals simp [State.startSwap]

@[simp] theorem State.requestCut_racks (h : Sheet) : (s.requestCut h).racks = s.racks := by
  unfold State.requestCut
  split <;> simp

/-! ### The station and the nozzle tables -/

@[simp] theorem State.placeOrder_racks (k : OrderKind) (m : Three Bool) (d : Nat) (o : OrderOrigin) :
    (s.placeOrder k m d o).racks = s.racks := by rfl
@[simp] theorem State.placePark_racks (o : OrderOrigin) : (s.placePark o).racks = s.racks := by rfl
@[simp] theorem State.finishOrder_racks : s.finishOrder.racks = s.racks := by rfl
@[simp] theorem State.startMove_racks (k : MoveKind) (x : StationState) (n : Nat) : (s.startMove k x n).racks = s.racks := by rfl
@[simp] theorem State.startWipe_racks : s.startWipe.racks = s.racks := by rfl
@[simp] theorem State.enterOpen_racks : s.enterOpen.racks = s.racks := by rfl
@[simp] theorem State.startUncap_racks : s.startUncap.racks = s.racks := by simp [State.startUncap]
@[simp] theorem State.putNozzles_racks (x : Six NozzleRec) : (s.putNozzles x).racks = s.racks := (s.putNozzles_frame x).racks rfl
@[simp] theorem State.unfailHead_racks (h : Head) : (s.unfailHead h).racks = s.racks := by rfl

/-! ### The berths after an update of the supply or the pump -/

theorem State.setLink_berths (l : Link) : (s.setLink l).berths = { s.berths with posts := l.jobs.map LinkJob.pos } := by rfl

/-- The jobs of the link stand at the positions at which they stood. -/
theorem State.setLink_racks {l : Link} (h : l.jobs.map LinkJob.pos = s.supply.link.jobs.map LinkJob.pos) :
    (s.setLink l).racks = s.racks := by
  have kept : (s.setLink l).berths = s.berths := by rw [State.setLink_berths, h]; rfl
  simp only [State.racks, kept]
  rfl

@[simp] theorem State.nextCommand_racks (r : LinkRun) (c : ChipCommand) : (s.nextCommand r c).racks = s.racks := by rfl

theorem State.setWaste_berths (w : WasteRec) : (s.setWaste w).berths = s.berths.put .waste (w.state != .absent) := by
  simp only [State.berths, Berths.put, State.setWaste, State.setSupply_supply, State.setSupply_manifold, Berths.mk.injEq,
    true_and, and_true]
  funext p
  cases p <;> simp [Supply.holds]

theorem State.putSlot_berths (k : SlotId) (r : SlotRec) :
    (s.putSlot k r).berths = s.berths.put (.slot k) (r.state != .empty) := by
  have kept : (s.putSlot k r).manifold = s.manifold := s.putSlot_frame k r .manifold (by decide)
  simp only [State.berths, Berths.put, kept, State.putSlot_supply, Berths.mk.injEq, true_and, and_true]
  funext p
  cases p with
  | slot j => by_cases h : j = k <;> simp [Supply.holds, h]
  | waste => simp [Supply.holds]

theorem State.setManifold_berths (x : Manifold) : (s.setManifold x).berths = { s.berths with source := x.pump.source } := by rfl

/-- A frame outside the pins, the tickets, the sheets and the service leaves the racks but for the berths. -/
theorem Frame.racks_of_berths {bs : List Block} {t : State} (h : Frame bs s t)
    (hb : decide (Block.pins ∉ bs ∧ Block.tickets ∉ bs ∧ Block.sheets ∉ bs ∧ Block.service ∉ bs) = true) :
    t.racks = { s.racks with berths := t.berths } := by
  obtain ⟨h1, h4, h5, h6⟩ := of_decide_eq_true hb
  have hp : t.pins = s.pins := h .pins h1
  have ht : t.tickets = s.tickets := h .tickets h4
  have hh : t.sheets = s.sheets := h .sheets h5
  have hs : t.service = s.service := h .service h6
  simp only [State.racks, State.lanes, hp, ht, hh, hs]

/-- Partners that become ACTIVE stood in their slots before (R45). -/
theorem Promotes.holds {u v : Supply} (h : Promotes u v) : v.holds = u.holds := by
  funext p
  cases p with
  | slot k =>
    rcases h.slots k with kept | ⟨waited, low, active⟩
    · simp [Supply.holds, kept]
    · rcases waited with waited | waited <;> simp only [Supply.holds, active, waited] <;> rfl
  | waste => simp [Supply.holds, h.waste]

theorem State.promoteFor_berths (k : SlotId) : (s.promoteFor k).berths = s.berths := by
  have promotes := s.promoteFor_promotes k
  have kept : (s.promoteFor k).manifold = s.manifold := s.promoteFor_frame k .manifold (by decide)
  simp only [State.berths, promotes.link, promotes.holds, kept]

theorem State.promote_berths (c : Channel) : (s.promote c).berths = s.berths := by
  have promotes := s.promote_promotes c
  have kept : (s.promote c).manifold = s.manifold := s.promote_frame c .manifold (by decide)
  simp only [State.berths, promotes.link, promotes.holds, kept]

/-- R50: a cartridge that is FULL was READY before. -/
theorem State.refreshFull_berths : s.refreshFull.berths = s.berths := by
  have kept : s.refreshFull.manifold = s.manifold := s.refreshFull_frame .manifold (by decide)
  have state := congrArg WasteRec.state s.refreshFull_waste
  rw [WasteRec.judged_state] at state
  simp only [State.berths, State.refreshFull_link, kept, Berths.mk.injEq, true_and, and_true]
  funext p
  cases p with
  | slot k => simp [Supply.holds]
  | waste =>
    simp only [Supply.holds, state]
    split
    · next full => rw [full.1]; rfl
    · rfl

@[simp] theorem State.refreshFull_racks : s.refreshFull.racks = s.racks := by
  rw [Frame.racks_of_berths s s.refreshFull_frame rfl, State.refreshFull_berths]
  rfl

/-- Every slot keeps its state where the low flags are recomputed (R58). -/
@[simp] theorem State.recomputeLow_racks : s.recomputeLow.racks = s.racks := by
  refine State.foldl_racks s _ fun t k => ?_
  have same : (t.putSlot k (t.supply.slot.get k)).berths = t.berths := by
    rw [State.putSlot_berths]
    exact t.berths.put_self (.slot k)
  rw [Frame.racks_of_berths t (t.putSlot_frame k _) rfl, same]
  rfl

end

end Sys2Proof.Machine
end

section
/-!
SUPPORT. What the supply link, the slots, the cartridge, the sessions and the pump do to the berths: they ask for, identify and draw from
positions alone that the berths know (`_leads`; R42, R44, R47, R53 to R56, R60).
-/

namespace Sys2Proof.Machine

/-! ### The jobs and the pump -/

section
variable (s : State)

@[simp] theorem State.berths_posts : s.berths.posts = s.supply.link.jobs.map LinkJob.pos := by rfl

theorem State.endJob_berths : s.endJob.berths = { s.berths with posts := s.berths.posts.tail } := by
  rw [State.endJob, State.setLink_berths]
  simp [Link.endJob]

theorem State.requestIdentify_berths (p : LinkPos) :
    (s.requestIdentify p).berths = { s.berths with posts := s.berths.posts ++ [p] } := by
  rw [State.requestIdentify, State.setLink_berths]
  simp [Link.requestIdentify, LinkJob.identify]

theorem State.dropJob_berths (p : LinkPos) :
    (s.dropJob p).berths = { s.berths with posts := s.berths.posts.filter fun q => q != p } := by
  rw [State.dropJob, State.setLink_berths]
  simp [Link.drop, List.filter_map, Function.comp_def]

theorem Link.jobAt_isSome (l : Link) (p : LinkPos) : (l.jobAt p).isSome = true ↔ p ∈ l.jobs.map LinkJob.pos := by
  simp [Link.jobAt]

/-- R53: a MARK request changes no position but for the job that it appends. -/
theorem State.requestMark_berths (p : LinkPos) (n : Nat) : (s.requestMark p n).berths = s.berths.ask p := by
  have asked := s.supply.link.jobAt_isSome p
  unfold State.requestMark Link.requestMark Berths.ask
  rw [State.berths_posts]
  dsimp only
  split
  · next none =>
    rw [none] at asked
    rw [if_neg (fun hp => nomatch asked.2 hp), State.setLink_berths]
    simp [LinkJob.mark]
  · next some =>
    rw [some] at asked
    rw [if_pos (asked.1 rfl), State.setLink_berths]
    have stay : ∀ j : LinkJob, (if j.pos == p && j.kind == .mark then { j with target := max j.target (min n Config.marksFull) }
        else j).pos = j.pos := by
      intro j
      split <;> rfl
    simp only [List.map_map, Function.comp_def, stay]
    rfl

/-- A slot that keeps its state. -/
theorem State.putSlot_berths_same {k : SlotId} {r : SlotRec} (h : r.state = (s.supply.slot.get k).state) :
    (s.putSlot k r).berths = s.berths := by
  rw [State.putSlot_berths, h]
  exact s.berths.put_self (.slot k)

/-- A cartridge that keeps its state. -/
theorem State.setWaste_berths_same {w : WasteRec} (h : w.state = s.supply.waste.state) : (s.setWaste w).berths = s.berths := by
  rw [State.setWaste_berths, h]
  exact s.berths.put_self .waste

end

variable {b : Berths} {s t : State} {k : SlotId} {p : LinkPos}

/-! ### What the berths know -/

namespace Berths.Leads

theorem same (h : b.Leads s.berths) (e : t.racks = s.racks) : b.Leads t.berths := by
  rwa [show t.berths = s.berths from congrArg Racks.berths e]

theorem knows_slot (h : b.Leads s.berths) (hk : (s.supply.slot.get k).state ≠ .empty) : b.Known (.slot k) :=
  h.known _ (.of_held (bne_iff_ne.2 hk))

theorem knows_waste (h : b.Leads s.berths) (hw : s.supply.waste.state ≠ .absent) : b.Known .waste :=
  h.known _ (.of_held (bne_iff_ne.2 hw))

theorem knows_active (h : b.Leads s.berths) {c : Channel} (hk : s.supply.activeSlot c = some k) : b.Known (.slot k) := by
  have active : (s.supply.slot.get k).state = .active := by simpa using List.find?_some hk
  exact h.knows_slot (by simp [active])

theorem knows_identified (h : b.Leads s.berths) (hw : s.supply.waste.identified = true) : b.Known .waste :=
  h.knows_waste fun absent => by simp [WasteRec.identified, absent] at hw

end Berths.Leads

/-! ### Slots -/

theorem SlotState.ne_empty_of_usable {x : SlotState} (h : x.usable = true) : x ≠ .empty := by
  rintro rfl
  cases h

theorem SlotRec.waiting_ne_empty (r : SlotRec) : r.waiting ≠ .empty := by
  unfold SlotRec.waiting
  split <;> nofun

theorem State.putSlot_leads (h : b.Leads s.berths) (hk : b.Known (.slot k)) {r : SlotRec} (hr : r.state ≠ .empty) :
    b.Leads (s.putSlot k r).berths := by
  rw [State.putSlot_berths, bne_iff_ne.2 hr]
  exact h.put hk

theorem State.promoteFor_leads (h : b.Leads s.berths) (k : SlotId) : b.Leads (s.promoteFor k).berths := by
  rwa [State.promoteFor_berths]

/-- R44: the slot and the partner that gives way to it or takes over stand. -/
theorem State.placeSlot_leads (h : b.Leads s.berths) (hk : b.Known (.slot k)) (c : Channel) (r : SlotRec) :
    b.Leads (s.placeSlot k c r).berths := by
  have active : b.Leads (s.putSlot k { r with state := .active }).berths := State.putSlot_leads h hk nofun
  have waits : b.Leads (s.putSlot k { r with state := r.waiting }).berths := State.putSlot_leads h hk r.waiting_ne_empty
  unfold State.placeSlot
  split
  · split
    · exact active
    · next j found =>
      have usable : j ≠ k ∧ (s.supply.slot.get j).state.usable = true := by simpa using List.find?_some found
      have stands : b.Known (.slot j) := h.knows_slot (SlotState.ne_empty_of_usable usable.2)
      dsimp only
      split
      · exact State.putSlot_leads active stands (SlotRec.waiting_ne_empty _)
      · exact State.putSlot_leads waits stands nofun
  · split
    · exact waits
    · exact active

theorem State.applyTank_leads (h : b.Leads s.berths) (hk : b.Known (.slot k)) (i : Identity) (m : BitVec 128) :
    b.Leads (s.applyTank k i m).berths := by
  have refused (w : RefusalReason) : b.Leads (s.putSlot k (SlotRec.refuse i w)).berths := State.putSlot_leads h hk nofun
  unfold State.applyTank
  dsimp only
  split
  · exact State.putSlot_leads h hk nofun
  split
  · split
    · exact refused _
    split
    · exact refused _
    split
    · exact refused _
    split
    · exact State.putSlot_leads h hk nofun
    · exact State.placeSlot_leads h hk _ _
  · exact refused _

/-- R47: a slot whose record stands is drawn from. -/
theorem State.addDrawn_leads (h : b.Leads s.berths) (hk : b.Known (.slot k)) (v : Nat) : b.Leads (s.addDrawn k v).berths := by
  have drawn (n : Nat) : b.Leads (s.putSlot k { s.supply.slot.get k with drawn := n }).berths := by
    rwa [State.putSlot_berths_same]
    rfl
  unfold State.addDrawn
  dsimp only
  split
  · exact State.promoteFor_leads (State.putSlot_leads (drawn _) hk (by simp)) k
  · exact drawn _

/-! ### The cartridge -/

theorem State.setWaste_leads (h : b.Leads s.berths) (hw : b.Known .waste) {w : WasteRec} (hs : w.state ≠ .absent) :
    b.Leads (s.setWaste w).berths := by
  rw [State.setWaste_berths, bne_iff_ne.2 hs]
  exact h.put hw

theorem State.requestMark_leads (h : b.Leads s.berths) (hp : b.Known p) (n : Nat) : b.Leads (s.requestMark p n).berths := by
  rw [State.requestMark_berths]
  exact h.ask hp

/-- R35: marks are asked for from a cartridge that is READY or FULL. -/
theorem State.refreshUncovered_leads (h : b.Leads s.berths) : b.Leads s.refreshUncovered.berths := by
  have kept : s.refreshUncovered.manifold = s.manifold := s.refreshUncovered_frame .manifold (by decide)
  by_cases ask : s.supply.waste.coverage < s.ledger.wa + s.ledger.wr ∧ s.supply.waste.identified = true ∧ s.supply.waste.marks < 128
  · have asks : s.refreshUncovered.berths = s.berths.ask .waste := by
      rw [← State.requestMark_berths, State.berths, State.refreshUncovered_supply, if_pos ask, kept]
      rfl
    rw [asks]
    exact h.ask (h.knows_identified ask.2.1)
  · have same : s.refreshUncovered.berths = s.berths := by
      rw [State.berths, State.refreshUncovered_supply, if_neg ask, kept]
      rfl
    rwa [same]

theorem State.refreshWaste_leads (h : b.Leads s.berths) : b.Leads s.refreshWaste.berths :=
  State.refreshUncovered_leads (h.same s.refreshFull_racks)

theorem State.applyWaste_leads (h : b.Leads s.berths) (hw : b.Known .waste) (i : Identity) (m : BitVec 128) :
    b.Leads (s.applyWaste i m).berths := by
  have refused : b.Leads
      (((s.setWaste { WasteRec.cleared with state := .refused }).raise .tankRefused).refreshUncovered).wasteMoved.berths :=
    .same (State.refreshUncovered_leads (.same (State.setWaste_leads h hw (by simp)) (State.raise_racks _ _))) (State.wasteMoved_racks _)
  unfold State.applyWaste
  split
  · next cap n _ _ =>
    split
    · exact refused
    · have ready : b.Leads (s.setWaste { WasteRec.cleared with state := .ready, wcap := cap, marks := n }).berths :=
        State.setWaste_leads h hw nofun
      exact .same (State.refreshWaste_leads (ready.same (by simp))) (State.wasteMoved_racks _)
  · exact refused

theorem State.applyIdentity_leads (h : b.Leads s.berths) (hp : b.Known p) (i : Identity) (m : BitVec 128) :
    b.Leads (s.applyIdentity p i m).berths := by
  cases p with
  | slot k => exact State.applyTank_leads h hp i m
  | waste => exact State.applyWaste_leads h hp i m

theorem State.faultPosition_leads (h : b.Leads s.berths) (hp : b.Known p) : b.Leads (s.faultPosition p).berths := by
  have raised : b.Leads (s.raise .linkFault).berths := h.same (State.raise_racks _ _)
  cases p with
  | slot k => exact State.promoteFor_leads (State.putSlot_leads raised hp (by simp)) k
  | waste => exact .same (State.refreshUncovered_leads (State.setWaste_leads raised hp (by simp))) (State.wasteMoved_racks _)

theorem State.confirmMarks_leads (h : b.Leads s.berths) (p : LinkPos) (n : Nat) : b.Leads (s.confirmMarks p n).berths := by
  cases p with
  | slot k =>
    have same : (s.confirmMarks (.slot k) n).berths = s.berths := by
      have held : (s.confirmMarks (.slot k) n).supply.holds = s.supply.holds := by
        funext p
        cases p with
        | slot j => by_cases e : j = k <;> simp [Supply.holds, State.confirmMarks, e]
        | waste => rfl
      rw [State.berths, held]
      rfl
    rwa [same]
  | waste =>
    have same : (s.setWaste { s.supply.waste with marks := n }).berths = s.berths := State.setWaste_berths_same s rfl
    exact .same (State.refreshUncovered_leads (same ▸ h)) (State.wasteMoved_racks _)

/-! ### Parts of a service item -/

theorem State.askCoverage_leads (h : b.Leads s.berths) (w : Work) : b.Leads (s.askCoverage w).berths := by
  unfold State.askCoverage State.when
  dsimp only
  split
  · next asks =>
    have ready : s.supply.waste.state = .ready := by
      simp only [Bool.and_eq_true, beq_iff_eq] at asks
      exact asks.1.1.1.2
    exact State.requestMark_leads h (h.knows_waste (by simp [ready])) _
  · exact h

theorem State.reserveService_leads (h : b.Leads s.berths) (w : Work) : b.Leads (s.reserveService w).berths :=
  State.refreshUncovered_leads (h.same (by simp))

theorem State.releaseParts_leads (h : b.Leads s.berths) : b.Leads s.releaseParts.berths :=
  State.refreshUncovered_leads (h.same (by simp))

theorem State.settleSpit_leads (h : b.Leads s.berths) (m : Three Bool) (pairs : List (Nat × Nat)) :
    b.Leads (s.settleSpit m pairs).berths :=
  State.refreshWaste_leads (h.same (by simp))

theorem State.settleSuction_leads (h : b.Leads s.berths) (x : Head) (n : Nat) (release : Bool) :
    b.Leads (s.settleSuction x n release).berths :=
  State.refreshWaste_leads (h.same (by simp))

/-! ### Sessions and strokes -/

/-- R11: marks are asked for from the ACTIVE slot. -/
theorem State.strokeTest_leads (h : b.Leads s.berths) (c : Channel) : b.Leads (s.strokeTest c).berths := by
  unfold State.strokeTest
  split
  · exact h.same (by simp)
  · next k active =>
    dsimp only
    split
    · exact h.same (by simp)
    split
    · exact h.same (by simp)
    split
    · exact State.requestMark_leads (h.same (State.setSession_racks _ _ _)) (h.knows_active active) _
    · exact h.same (by simp)

theorem State.sessionReacts_leads (h : b.Leads s.berths) {c : Channel} (ht : s.sessionReacts c = some t) : b.Leads t.berths := by
  have idle : b.Leads (s.putSession c .idle).berths := h.same (by simp)
  unfold State.sessionReacts at ht
  split at ht
  · split at ht
    · cases ht
      exact State.strokeTest_leads (h.same (State.clearDemand_racks _ _)) c
    · cases ht
  · split at ht
    · cases ht
      exact idle
    · cases ht
  · split at ht
    · cases ht
      exact idle
    · split at ht
      · cases ht
      · cases ht
        exact State.strokeTest_leads h c
  · split at ht
    · cases ht
      exact idle
    · split at ht
      · cases ht
        exact State.strokeTest_leads h c
      · cases ht
  · cases ht

/-- R60: a session that still waits waits for the ACTIVE slot. -/
theorem State.askAgain_leads (h : b.Leads s.berths) (c : Channel) : b.Leads (s.askAgain c).berths := by
  unfold State.askAgain
  split
  · next k waits slot =>
    cases hr : s.sessionReacts c with
    | some t => exact State.sessionReacts_leads h hr
    | none =>
      have active : s.supply.activeSlot c = some k := by
        unfold State.sessionReacts at hr
        rw [waits] at hr
        dsimp only at hr
        split at hr
        · cases hr
        · next j active =>
          split at hr
          · cases hr
          · next stays =>
            have same : (s.session c).waitSlot = some j := by
              simp only [Bool.or_eq_true, bne_iff_ne, not_or, not_not] at stays
              exact stays.1
            rw [active, ← same, slot]
      exact State.requestMark_leads h (h.knows_active active) _
  · exact h

theorem State.startStroke_leads (h : b.Leads s.berths) (c : Channel) : b.Leads (s.startStroke c).berths := by
  unfold State.startStroke
  split
  · exact h.same (by simp)
  · next k active =>
    have stands : (s.supply.slot.get k).state = .active := by simpa using List.find?_some active
    have stroke : b.Leads (s.putSession c .stroke).berths := h.same (by simp)
    exact stroke.draw (k := k) (by simp [State.berths, Supply.holds, State.putSession, State.setSession, stands])

theorem State.serveCandidate_leads (h : b.Leads s.berths) (c : Channel) : b.Leads (s.serveCandidate c).berths := by
  unfold State.serveCandidate
  split
  · exact h.same (by simp)
  · split
    · exact State.startStroke_leads (State.strokeTest_leads h c) c
    all_goals exact State.strokeTest_leads h c

theorem State.startSuction_leads (h : b.Leads s.berths) (q : SuctionReq) : b.Leads (s.startSuction q).berths :=
  Berths.Leads.draw_none h

theorem State.afterStroke_leads (h : b.Leads s.berths) (c : Channel) (tripped : Bool) : b.Leads (s.afterStroke c tripped).berths := by
  unfold State.afterStroke
  split
  · dsimp only
    split
    · exact h.same (by simp)
    · exact State.strokeTest_leads h c
  all_goals exact h

/-- R14, R47: the stroke that completes is the one that ran. -/
theorem State.completeStroke_leads {r : StrokeRun} (hr : s.manifold.pump = .stroke r) (tripped : Bool) :
    s.berths.Leads (s.completeStroke r tripped).berths := by
  have free : s.berths.Leads (s.setPump .free).berths := (Berths.Leads.refl _).draw_none
  have drawn : s.berths.Leads ((s.setPump .free).when r.stands fun t => t.addDrawn r.source r.volume).berths := by
    unfold State.when
    split
    · next stands =>
      exact State.addDrawn_leads free (.of_source (by simp [State.berths, hr, Pump.source, stands])) _
    · exact free
  unfold State.completeStroke
  dsimp only
  split <;> exact drawn.same (by simp)

/-! ### The running job -/

theorem Berths.Leads.endJob (h : b.Leads s.berths) : b.Leads s.endJob.berths := by
  rw [State.endJob_berths]
  exact h.drop (List.tail_sublist _)

/-- The job that ends stood at a position that is known, and no other job stands there. -/
theorem State.endRemapped_leads {j : LinkJob} (hj : s.supply.link.jobs.head? = some j) :
    s.berths.Leads (s.endRemapped j).berths := by
  obtain ⟨rest, jobs⟩ := List.head?_eq_some_iff.1 hj
  have posts : s.berths.posts = j.pos :: rest.map LinkJob.pos := by simp [State.berths, jobs]
  rw [State.endRemapped, State.requestIdentify_berths, State.endJob_berths, posts, List.tail_cons]
  have turned : (rest.map LinkJob.pos ++ [j.pos]).Perm s.berths.posts := by
    rw [posts]
    exact List.perm_append_singleton _ _
  exact ⟨fun q hq => hq.imp_left turned.mem_iff.1, fun hs => ⟨turned.nodup_iff.2 hs.1, hs.2⟩⟩

theorem State.judgeAttempt_leads (h : b.Leads s.berths) {j : LinkJob} (hj : s.supply.link.jobs.head? = some j) (m : BitVec 128) :
    b.Leads (s.judgeAttempt j m).berths := by
  obtain ⟨rest, jobs⟩ := List.head?_eq_some_iff.1 hj
  have known : b.Known j.pos := h.known _ (.of_posts (by simp [State.berths, jobs]))
  have faults : b.Leads (s.endJob.faultPosition j.pos).berths := State.faultPosition_leads h.endJob known
  have goes (n : Nat) : ((s.setLink { s.supply.link with run := none }).setLink
      ({ s.supply.link with run := none }.setHead { j with attempts := n })).racks = s.racks := by
    refine (State.setLink_racks _ ?_).trans (State.setLink_racks s rfl)
    simp [Link.setHead, jobs, State.setLink]
  unfold State.judgeAttempt
  dsimp only
  split
  · exact faults
  split
  · exact faults
  split
  · exact State.confirmMarks_leads (h.same (goes 0)) _ _
  split
  · exact faults
  · exact h.same (goes _)

theorem State.takeAnswer_leads (h : b.Leads s.berths) {j : LinkJob} (hj : s.supply.link.jobs.head? = some j) (r : LinkRun)
    (a : LinkAnswer) : b.Leads (s.takeAnswer j r a).berths := by
  have known : b.Known j.pos := h.known _ (.of_posts (List.mem_map_of_mem (List.mem_of_head? hj)))
  unfold State.takeAnswer
  split
  · split
    · exact h.same (State.setLink_racks s rfl)
    all_goals exact h
  · split
    case h_4 =>
      split
      · exact State.applyIdentity_leads h.endJob known _ _
      · exact h.endJob
      · exact State.judgeAttempt_leads h hj _
    case h_5 => exact h
    all_goals exact h.same (by simp)

theorem State.startJob_leads (h : b.Leads s.berths) (j : LinkJob) : b.Leads (s.startJob j).berths := by
  unfold State.startJob
  split
  · exact h.same (State.setLink_racks s rfl)
  · split
    · exact h.endJob
    · exact h.same (State.setLink_racks s rfl)

/-! ### The emptying of the queue (R60) -/

/-- Each of the slots that is IDENTIFYING has its job appended, in order. -/
theorem State.foldl_requestIdentify (l : List SlotId) (s : State) :
    l.foldl (fun t k => t.when ((t.supply.slot.get k).state == .identifying) fun u => u.requestIdentify (.slot k)) s =
      s.setLink { s.supply.link with
        jobs := s.supply.link.jobs ++
          (l.filter fun k => (s.supply.slot.get k).state == .identifying).map fun k => LinkJob.identify (.slot k) } := by
  induction l generalizing s with
  | nil => simp [State.setLink, State.setSupply]
  | cons k l ih =>
    rw [List.foldl_cons, ih]
    by_cases hk : (s.supply.slot.get k).state = .identifying <;>
      simp [State.when, hk, State.requestIdentify, State.setLink, State.setSupply, Link.requestIdentify]

/-- The slots that are IDENTIFYING have their jobs, and no other position has one. -/
theorem State.reidentified_leads (h : b.Leads s.berths) (x : Link)
    (hx : x.jobs = (SlotId.all.filter fun k => (s.supply.slot.get k).state == .identifying).map fun k => LinkJob.identify (.slot k)) :
    b.Leads (s.setLink x).berths ∧ .waste ∉ (s.setLink x).berths.posts := by
  have posts : x.jobs.map LinkJob.pos =
      (SlotId.all.filter fun k => (s.supply.slot.get k).state == .identifying).map LinkPos.slot := by
    simp [hx, LinkJob.identify, Function.comp_def]
  rw [State.setLink_berths, posts]
  refine ⟨⟨fun q hq => ?_, fun hs => ⟨?_, (h.sound hs).2⟩⟩, by simp⟩
  · rcases hq with hq | hq
    · obtain ⟨k, hk, rfl⟩ := List.mem_map.1 hq
      have identifying : (s.supply.slot.get k).state = .identifying := by simpa using (List.mem_filter.1 hk).2
      exact h.knows_slot (by simp [identifying])
    · exact h.known q (.inr hq)
  · have once : SlotId.all.Nodup := by decide
    exact (once.filter _).map fun j k e => by injection e

theorem State.foldl_leads {α : Type} (l : List α) {f : State → α → State} (h : b.Leads s.berths)
    (hf : ∀ t x, b.Leads t.berths → b.Leads (f t x).berths) : b.Leads (l.foldl f s).berths := by
  induction l generalizing s with
  | nil => exact h
  | cons x l ih => exact ih (hf s x h)

theorem State.drainLink_leads (h : b.Leads s.berths) : b.Leads s.drainLink.berths := by
  unfold State.drainLink
  dsimp only
  rw [State.foldl_requestIdentify]
  obtain ⟨slots, free⟩ := State.reidentified_leads (h.drop (List.nil_sublist _) : b.Leads (s.setLink ⟨[], none, false⟩).berths)
    ⟨_, none, false⟩ rfl
  refine .same (State.refreshUncovered_leads (State.foldl_leads _ ?_ fun t c ht => State.askAgain_leads ht c)) (State.dueArbiter_racks _)
  unfold State.when
  split
  · next identifying =>
    rw [State.requestIdentify_berths]
    have stands : s.supply.waste.state = .identifying := beq_iff_eq.1 identifying
    exact slots.post (h.knows_waste (by simp [stands])) free
  · exact slots

theorem State.afterTransaction_leads (h : b.Leads s.berths) : b.Leads s.afterTransaction.berths := by
  unfold State.afterTransaction State.when
  split
  · exact State.drainLink_leads h
  · exact h

theorem State.resetLink_leads (h : b.Leads s.berths) : b.Leads s.resetLink.berths := by
  unfold State.resetLink
  split
  · exact h.same (State.setLink_racks s rfl)
  · exact State.drainLink_leads h

theorem State.startLink_leads (h : s.startLink = some t) : s.berths.Leads t.berths := by
  unfold State.startLink at h
  split at h
  · cases h
  split at h
  · obtain rfl := Option.some.inj h
    exact State.drainLink_leads (.refl _)
  split at h
  · cases h
  · obtain ⟨j, -, rfl⟩ := Option.map_eq_some_iff.1 h
    exact State.startJob_leads (.refl _) j

/-! ### Answers and timeouts -/

theorem State.linkAnswers_leads {d : LinkDelivery} (h : s.linkAnswers d = some t) : s.berths.Leads t.berths := by
  unfold State.linkAnswers at h
  split at h
  · next j r head _ =>
    obtain rfl := Option.some.inj h
    generalize s.chips.transact j.pos _ d = x
    split
    · exact .refl _
    split
    · exact .refl _
    split
    · exact State.afterTransaction_leads (State.endRemapped_leads (s := s.setChips x.1) head)
    · exact State.afterTransaction_leads (State.takeAnswer_leads (s := s.setChips x.1) (.refl s.berths) head r _)
  · cases h

theorem State.busyTimesOut_leads {j : LinkJob} (hj : s.supply.link.jobs.head? = some j) (r : LinkRun) :
    s.berths.Leads (s.busyTimesOut j r).berths := by
  obtain ⟨rest, jobs⟩ := List.head?_eq_some_iff.1 hj
  have known : s.berths.Known j.pos := .of_posts (by simp [jobs])
  unfold State.busyTimesOut
  split
  · exact State.afterTransaction_leads (State.endRemapped_leads hj)
  split
  · exact State.afterTransaction_leads (State.faultPosition_leads (Berths.Leads.refl _).endJob known)
  · refine State.afterTransaction_leads ((Berths.Leads.refl _).same (State.setLink_racks s ?_))
    simp [Link.setHead, jobs]

theorem State.waitTimesOut_leads (h : s.waitTimesOut = some t) : s.berths.Leads t.berths := by
  unfold State.waitTimesOut at h
  split at h
  · next head _ =>
    split at h
    · cases h
      exact State.busyTimesOut_leads head _
    · cases h
  · cases h

theorem State.answerTimesOut_leads (h : s.answerTimesOut = some t) : s.berths.Leads t.berths := by
  unfold State.answerTimesOut at h
  split at h
  · next head _ =>
    split at h
    · cases h
    · cases h
      exact State.busyTimesOut_leads head _
  · cases h

/-! ### The slot map (R48) -/

/-- A slot that holds a tank has its job asked for or its job changed. -/
theorem Link.reidentify_pos (l : Link) (k : SlotId) : (l.reidentify k).jobs.map LinkJob.pos =
    if .slot k ∈ l.jobs.map LinkJob.pos then l.jobs.map LinkJob.pos else l.jobs.map LinkJob.pos ++ [.slot k] := by
  have asked := l.jobAt_isSome (.slot k)
  have turned : ∀ j : LinkJob, (if j.pos == .slot k then LinkJob.identify (.slot k) else j).pos = j.pos := by
    intro j
    split
    · next same => exact (beq_iff_eq.1 same).symm
    · rfl
  unfold Link.reidentify
  split
  · next none =>
    rw [none] at asked
    rw [if_neg (fun hp => nomatch asked.2 hp)]
    simp [Link.requestIdentify, LinkJob.identify]
  · next some =>
    rw [some] at asked
    rw [if_pos (asked.1 rfl)]
    split
    · split
      · rfl
      · simp only [List.map_map, Function.comp_def, turned]
    · simp only [List.map_map, Function.comp_def, turned]

theorem State.reidentify_berths (s : State) (k : SlotId) : (s.setLink (s.supply.link.reidentify k)).berths = s.berths.ask (.slot k) := by
  rw [State.setLink_berths, Link.reidentify_pos, Berths.ask, State.berths_posts]
  split <;> rfl

/-- A stroke that forgets a slot draws from no other than before. -/
theorem State.forgetSource_leads (h : b.Leads s.berths) (k : SlotId) : b.Leads (s.forgetSource k).berths := by
  have forgets : (s.manifold.pump.forget k).source = none ∨ (s.manifold.pump.forget k).source = s.manifold.pump.source := by
    cases hp : s.manifold.pump with
    | stroke r =>
      rw [Pump.forget_stroke]
      by_cases e : r.source = k <;> simp [Pump.source, e]
    | _ => exact .inl rfl
  rw [State.forgetSource, State.setManifold_berths]
  rcases forgets with e | e
  · rw [e]
    exact h.draw_none
  · rw [e]
    exact h

theorem State.remapSlot_leads (h : b.Leads s.berths) (k : SlotId) (entry : Option Channel) : b.Leads (s.remapSlot k entry).berths := by
  unfold State.remapSlot State.when
  dsimp only
  split
  · exact h
  split
  · next stands =>
    have known : b.Known (.slot k) := h.knows_slot (bne_iff_ne.1 stands)
    have asks (t : State) (r : SlotRec) :
        ((t.putSlot k r).setLink (t.supply.link.reidentify k)).berths = (t.putSlot k r).berths.ask (.slot k) := by
      rw [← State.reidentify_berths, State.putSlot_link]
    refine State.forgetSource_leads ?_ k
    rw [asks]
    have mapped : b.Leads (s.setSupply { s.supply with map := s.supply.map.set k entry }).berths := h
    exact (State.putSlot_leads mapped known (by simp)).ask known
  · exact h

theorem State.takeMap_leads (h : b.Leads s.berths) (m : Eight (Option Channel)) : b.Leads (s.takeMap m).berths := by
  unfold State.takeMap
  refine State.foldl_leads _ (State.foldl_leads _ h fun t k ht => State.remapSlot_leads ht k _) fun t c ht => ?_
  rwa [State.promote_berths]

theorem State.acceptTank_leads (h : b.Leads s.berths) (hk : b.Known (.slot k)) (c : Channel) (n : Nat) :
    b.Leads (s.acceptTank k c n).berths := State.placeSlot_leads h hk c _

/-! ### Arrivals and removals (R41, R42, R49) -/

theorem State.tankArrives_berths (s : State) (k : SlotId) : (s.tankArrives k).berths = s.berths.arrive (.slot k) := by
  rw [State.tankArrives, State.requestIdentify_berths, State.putSlot_berths]
  rfl

theorem State.wasteArrives_berths (s : State) : s.wasteArrives.berths = s.berths.arrive .waste := by
  have kept : s.wasteArrives.manifold = s.manifold := s.wasteArrives_frame .manifold (by decide)
  have arrives : ((s.setWaste { WasteRec.cleared with state := .identifying }).requestIdentify .waste).berths =
      s.berths.arrive .waste := by
    rw [State.requestIdentify_berths, State.setWaste_berths]
    rfl
  rw [← arrives, State.berths, s.wasteArrives_supply, kept]
  rfl

theorem Pump.forget_source (x : Pump) (k : SlotId) : (x.forget k).source =
    if x.source.map LinkPos.slot = some (.slot k) then none else x.source := by
  cases x with
  | stroke r =>
    rw [Pump.forget_stroke]
    cases stands : r.stands <;> by_cases e : r.source = k <;> simp [Pump.source, stands, e]
  | _ => rfl

theorem State.tankLeaves_berths (s : State) (k : SlotId) : (s.tankLeaves k).berths = s.berths.leave (.slot k) := by
  have promotes := s.tankLeaves_supply k
  have held : ({ s.supply with slot := s.supply.slot.set k SlotRec.cleared, link := s.supply.link.drop (.slot k) } : Supply).holds =
      Function.update s.supply.holds (.slot k) false := by
    funext p
    cases p with
    | slot j => by_cases e : j = k <;> simp [Supply.holds, SlotRec.cleared, e]
    | waste => simp [Supply.holds]
  rw [State.berths, promotes.link, promotes.holds, s.tankLeaves_pump, Pump.forget_source, held]
  simp [Berths.leave, State.berths, Link.drop, List.filter_map, Function.comp_def]

theorem State.wasteLeaves_berths (s : State) : s.wasteLeaves.berths = s.berths.leave .waste := by
  have kept : s.wasteLeaves.manifold = s.manifold := s.wasteLeaves_frame .manifold (by decide)
  have left : ((s.setWaste WasteRec.cleared).dropJob .waste).berths = s.berths.leave .waste := by
    rw [State.dropJob_berths, State.setWaste_berths]
    simp [Berths.leave, Berths.put, WasteRec.cleared]
  rw [← left, State.berths, s.wasteLeaves_supply, kept]
  rfl

end Sys2Proof.Machine
end

section
/-!
SUPPORT. What an operation of the hub keeps of the queues (`Keeps`): the places of the tickets, the sheets and the outcomes, the one
place that each service item takes, and the berths. First the operations of the link, the supply and the pump, whose frames leave the
rest (R53 to R56, R60).
-/

namespace Sys2Proof.Machine

/-! ### Frames of the link's and the sessions' operations -/

/-- The blocks that the link, the slots, the sessions and the pump change. -/
def Block.linkSide : List Block := [.ports, .ledger, .manifold, .supply, .due]

section
variable (s : State) {t : State}

theorem State.sessionReacts_frame {c : Channel} (h : s.sessionReacts c = some t) : Frame [.manifold, .supply] s t := by
  have idle : Frame [.manifold, .supply] s (s.putSession c .idle) := (s.putSession_frame c _).mono (by decide)
  unfold State.sessionReacts at h
  split at h
  · split at h
    · cases h
      exact ((s.clearDemand_frame c).mono (by decide)).trans (State.strokeTest_frame _ c)
    · cases h
  · split at h
    · cases h
      exact idle
    · cases h
  · split at h
    · cases h
      exact idle
    · split at h
      · cases h
      · cases h
        exact s.strokeTest_frame c
  · split at h
    · cases h
      exact idle
    · split at h
      · cases h
        exact s.strokeTest_frame c
      · cases h
  · cases h

theorem State.askAgain_frame (c : Channel) : Frame [.manifold, .supply] s (s.askAgain c) := by
  unfold State.askAgain
  split
  · cases hr : s.sessionReacts c with
    | some t => exact s.sessionReacts_frame hr
    | none => exact (s.requestMark_frame _ _).mono (by decide)
  · exact .refl _ s

theorem State.drainLink_frame : Frame Block.linkSide s s.drainLink := by
  have asks (t : State) (b : Bool) (p : LinkPos) : Frame Block.linkSide t (t.when b fun u => u.requestIdentify p) :=
    .when _ _ fun u => (u.requestIdentify_frame p).mono (by decide)
  have emptied : Frame Block.linkSide s (s.setLink { jobs := [], run := none, draining := false }) :=
    (s.setLink_frame _).mono (by decide)
  have again (t : State) : Frame Block.linkSide t (Channel.all.foldl State.askAgain t) :=
    .foldl _ _ (fun u c => (u.askAgain_frame c).mono (by decide)) t
  have covered (t : State) : Frame Block.linkSide t t.refreshUncovered.dueArbiter :=
    (t.refreshUncovered_frame).join (State.dueArbiter_frame _) (by decide) (by decide)
  exact (((emptied.trans (.foldl _ _ (fun t k => asks t _ (.slot k)) _)).trans (asks _ _ .waste)).trans (again _)).trans (covered _)

theorem State.afterTransaction_frame : Frame Block.linkSide s s.afterTransaction := .when _ _ State.drainLink_frame

theorem State.resetLink_frame : Frame Block.linkSide s s.resetLink := by
  unfold State.resetLink
  split
  · exact (s.setLink_frame _).mono (by decide)
  · exact s.drainLink_frame

theorem State.applyTank_frame (k : SlotId) (i : Identity) (m : BitVec 128) : Frame [.ports, .supply] s (s.applyTank k i m) := by
  have put (r : SlotRec) : Frame [.ports, .supply] s (s.putSlot k r) := s.putSlot_frame k r
  unfold State.applyTank
  dsimp only
  split
  · exact put _
  split
  · split
    · exact put _
    split
    · exact put _
    split
    · exact put _
    split
    · exact put _
    · exact s.placeSlot_frame k _ _
  · exact put _

theorem State.applyWaste_frame (i : Identity) (m : BitVec 128) :
    Frame [.ports, .ledger, .supply, .due] s (s.applyWaste i m) := by
  unfold State.applyWaste
  split
  · split
    · exact s.refuseWaste_frame
    · exact s.readyWaste_frame _ _
  · exact s.refuseWaste_frame

theorem State.applyIdentity_frame (p : LinkPos) (i : Identity) (m : BitVec 128) :
    Frame Block.linkSide s (s.applyIdentity p i m) := by
  cases p with
  | slot k => exact (s.applyTank_frame k i m).mono (by decide)
  | waste => exact (s.applyWaste_frame i m).mono (by decide)

theorem State.confirmMarks_frame (p : LinkPos) (n : Nat) : Frame Block.linkSide s (s.confirmMarks p n) := by
  cases p with
  | slot k => exact (s.setSupply_frame _).mono (by decide)
  | waste => exact (State.confirmMarks_waste_frame s n).mono (by decide)

theorem State.endJob_frame : Frame [.supply] s s.endJob := s.setLink_frame _

theorem State.faultJob_frame (p : LinkPos) : Frame Block.linkSide s (s.endJob.faultPosition p) :=
  s.endJob_frame.join (State.faultPosition_frame _ p) (by decide) (by decide)

theorem State.judgeAttempt_frame (j : LinkJob) (m : BitVec 128) : Frame Block.linkSide s (s.judgeAttempt j m) := by
  have goes (x y : Link) : Frame [.supply] s ((s.setLink x).setLink y) := (s.setLink_frame x).trans (State.setLink_frame _ y)
  unfold State.judgeAttempt
  dsimp only
  split
  · exact s.faultJob_frame _
  split
  · exact s.faultJob_frame _
  split
  · exact (goes _ _).join (State.confirmMarks_frame _ _ _) (by decide) (by decide)
  split
  · exact s.faultJob_frame _
  · exact (goes _ _).mono (by decide)

theorem State.takeAnswer_frame (j : LinkJob) (r : LinkRun) (a : LinkAnswer) : Frame Block.linkSide s (s.takeAnswer j r a) := by
  have goes (x : Link) : Frame Block.linkSide s (s.setLink x) := (s.setLink_frame x).mono (by decide)
  unfold State.takeAnswer
  split
  · split
    · exact goes _
    all_goals exact .refl _ s
  · split
    case h_4 =>
      split
      · exact s.endJob_frame.join (State.applyIdentity_frame _ _ _ _) (by decide) (by decide)
      · exact goes _
      · exact s.judgeAttempt_frame _ _
    case h_5 => exact .refl _ s
    all_goals exact goes _

theorem State.endRemapped_frame (j : LinkJob) : Frame [.supply] s (s.endRemapped j) :=
  s.endJob_frame.trans (State.requestIdentify_frame _ _)

theorem State.startJob_frame (j : LinkJob) : Frame [.supply] s (s.startJob j) := by
  unfold State.startJob
  repeat' split
  all_goals exact s.setLink_frame _

theorem State.startLink_frame (h : s.startLink = some t) : Frame Block.linkSide s t := by
  unfold State.startLink at h
  split at h
  · cases h
  split at h
  · obtain rfl := Option.some.inj h
    exact s.drainLink_frame
  split at h
  · cases h
  · obtain ⟨j, -, rfl⟩ := Option.map_eq_some_iff.1 h
    exact (s.startJob_frame j).mono (by decide)

theorem State.busyTimesOut_frame (j : LinkJob) (r : LinkRun) : Frame Block.linkSide s (s.busyTimesOut j r) := by
  unfold State.busyTimesOut
  split
  · exact (s.endRemapped_frame j).join (State.afterTransaction_frame _) (by decide) (by decide)
  split
  · exact (s.faultJob_frame _).trans (State.afterTransaction_frame _)
  · exact (s.setLink_frame _).join (State.afterTransaction_frame _) (by decide) (by decide)

theorem State.waitTimesOut_frame (h : s.waitTimesOut = some t) : Frame Block.linkSide s t := by
  unfold State.waitTimesOut at h
  repeat' split at h
  all_goals cases h
  exact s.busyTimesOut_frame _ _

theorem State.answerTimesOut_frame (h : s.answerTimesOut = some t) : Frame Block.linkSide s t := by
  unfold State.answerTimesOut at h
  repeat' split at h
  all_goals cases h
  exact s.busyTimesOut_frame _ _

theorem State.linkAnswers_frame {d : LinkDelivery} (h : s.linkAnswers d = some t) : Frame (.chips :: Block.linkSide) s t := by
  unfold State.linkAnswers at h
  split at h
  · next j r _ _ =>
    obtain rfl := Option.some.inj h
    generalize s.chips.transact j.pos _ d = x
    have read : Frame [.chips] s (s.setChips x.1) := s.setChips_frame _
    split
    · exact read.mono (by decide)
    split
    · exact read.mono (by decide)
    split
    · exact (read.join (State.endRemapped_frame _ _) (by decide) (by decide)).trans
        ((State.afterTransaction_frame _).mono (by decide))
    · exact read.join ((State.takeAnswer_frame _ _ _ _).trans (State.afterTransaction_frame _)) (by decide) (by decide)
  · cases h

theorem State.serveCandidate_frame (c : Channel) : Frame Block.linkSide s (s.serveCandidate c) := by
  have stroke (u : State) : Frame [.manifold] u (u.startStroke c) := by
    unfold State.startStroke
    split
    · exact u.putSession_frame c _
    · exact (u.putSession_frame c _).trans (State.setManifold_frame _ _)
  unfold State.serveCandidate
  split
  · exact (State.fillFound_frame s c).mono (by decide)
  · split
    · exact (s.strokeTest_frame c).join (stroke _) (by decide) (by decide)
    all_goals exact (s.strokeTest_frame c).mono (by decide)

end

/-! ### What an operation keeps -/

/-- From one state to another the tickets, sheets and outcomes stay within their places, the service items each take a place of their
own as before, no position comes into the berths, and what is inserted is so still. -/
structure Keeps (s t : State) : Prop where
  queues : s.QueuesFit → t.QueuesFit
  lanes : s.lanes.Nodup → t.lanes.Nodup
  berths : s.berths.Leads t.berths
  occupied : t.pins.occupied = s.pins.occupied

namespace Keeps
variable {s t u : State} {bs : List Block}

/-- The berths alone change. -/
theorem of_berths (f : Frame bs s t) (h : s.berths.Leads t.berths)
    (hb : decide (Block.pins ∉ bs ∧ Block.tickets ∉ bs ∧ Block.sheets ∉ bs ∧ Block.service ∉ bs) = true) : Keeps s t := by
  have racks := f.racks_of_berths s hb
  refine ⟨fun q => ?_, fun l => ?_, h, congrArg Racks.occupied racks⟩
  · rw [State.queuesFit_iff, racks]
    exact q
  · rw [show t.lanes = s.lanes from congrArg Racks.lanes racks]
    exact l

@[simp] theorem of_racks (h : t.racks = s.racks) : Keeps s t :=
  ⟨fun q => (show t.racks.Fit by rw [h]; exact q), fun l => by rwa [show t.lanes = s.lanes from congrArg Racks.lanes h],
    (Berths.Leads.refl _).same h, congrArg Racks.occupied h⟩

/-- The service queue alone changes. -/
theorem of_lanes (f : Frame bs s t) (h : s.lanes.Nodup → t.lanes.Nodup)
    (hb : decide (Block.pins ∉ bs ∧ Block.manifold ∉ bs ∧ Block.supply ∉ bs ∧ Block.tickets ∉ bs ∧
      Block.sheets ∉ bs) = true) : Keeps s t := by
  obtain ⟨h1, h2, h3, h4, h5⟩ := of_decide_eq_true hb
  have hp : t.pins = s.pins := f .pins h1
  have hm : t.manifold = s.manifold := f .manifold h2
  have hu : t.supply = s.supply := f .supply h3
  have ht : t.tickets = s.tickets := f .tickets h4
  have hh : t.sheets = s.sheets := f .sheets h5
  have same : t.berths = s.berths := by simp only [State.berths, hm, hu]
  refine ⟨fun q => ?_, h, same ▸ .refl _, by rw [hp]⟩
  simpa only [State.QueuesFit, ht, hh] using q

/-- The tickets, the sheets and the outcomes alone change. -/
theorem of_queues (f : Frame bs s t) (h : s.QueuesFit → t.QueuesFit)
    (hb : decide (Block.pins ∉ bs ∧ Block.manifold ∉ bs ∧ Block.supply ∉ bs ∧ Block.service ∉ bs) = true) : Keeps s t := by
  obtain ⟨h1, h2, h3, h4⟩ := of_decide_eq_true hb
  have hp : t.pins = s.pins := f .pins h1
  have hm : t.manifold = s.manifold := f .manifold h2
  have hu : t.supply = s.supply := f .supply h3
  have hs : t.service = s.service := f .service h4
  have same : t.berths = s.berths := by simp only [State.berths, hm, hu]
  refine ⟨h, fun l => ?_, same ▸ .refl _, by rw [hp]⟩
  rw [State.lanes, hs]
  exact l

theorem refl (s : State) : Keeps s s := of_racks rfl

theorem trans (h : Keeps s t) (k : Keeps t u) : Keeps s u :=
  ⟨k.queues ∘ h.queues, k.lanes ∘ h.lanes, h.berths.trans k.berths, k.occupied.trans h.occupied⟩

/-- A state with the same racks is as good to go on from. -/
theorem from_racks {s' : State} (h : Keeps s' t) (hs : s'.racks = s.racks) : Keeps s t := (of_racks hs).trans h

/-- What leaves the racks as they are may follow. -/
theorem to_racks (h : Keeps s t) (hs : u.racks = t.racks) : Keeps s u := h.trans (of_racks hs)

theorem when (b : Bool) {f : State → State} (h : Keeps s (f s)) : Keeps s (s.when b f) := by
  cases b
  · exact refl s
  · exact h

theorem foldl {α : Type} (l : List α) {f : State → α → State} (h : ∀ t x, Keeps t (f t x)) (s : State) :
    Keeps s (l.foldl f s) := by
  induction l generalizing s with
  | nil => exact refl s
  | cons x l ih => exact (h s x).trans (ih (f s x))

end Keeps

/-! ### The link, the supply and the pump -/

section
variable (s : State) {t : State}

theorem State.reserveService_keeps (w : Work) : Keeps s (s.reserveService w) :=
  .of_berths (s.reserveService_frame w) (State.reserveService_leads (.refl _) w) rfl

theorem State.releaseParts_keeps : Keeps s s.releaseParts :=
  .of_berths s.releaseParts_frame (State.releaseParts_leads (.refl _)) rfl

theorem State.settleSpit_keeps (m : Three Bool) (pairs : List (Nat × Nat)) : Keeps s (s.settleSpit m pairs) :=
  .of_berths (s.settleSpit_frame m pairs) (State.settleSpit_leads (.refl _) m pairs) rfl

theorem State.askCoverage_keeps (w : Work) : Keeps s (s.askCoverage w) :=
  .of_berths (s.askCoverage_frame w) (State.askCoverage_leads (.refl _) w) rfl

theorem State.takeMap_keeps (m : Eight (Option Channel)) : Keeps s (s.takeMap m) :=
  .of_berths (s.takeMap_frame m) (State.takeMap_leads (.refl _) m) rfl

theorem State.afterStroke_keeps (c : Channel) (b : Bool) : Keeps s (s.afterStroke c b) :=
  .of_berths (s.afterStroke_frame c b) (State.afterStroke_leads (.refl _) c b) rfl

theorem State.completeStroke_keeps {r : StrokeRun} (h : s.manifold.pump = .stroke r) (b : Bool) : Keeps s (s.completeStroke r b) :=
  .of_berths (s.completeStroke_frame r b) (State.completeStroke_leads h b) rfl

theorem State.serveCandidate_keeps (c : Channel) : Keeps s (s.serveCandidate c) :=
  .of_berths (s.serveCandidate_frame c) (State.serveCandidate_leads (.refl _) c) rfl

theorem State.startSuction_keeps (q : SuctionReq) : Keeps s (s.startSuction q) := by
  refine .of_berths (bs := [.manifold, .station]) ?_ (State.startSuction_leads (.refl _) q) rfl
  exact (s.setManifold_frame _).join (State.setStation_frame _ _) (by decide) (by decide)

theorem State.resetLink_keeps : Keeps s s.resetLink := .of_berths s.resetLink_frame (State.resetLink_leads (.refl _)) rfl

variable {s}

theorem State.sessionReacts_keeps {c : Channel} (h : s.sessionReacts c = some t) : Keeps s t :=
  .of_berths (s.sessionReacts_frame h) (State.sessionReacts_leads (.refl _) h) rfl

theorem State.startLink_keeps (h : s.startLink = some t) : Keeps s t :=
  .of_berths (s.startLink_frame h) (State.startLink_leads h) rfl

theorem State.waitTimesOut_keeps (h : s.waitTimesOut = some t) : Keeps s t :=
  .of_berths (s.waitTimesOut_frame h) (State.waitTimesOut_leads h) rfl

theorem State.answerTimesOut_keeps (h : s.answerTimesOut = some t) : Keeps s t :=
  .of_berths (s.answerTimesOut_frame h) (State.answerTimesOut_leads h) rfl

theorem State.linkAnswers_keeps {d : LinkDelivery} (h : s.linkAnswers d = some t) : Keeps s t :=
  .of_berths (s.linkAnswers_frame h) (State.linkAnswers_leads h) rfl

end

end Sys2Proof.Machine
end

section
/-!
SUPPORT. What the service scheduler and the station keep of the queues (`Keeps`): each item that enters the service queue merges into
the one that has its place, or finds the place free (R134 to R137, R148).
-/

namespace Sys2Proof.Machine

/-! ### The service queue -/

/-- An item that returns takes its place among the others. -/
theorem insertByBorn_perm (i : Item) (l : List Item) : (insertByBorn i l).Perm (i :: l) := by
  induction l with
  | nil => exact .refl _
  | cons j l ih =>
    unfold insertByBorn
    split
    · exact .refl _
    · exact (ih.cons j).trans (.swap i j l)

section
variable (s : State)

theorem State.setService_keeps {x : Service} (h : s.lanes.Nodup → (x.queue.map fun i => i.work.lane).Nodup) :
    Keeps s (s.setService x) := .of_lanes (s.setService_frame x) h rfl

/-- Items leave the queue, or keep their places. -/
theorem State.setService_keeps_sublist {x : Service} (h : (x.queue.map fun i => i.work.lane).Sublist s.lanes) :
    Keeps s (s.setService x) := s.setService_keeps fun l => l.sublist h

/-- The items of the queue keep their places, whatever else of them changes. -/
theorem State.setQueue_keeps_map {f : Item → Item} (h : ∀ i, (f i).work.lane = i.work.lane) :
    Keeps s (s.setQueue (s.service.queue.map f)) := by
  refine s.setService_keeps_sublist ?_
  simp [State.lanes, Function.comp_def, h]

theorem State.request_keeps (w : Work) : Keeps s (s.request w) := by
  unfold State.request
  dsimp only
  refine Keeps.to_racks ?_ (State.dueArbiter_racks _)
  split
  · refine s.setQueue_keeps_map fun i => ?_
    split
    · exact Work.lane_merge _ _
    · rfl
  · next none =>
    refine s.setService_keeps fun apart => ?_
    have free : w.lane ∉ s.lanes := by
      simpa [State.lanes, Work.mergesWith_iff] using none
    rw [List.map_append]
    exact apart.append (List.nodup_singleton _) (by simpa using free)

theorem State.requestSpit_keeps (h : Head) : Keeps s (s.requestSpit h) := s.request_keeps _

theorem State.requestCheck_keeps (m : Three Bool) : Keeps s (s.requestCheck m) := s.request_keeps _

theorem State.requestClean_keeps (h : Head) (n : Nat) (o : CleanOrigin) (u : Urgency) (a : Nat) :
    Keeps s (s.requestClean h n o u a) := by
  unfold State.requestClean
  split
  · exact .refl s
  · exact s.request_keeps _

theorem State.dropFromSpit_keeps (h : Head) : Keeps s (s.dropFromSpit h) := by
  refine s.setService_keeps_sublist ?_
  have same : (s.service.queue.map fun i => { i with work := i.work.without h }).map (fun i => i.work.lane) = s.lanes := by
    simp [State.lanes, Function.comp_def, Work.lane_without]
  rw [← same]
  exact List.filter_sublist.map _

theorem State.failHead_keeps (h : Head) : Keeps s (s.failHead h) := by
  unfold State.failHead
  refine Keeps.from_racks ?_ (s.raiseIf_racks (!s.service.failed.get h) .headFailed)
  exact State.setService_keeps_sublist _ (List.filter_sublist.map _)

theorem State.startItem_keeps (i : Item) : Keeps s (s.startItem i) := by
  unfold State.startItem
  exact .to_racks (s.setService_keeps_sublist (List.filter_sublist.map _)) (State.clearCapDue_racks _)

theorem State.passOver_keeps (i : Item) : Keeps s (s.passOver i) := by
  unfold State.passOver
  dsimp only
  refine .trans (.to_racks (s.setQueue_keeps_map fun j => ?_) (State.setDemands_racks _ _)) (State.askCoverage_keeps _ _)
  split <;> rfl

/-- R148: an item returns to a place that is free, or merges into the item that has taken it. -/
theorem State.returnItem_keeps (i : Item) : Keeps s (s.returnItem i) := by
  have inserts (j : Item) (l : List Item) (h : s.lanes.Nodup → ((j :: l).map fun x => x.work.lane).Nodup) :
      Keeps s ((s.setQueue (insertByBorn j l)).dueArbiter) :=
    .to_racks (s.setService_keeps fun apart => ((insertByBorn_perm j l).map _).nodup_iff.2 (h apart)) (State.dueArbiter_racks _)
  unfold State.returnItem
  split
  · exact .of_racks s.dueArbiter_racks
  split
  · next none =>
    refine inserts _ _ fun apart => List.nodup_cons.2 ⟨?_, apart⟩
    simpa [Work.mergesWith_iff] using none
  · next j found =>
    refine inserts _ _ fun apart => ?_
    have waits : j ∈ s.service.queue := List.mem_of_find?_eq_some found
    rw [List.map_cons, Work.lane_merge]
    refine List.nodup_cons.2 ⟨fun taken => ?_, apart.sublist (List.filter_sublist.map _)⟩
    obtain ⟨x, hx, lane⟩ := List.mem_map.1 taken
    obtain ⟨mem, other⟩ := List.mem_filter.1 hx
    obtain rfl := List.inj_on_of_nodup_map apart mem waits lane
    simp at other

theorem State.giveBack_keeps : Keeps s s.giveBack := by
  unfold State.giveBack
  split
  · exact .refl s
  · exact (s.releaseParts_keeps.to_racks (by rfl)).trans (State.returnItem_keeps _ _)

theorem tryItems_keeps (l : List Item) (s : State) : Keeps s (tryItems l s) := by
  induction l generalizing s with
  | nil => exact .refl s
  | cons i rest ih =>
    unfold tryItems
    split
    · exact s.startItem_keeps i
    · split
      · exact (s.reserveService_keeps _).trans (State.startItem_keeps _ i)
      · exact (s.passOver_keeps i).trans (ih _)

theorem State.countDone_keeps : Keeps s s.countDone := by
  unfold State.countDone
  split
  · exact .refl s
  split
  · exact (State.requestCheck_keeps _ _).from_racks (by rfl)
  · exact .of_racks (by rfl)

theorem State.cleanAll_keeps (o : CleanOrigin) : Keeps s (s.cleanAll o) := .foldl _ (fun t h => t.requestClean_keeps h 1 o .now 1) s

/-! ### The check and the end of an item -/

theorem State.healthRequest_keeps (c : Channel) : Keeps s (s.healthRequest c) := by
  unfold State.healthRequest
  split
  · exact .refl s
  all_goals exact s.requestClean_keeps _ _ _ _ _

theorem State.applyCheck_keeps (reports : List CheckReport) : Keeps s (s.applyCheck reports) := by
  have failed (t : State) (f : Head → Bool) : Keeps t (Head.all.foldl (fun t h => t.when (f h) fun u => u.failHead h) t) :=
    .foldl _ (fun u h => .when _ (u.failHead_keeps h)) t
  unfold State.applyCheck
  dsimp only
  split
  · exact (failed _ _).from_racks (s.putNozzles_racks _)
  · exact ((failed _ _).from_racks (s.putNozzles_racks _)).trans (.foldl _ State.healthRequest_keeps _)

theorem State.resetExposure_keeps (h : Head) : Keeps s (s.resetExposure h) :=
  (State.dropFromSpit_keeps _ h).from_racks (by rfl)

theorem State.resetExposures_keeps (m : Three Bool) : Keeps s (s.resetExposures m) :=
  .foldl _ (fun t h => .when _ (t.resetExposure_keeps h)) s

theorem State.judgeCleaning_keeps (h : Head) (n : Nat) (o : CleanOrigin) (a : Nat) : Keeps s (s.judgeCleaning h n o a) := by
  unfold State.judgeCleaning
  split
  · split
    · exact .refl s
    · exact .of_racks (s.unfailHead_racks h)
  split
  · split
    · exact s.requestClean_keeps _ _ _ _ _
    · exact s.failHead_keeps h
  · exact .refl s

theorem State.finishItem_keeps (i : Item) : Keeps s (s.finishItem i) := by
  have ends (t : State) : Keeps t ((t.setService { t.service with active := none }).dueArbiter) := .of_racks (by rfl)
  unfold State.finishItem
  split
  · exact ((s.judgeCleaning_keeps _ _ _ _).trans (State.resetExposure_keeps _ _)).trans (ends _)
  all_goals exact ends s

theorem State.endStage_keeps : Keeps s s.endStage := by
  unfold State.endStage
  split
  · exact .refl s
  split
  · exact s.finishItem_keeps _
  · exact .of_racks (by rfl)

/-! ### The station -/

theorem State.enterCapped_keeps : Keeps s s.enterCapped := (State.resetExposures_keeps _ _).from_racks (by rfl)

theorem State.startCap_keeps : Keeps s s.startCap := (Keeps.when _ (State.enterCapped_keeps _)).from_racks (by rfl)

theorem State.enterFault_keeps (w : StationCause) : Keeps s (s.enterFault w) :=
  (State.giveBack_keeps _).from_racks ((State.raise_racks _ _).trans ((State.setStation_racks _ _).trans s.orphanSuction_racks))

theorem State.orderTimesOut_keeps : Keeps s s.orderTimesOut := by
  unfold State.orderTimesOut
  exact .trans (.trans (.of_racks (by simp)) (.when _ (State.giveBack_keeps _))) (.when _ (State.enterFault_keeps _ _))

theorem State.endSuction_keeps (r : SuctionRun) : Keeps s (s.endSuction r) := by
  have settled : Keeps s ((s.setPump .free).settleSuction r.head r.level (!r.orphan)) :=
    .of_berths ((s.setPump_frame _).join (State.settleSuction_frame _ _ _ _) (by decide) (by decide) (cs := Block.linkSide))
      (State.settleSuction_leads (Berths.Leads.refl _).draw_none _ _ _) rfl
  unfold State.endSuction
  dsimp only
  split
  · exact settled.to_racks (State.setStation_racks _ _)
  · exact (settled.to_racks ((State.setStation_racks _ _).trans (State.setStation_racks _ _))).trans (State.endStage_keeps _)

end

end Sys2Proof.Machine
end

section
/-!
SUPPORT. What the ticket queue, the sheet queue and the feed unit keep of the queues, and so every reaction and every step's settling
(`State.settle_keeps`; R61, R62, R97, R98, R116).
-/

namespace Sys2Proof.Machine

/-! ### Tickets -/

section
variable (s : State)

theorem State.setTickets_keeps {x : Admission}
    (h : s.QueuesFit → x.queue.length ≤ Config.ticketPlaces ∧ 1 ≤ x.nextNumber ∧ x.nextNumber ≤ 255) :
    Keeps s (s.setTickets x) := by
  refine .of_queues (s.setTickets_frame x) (fun fit => ?_) rfl
  obtain ⟨length, low, high⟩ := h fit
  obtain ⟨-, sheets, outcomes, -, -, ids⟩ := fit
  exact ⟨length, sheets, outcomes, low, high, ids⟩

/-- Tickets leave the queue. -/
theorem State.setTickets_keeps_filter (f : Ticket → Bool) (left : Option Nat) :
    Keeps s (s.setTickets { s.tickets with queue := s.tickets.queue.filter f, swathLeft := left }) := by
  refine s.setTickets_keeps fun ⟨tickets, _, _, low, high, _⟩ => ⟨?_, low, high⟩
  exact (List.length_filter_le f _).trans tickets

theorem State.removeTickets_keeps (leaves : Ticket → Bool) : Keeps s (s.removeTickets leaves) := by
  unfold State.removeTickets
  dsimp only
  split
  · exact .refl s
  · have same : (s.releaseInk (s.tickets.queue.filter leaves)).tickets = s.tickets :=
      s.releaseInk_frame _ .tickets (by decide)
    have left := (State.setTickets_keeps_filter (s.releaseInk (s.tickets.queue.filter leaves)) (fun t => !leaves t)
      s.tickets.swathLeft).from_racks (s.releaseInk_racks _)
    rw [same] at left
    exact left.to_racks (by simp [State.setTicketQueue, same])

theorem State.dropFiring_keeps (n : Nat) : Keeps s (s.dropFiring n) :=
  (s.setTickets_keeps_filter (fun t => t.number != n) none).to_racks (by simp [State.dropFiring])

theorem State.settleTicket_keeps (t : Ticket) (pairs : List (Nat × Nat)) : Keeps s (s.settleTicket t pairs) :=
  .to_racks ((State.dropFiring_keeps _ _).from_racks (by simp [State.settleSwath])) (State.raise_racks _ _)

theorem State.loseTicket_keeps (t : Ticket) : Keeps s (s.loseTicket t) :=
  .to_racks ((State.dropFiring_keeps _ _).from_racks (by simp [State.settleLost, State.debitNeed])) (State.raise_racks _ _)

/-- The number after another is in 1..255. -/
theorem nextByte_range {n : Nat} : 1 ≤ nextByte n ∧ nextByte n ≤ 255 := by
  unfold nextByte
  split <;> omega

theorem State.appendTicket_keeps (h : s.tickets.queue.length < Config.ticketPlaces) (sheet index advance : Nat) (x : Six Nat) :
    Keeps s (s.appendTicket sheet index advance x) := by
  refine (s.setTickets_keeps fun _ => ⟨?_, nextByte_range⟩).to_racks (State.duePass_racks _)
  rw [List.length_append]
  exact h

/-! ### Sheets -/

theorem State.setSheets_keeps {x : Sheets} (h : s.QueuesFit → x.queue.length ≤ Config.sheetPlaces ∧
    x.outcomes.length ≤ Config.sheetPlaces ∧ 1 ≤ x.nextId ∧ x.nextId ≤ 255) : Keeps s (s.setSheets x) := by
  refine .of_queues (s.setSheets_frame x) (fun fit => ?_) rfl
  obtain ⟨length, outcomes, ids⟩ := h fit
  obtain ⟨tickets, -, -, low, high, -⟩ := fit
  exact ⟨tickets, length, outcomes, low, high, ids⟩

theorem State.appendSheet_keeps (h : s.sheets.queue.length < Config.sheetPlaces) (pref : RollPref)
    (media width planned top bottom dry : Nat) (mode : CutMode) :
    Keeps s (s.appendSheet pref media width planned top bottom dry mode) := by
  refine Keeps.to_racks ?_ (State.dueExamine_racks _)
  refine s.setSheets_keeps fun ⟨_, _, outcomes, _⟩ => ⟨?_, outcomes, nextByte_range⟩
  rw [List.length_append]
  exact h

/-- R116: the sheet leaves its place, and of the outcomes the newest alone are kept. -/
theorem State.removeSheet_keeps (id : Nat) (o : SheetOutcome) : Keeps s (s.removeSheet id o) := by
  unfold State.removeSheet
  split
  · exact .refl s
  · next h _ =>
    have left (l : List OutcomeEntry) : Keeps s (s.setSheets { s.sheets with
        queue := s.sheets.queue.filter fun x => x.id != id
        outcomes := l.drop (l.length - Config.sheetPlaces) }) := by
      refine s.setSheets_keeps fun ⟨_, sheets, _, _, _, ids⟩ => ⟨(List.length_filter_le _ _).trans sheets, ?_, ids⟩
      rw [List.length_drop]
      omega
    exact ((((left _).to_racks (State.raise_racks _ _)).to_racks (State.dueExamine_racks _)).trans
      (.when _ (.of_racks (State.dueArbiter_racks _)))).trans (.when _ (State.countDone_keeps _))

theorem State.cancelSheet_keeps (id : Nat) (o : SheetOutcome) : Keeps s (s.cancelSheet id o) := by
  unfold State.cancelSheet
  dsimp only
  split
  · exact (s.removeTickets_keeps _).to_racks (State.modSheet_racks _ _ _)
  · exact (s.removeTickets_keeps _).trans (State.removeSheet_keeps _ _ _)

theorem State.cancelIf_keeps (id : Nat) (o : SheetOutcome) : Keeps s (s.cancelIf id o) := by
  unfold State.cancelIf
  split
  · exact .refl s
  · split
    · exact s.cancelSheet_keeps id o
    · exact .refl s

theorem State.cancelActive_keeps (o : SheetOutcome) : Keeps s (s.cancelActive o) := by
  unfold State.cancelActive
  split
  · exact .refl s
  · exact s.cancelIf_keeps _ o

theorem State.paperEndOn_keeps (r : Roll) : Keeps s (s.paperEndOn r) := by
  unfold State.paperEndOn
  repeat' split
  case h_2.isTrue => exact s.cancelIf_keeps _ _
  all_goals exact .refl s

theorem State.dryEnds_keeps (h : Sheet) : Keeps s (s.dryEnds h) := by
  unfold State.dryEnds
  split
  · exact s.removeSheet_keeps _ _
  · exact .of_racks (s.modSheet_racks _ _)

/-! ### The feed unit -/

theorem State.stoppedPaperEnd_keeps (p : Purpose) (id : Nat) : Keeps s (s.stoppedPaperEnd p id) := by
  unfold State.stoppedPaperEnd
  split
  · exact s.removeSheet_keeps id _
  all_goals exact s.cancelIf_keeps id _

theorem State.feedFaulted_keeps (o : FeedOp) : Keeps s (s.feedFaulted o) := by
  unfold State.feedFaulted
  split
  · exact .refl s
  split
  · exact .of_racks (s.modSheet_racks _ _)
  · exact .refl s
  all_goals exact s.cancelIf_keeps _ _

theorem State.stopAdvance_keeps (o : FeedOp) (r : Roll) : Keeps s (s.stopAdvance o r) :=
  ((Keeps.when _ (State.stoppedPaperEnd_keeps _ _ _)).trans (State.paperEndOn_keeps _ r)).from_racks (by simp)

theorem State.faultAdvance_keeps (o : FeedOp) (w : FeedCause) : Keeps s (s.faultAdvance o w) :=
  (State.feedFaulted_keeps _ o).from_racks (by simp)

theorem State.faultSwap_keeps (o : FeedOp) (w : FeedCause) : Keeps s (s.faultSwap o w) :=
  (State.feedFaulted_keeps _ o).from_racks (by simp)

theorem State.completeCut_keeps (o : FeedOp) : Keeps s (s.completeCut o) :=
  (Keeps.when _ (State.removeSheet_keeps _ _ _)).from_racks (s.endOp_racks _)

theorem State.requestAdvance_keeps (p : Purpose) (d sheet ticket : Nat) : Keeps s (s.requestAdvance p d sheet ticket) := by
  unfold State.requestAdvance
  split
  · exact s.stoppedPaperEnd_keeps p sheet
  · exact .of_racks (s.startOp_racks _ _)

theorem State.rollLeaves_keeps (r : Roll) : Keeps s (s.rollLeaves r) := by
  unfold State.rollLeaves
  dsimp only
  split
  · split
    · exact .of_racks (by simp)
    split
    · exact .of_racks (by simp)
    · exact (State.cancelActive_keeps _ _).from_racks (by simp)
  · split
    · split
      · exact (State.feedFaulted_keeps _ _).from_racks (by simp)
      · exact .of_racks (by simp)
    · exact .of_racks (by simp)
  · split
    · split
      · exact (State.faultSwap_keeps _ _ _).from_racks (by simp)
      · exact .of_racks (by simp)
    · exact .of_racks (by simp)
  · split <;> exact .of_racks (by simp)
  · split <;> exact .of_racks (by simp)
  · exact .of_racks (by simp)

end

/-! ### Reactions -/

section
variable {s t : State}

theorem State.thresholds_keeps (h : s.thresholds = some t) : Keeps s t := by
  unfold State.thresholds at h
  split at h
  · cases h
    exact (State.requestSpit_keeps _ _).from_racks (s.setStation_racks _)
  · split at h
    · cases h
      exact (State.requestClean_keeps _ _ _ _ _ _).from_racks (s.setStation_racks _)
    · cases h

theorem State.withdrawStep_racks (h : s.withdrawStep = some t) : t.racks = s.racks := by
  unfold State.withdrawStep at h
  repeat' split at h
  all_goals cases h
  simp

theorem State.passStep_racks (h : s.passStep = some t) : t.racks = s.racks := by
  unfold State.passStep at h
  dsimp only at h
  repeat' split at h
  all_goals cases h
  all_goals simp

theorem State.sheetStep_keeps (h : s.sheetStep = some t) : Keeps s t := by
  unfold State.sheetStep at h
  split at h
  · cases h
    exact .of_racks (s.startDrying_racks _)
  · split at h
    · cases h
      exact s.removeSheet_keeps _ _
    · obtain ⟨x, -, rfl⟩ := Option.map_eq_some_iff.1 h
      exact s.dryEnds_keeps x

theorem State.examine_racks (h : s.examine = some t) : t.racks = s.racks := by
  unfold State.examine at h
  split at h
  · obtain rfl := Option.some.inj h
    repeat' split
    all_goals simp
  · cases h

theorem State.rollsChanged_racks (h : s.rollsChanged = some t) : t.racks = s.racks := by
  unfold State.rollsChanged at h
  split at h
  · cases h
  · obtain rfl := Option.some.inj h
    repeat' split
    all_goals simp

theorem State.askLoading_keeps {x : Sheet} (h : s.askLoading x = some t) : Keeps s t := by
  unfold State.askLoading at h
  split at h
  · split at h <;> cases h
    exact .of_racks (s.requestSwap_racks _ _)
  · split at h <;> cases h
    exact s.requestAdvance_keeps _ _ _ _
  · split at h <;> cases h
    exact .of_racks (s.chooseAgain_racks x)
  · cases h

theorem State.askCutting_keeps {x : Sheet} (h : s.askCutting x = some t) : Keeps s t := by
  unfold State.askCutting at h
  split at h
  · cases h
    exact s.removeSheet_keeps _ _
  split at h
  · split at h
    · cases h
      exact s.requestAdvance_keeps _ _ _ _
    · cases h
      exact .of_racks (s.requestCut_racks x)
    · cases h
  · cases h

theorem State.sheetAsks_keeps (h : s.sheetAsks = some t) : Keeps s t := by
  have loading : ∀ {a : Sheet}, (if a.state == .loading then s.askLoading a else none) = some t → Keeps s t := by
    intro a e
    split at e
    · exact State.askLoading_keeps e
    · cases e
  unfold State.sheetAsks at h
  split at h
  · split at h
    · next cuts => cases h; exact State.askCutting_keeps cuts
    · split at h
      · cases h
      · exact loading h
  · split at h
    · cases h
    · exact loading h

theorem State.advanceStep_keeps (h : s.advanceStep = some t) : Keeps s t := by
  unfold State.advanceStep at h
  repeat' split at h
  all_goals cases h
  exact (State.requestAdvance_keeps _ _ _ _ _).from_racks (s.modTicket_racks _ _)

theorem State.sessionStep_keeps (h : s.sessionStep = some t) : Keeps s t := by
  obtain ⟨c, -, hc⟩ := List.exists_of_findSome?_eq_some h
  exact State.sessionReacts_keeps hc

theorem State.pumpArbiter_keeps (h : s.pumpArbiter = some t) : Keeps s t := by
  unfold State.pumpArbiter at h
  split at h
  · cases h
  · cases h
  · split at h
    · cases h
      exact s.startSuction_keeps _
    · obtain ⟨c, -, rfl⟩ := Option.map_eq_some_iff.1 h
      exact s.serveCandidate_keeps c

theorem State.serviceArbiter_keeps (h : s.serviceArbiter = some t) : Keeps s t := by
  unfold State.serviceArbiter at h
  split at h
  · obtain rfl := Option.some.inj h
    dsimp only
    split
    · exact (tryItems_keeps _ _).from_racks (s.setDue_racks _)
    · exact .of_racks (s.setDue_racks _)
  · cases h

theorem State.strokeStep_keeps (h : s.strokeStep = some t) : Keeps s t := by
  obtain ⟨e, -, ha | ⟨-, rfl⟩⟩ := State.strokeStep_cases h
  · exact State.serviceArbiter_keeps ha
  · exact (State.afterStroke_keeps _ _ _).from_racks (s.setDue_racks _)

theorem State.bringParked_racks (h : s.bringParked = some t) : t.racks = s.racks := by
  unfold State.bringParked at h
  split at h <;> cases h
  exact s.placePark_racks _

theorem State.bringMove_keeps {mv : State → State} (hm : Keeps s (mv s)) (h : s.bringMove mv = some t) : Keeps s t := by
  unfold State.bringMove at h
  split at h
  · cases h
    exact hm
  · exact .of_racks (State.bringParked_racks h)

theorem State.placeStageOrder_keeps {w : Work} {k : OrderKind} {n : Nat} (h : s.placeStageOrder w k n = some t) : Keeps s t := by
  unfold State.placeStageOrder at h
  split at h
  · split at h <;> cases h
    exact .of_racks (s.placeOrder_racks _ _ _ _)
  · exact State.bringMove_keeps (.of_racks s.startUncap_racks) h
  all_goals cases h

/-- A stage that the station has nothing to do for ends; for the others it moves, places an order or asks for suction (R123). -/
theorem State.doStage_keeps {w : Work} {g : Stage} (h : s.doStage w g = some t) : Keeps s t := by
  have caps : s.bringMove State.startCap = some t → Keeps s t := State.bringMove_keeps s.startCap_keeps
  have uncaps : s.bringMove State.startUncap = some t → Keeps s t := State.bringMove_keeps (.of_racks s.startUncap_racks)
  have wipes : s.bringMove State.startWipe = some t → Keeps s t := State.bringMove_keeps (.of_racks s.startWipe_racks)
  have ends : some s.endStage = some t → Keeps s t := fun e => Option.some.inj e ▸ s.endStage_keeps
  cases g with
  | park =>
    unfold State.doStage at h
    dsimp only at h
    split at h
    · exact ends h
    · exact .of_racks (State.bringParked_racks h)
  | cap =>
    unfold State.doStage at h
    dsimp only at h
    split at h
    · exact ends h
    · exact caps h
    all_goals cases h
  | uncap =>
    unfold State.doStage at h
    dsimp only at h
    split at h
    · exact ends h
    · exact uncaps h
    all_goals cases h
  | wipe =>
    unfold State.doStage at h
    dsimp only at h
    split at h
    · exact wipes h
    · exact uncaps h
    all_goals cases h
  | suction =>
    unfold State.doStage at h
    dsimp only at h
    split at h
    · split at h
      · cases h
      · obtain rfl := Option.some.inj h
        exact .of_racks (s.askSuction_racks _ _)
    · exact caps h
    · cases h
  | spit => exact State.placeStageOrder_keeps h
  | check => exact State.placeStageOrder_keeps h

theorem State.driveStage_keeps (h : s.driveStage = some t) : Keeps s t := by
  unfold State.driveStage at h
  repeat' split at h
  case h_2.isTrue => exact State.doStage_keeps h
  all_goals cases h

theorem State.capDueActs_keeps (h : s.capDueActs = some t) : Keeps s t := by
  unfold State.capDueActs at h
  split at h
  · split at h
    · cases h
      exact (State.startCap_keeps _).from_racks (s.setStation_racks _)
    · split at h <;> cases h
      exact .of_racks (s.placePark_racks _)
  · split at h <;> cases h
    exact .of_racks (s.setStation_racks _)

theorem State.uncapForTicket_racks (h : s.uncapForTicket = some t) : t.racks = s.racks := by
  unfold State.uncapForTicket at h
  split at h <;> cases h
  exact s.startUncap_racks

theorem State.grantStep_racks (h : s.grantStep = some t) : t.racks = s.racks := by
  unfold State.grantStep at h
  repeat' split at h
  all_goals cases h
  simp

theorem reactions_keeps {f : State → Option State} (hf : f ∈ reactions) (h : f s = some t) : Keeps s t := by
  simp only [reactions, List.mem_cons, List.not_mem_nil, or_false] at hf
  rcases hf with rfl | rfl | rfl | rfl | rfl | rfl | rfl | rfl | rfl | rfl | rfl | rfl | rfl | rfl | rfl | rfl | rfl
  · exact State.thresholds_keeps h
  · exact .of_racks (State.withdrawStep_racks h)
  · exact .of_racks (State.passStep_racks h)
  · exact State.sheetStep_keeps h
  · exact .of_racks (State.examine_racks h)
  · exact .of_racks (State.rollsChanged_racks h)
  · exact State.sheetAsks_keeps h
  · exact State.advanceStep_keeps h
  · exact State.sessionStep_keeps h
  · exact State.strokeStep_keeps h
  · exact State.pumpArbiter_keeps h
  · exact State.serviceArbiter_keeps h
  · exact State.driveStage_keeps h
  · exact State.capDueActs_keeps h
  · exact .of_racks (State.uncapForTicket_racks h)
  · exact .of_racks (State.grantStep_racks h)
  · exact State.startLink_keeps h

theorem follow_keeps (n : Nat) (s : State) : Keeps s (follow n s) := by
  induction n generalizing s with
  | zero => exact .refl s
  | succ n ih =>
    unfold follow
    split
    · exact .refl s
    · next t h =>
      obtain ⟨f, hf, hs⟩ := List.exists_of_findSome?_eq_some h
      exact (reactions_keeps hf hs).trans (ih t)

theorem State.settle_keeps (s : State) : Keeps s s.settle :=
  (follow_keeps _ s).trans (.when _ (.of_racks (State.loadIdleSleep_racks _)))

/-- What the reactions make of a state that has been reached. -/
theorem Keeps.settle (h : Keeps s t) : Keeps s t.settle := h.trans t.settle_keeps

/-- What the reactions make of a state with the same racks. -/
@[simp] theorem Keeps.settle_racks (h : t.racks = s.racks) : Keeps s t.settle := (Keeps.of_racks h).settle

theorem State.wake_keeps (s : State) : Keeps s s.wake := by
  unfold State.wake
  split
  · exact .settle_racks s.enterRun_racks
  · exact .refl s

end

end Sys2Proof.Machine
end

section
/-!
SUPPORT. What the owning rules decide, the timers and the soft reset keep of the queues (`Keeps`).
-/

namespace Sys2Proof.Machine

/-! ### The frames of the commands -/

section
variable {s t : State}

theorem State.takeWrite_keeps (p : Port) (cmd : Command) (n : Nat) {d : State → Answer} (h : Keeps s (d s).after) :
    Keeps s (s.takeWrite p cmd n d) := by
  unfold State.takeWrite
  split
  · exact .refl s
  · split
    · exact (State.wake_keeps _).from_racks (s.replied_racks s p cmd.code .notThisPort 0 n)
    · split
      · exact (State.wake_keeps _).from_racks (s.replied_racks s p cmd.code .asleep 0 n)
      · exact h.to_racks (State.replied_racks _ _ _ _ _ _ _)

theorem State.takeRead_keeps (s : State) (p : Port) (cmd : Command) (bits : Nat) (data : List Byte) :
    Keeps s (s.takeRead p cmd bits data id) := by
  unfold State.takeRead
  split
  · exact .refl s
  · split
    · exact (State.wake_keeps _).from_racks (s.modPort_racks p _)
    · split
      · exact (State.wake_keeps _).from_racks (s.modPort_racks p _)
      · exact .of_racks (s.modPort_racks p _)

theorem State.takePart_keeps (s : State) (p : Port) (cmd : Command) (c : Clocks) (data : List Byte) (act : PortRec → PortRec) :
    Keeps s (s.takePart p cmd c data act) := by
  unfold State.takePart
  dsimp only
  split
  · exact .refl s
  · split
    all_goals exact (Keeps.when _ (State.wake_keeps _)).from_racks (s.modPort_racks p _)

theorem State.discard_keeps (s : State) (p : Port) (bits : Nat) : Keeps s (s.discard p bits) := by
  unfold State.discard
  split
  · exact .refl s
  · exact (State.wake_keeps _).from_racks (by rfl)

/-- A sensor change that sets a pin, and what it brings about unless the line is held. -/
theorem State.sensed_keeps {act : State → State} (hs : t.racks = s.racks) (h : Keeps t (act t)) : Keeps s (t.sensed act) := by
  unfold State.sensed
  split
  · exact .of_racks hs
  · exact h.from_racks hs

theorem State.sensedSome_keeps {act : State → Option State} (hs : t.racks = s.racks) (h : ∀ u, act t = some u → Keeps t u) :
    Keeps s (t.sensedSome act) := by
  refine State.sensed_keeps hs ?_
  cases hu : act t with
  | none => exact .refl t
  | some u => exact (h u hu).settle

theorem State.sensedAwake_keeps {act : State → State} (hs : t.racks = s.racks) (h : ∀ u, Keeps u (act u)) :
    Keeps s (t.sensedAwake act) := State.sensed_keeps hs (t.wake_keeps.trans (h _)).settle

end

section
variable (s : State)

/-! ### What the owning rules decide -/

theorem decideTableSel_keeps (p : Port) (table place : Nat) : Keeps s (decideTableSel p table place s).after := by
  unfold decideTableSel
  repeat' split
  all_goals simp [Answer.refuse]

/-- R97: a sheet is appended where a place is free. -/
theorem decideSheetOpen_keeps (pref media width planned top bottom dry mode : Nat) :
    Keeps s (decideSheetOpen pref media width planned top bottom dry mode s).after := by
  unfold decideSheetOpen
  split
  · exact .refl s
  split
  · split
    · exact .refl s
    split
    · exact .refl s
    · next room => exact (s.appendSheet_keeps (not_le.1 room) _ _ _ _ _ _ _ _).settle
  · exact .refl s

theorem decideSheetClose_keeps (id final : Nat) : Keeps s (decideSheetClose id final s).after := by
  unfold decideSheetClose
  repeat' split
  all_goals simp [Answer.refuse, Answer.accept]

theorem decideSheetCancel_keeps (id : Nat) : Keeps s (decideSheetCancel id s).after := by
  unfold decideSheetCancel
  split
  · exact .refl s
  split
  · exact .refl s
  split
  · exact .refl s
  split
  · exact .refl s
  · exact .refl s
  · exact .refl s
  · exact (s.removeSheet_keeps _ _).settle
  · exact (s.removeSheet_keeps _ _).settle
  all_goals exact (s.cancelSheet_keeps _ _).settle

/-- R61: a ticket is appended where a place is free. -/
theorem decideSwathAsk_keeps (sheet index advance count : Nat) (pairs : List (Nat × Nat)) :
    Keeps s (decideSwathAsk sheet index advance count pairs s).after := by
  unfold decideSwathAsk
  dsimp only
  split
  · exact .refl s
  split
  · exact .refl s
  split
  · exact .refl s
  split
  · exact .refl s
  split
  · exact .refl s
  next room =>
  split
  · exact .refl s
  split
  · exact .refl s
  · exact (s.appendTicket_keeps (not_le.1 room) _ _ _ _).settle

theorem decideSwathWithdraw_keeps (n : Nat) : Keeps s (decideSwathWithdraw n s).after := by
  unfold decideSwathWithdraw
  repeat' split
  case h_2.isFalse => exact (s.removeTickets_keeps _).settle
  all_goals exact .refl s

theorem decideSwathTake_keeps (n : Nat) : Keeps s (decideSwathTake n s).after := by
  unfold decideSwathTake
  repeat' split
  all_goals simp [Answer.refuse, Answer.accept]

theorem decideSwathDone_keeps (n count : Nat) (pairs : List (Nat × Nat)) : Keeps s (decideSwathDone n count pairs s).after := by
  unfold decideSwathDone
  repeat' split
  case h_2.isFalse.isTrue => exact (s.settleTicket_keeps _ _).settle
  all_goals exact .refl s

theorem State.reportAway_keeps : Keeps s s.reportAway := by
  unfold State.reportAway
  dsimp only
  split
  · exact .of_racks (s.setStation_racks _)
  · exact .of_racks (s.setStation_racks _)
  all_goals exact (State.enterFault_keeps _ _).from_racks (s.setStation_racks _)

theorem decideParkState_keeps (code : Nat) : Keeps s (decideParkState code s).after := by
  unfold decideParkState
  split
  · exact .refl s
  · exact .settle_racks (by simp [State.reportParked])
  · exact s.reportAway_keeps.settle

theorem State.spitDone_keeps (pairs : List (Nat × Nat)) : Keeps s (s.spitDone pairs) :=
  .trans (.to_racks ((s.settleSpit_keeps _ pairs).trans (State.resetExposures_keeps _ _)) (State.finishOrder_racks _))
    (State.endStage_keeps _)

theorem State.checkDone_keeps (reports : List CheckReport) : Keeps s (s.checkDone reports) :=
  .trans (.to_racks (s.applyCheck_keeps reports) (State.finishOrder_racks _)) (State.endStage_keeps _)

theorem decideOrderDone_keeps (kind count : Nat) (pairs : List (Nat × Nat)) (reports : List CheckReport) :
    Keeps s (decideOrderDone kind count pairs reports s).after := by
  unfold decideOrderDone
  split
  · exact .refl s
  split
  · unfold decideSpitDone
    repeat' split
    case isFalse.isTrue.isFalse.isFalse.isFalse => exact (s.spitDone_keeps pairs).settle
    all_goals exact .refl s
  split
  · unfold decideCheckDone
    repeat' split
    case isFalse.isFalse.isTrue.isFalse.isFalse.isFalse.isFalse => exact (s.checkDone_keeps reports).settle
    all_goals exact .refl s
  · exact .refl s

theorem State.goRun_keeps : Keeps s s.goRun := by
  unfold State.goRun
  exact (Keeps.when _ (State.cleanAll_keeps _ .start)).from_racks (by simp)

theorem decideGo_keeps : Keeps s (decideGo s).after := by
  unfold decideGo
  split
  · exact s.goRun_keeps.settle
  · exact .refl s

theorem decideSleepNow_keeps : Keeps s (decideSleepNow s).after := by
  unfold decideSleepNow
  split <;> simp [Answer.refuse, Answer.accept]

theorem State.paramActs_keeps (n : Nat) : Keeps s (s.paramActs n) := by
  unfold State.paramActs
  split
  case h_5 => exact .when _ (.of_racks (by rfl))
  all_goals simp

theorem decideConfigSet_keeps (n mask v : Nat) : Keeps s (decideConfigSet n mask v s).after := by
  unfold decideConfigSet decideDv State.applyParam
  repeat' split
  case isFalse.isFalse.isFalse.isFalse.isFalse.isFalse => exact (State.paramActs_keeps _ _).from_racks (s.setParams_racks _)
  all_goals simp [Answer.refuse]

theorem decideSlotMapSet_keeps (entries : Eight Nat) : Keeps s (decideSlotMapSet entries s).after := by
  unfold decideSlotMapSet
  split
  · exact .refl s
  split
  · exact .refl s
  next m _ =>
  split
  · exact .refl s
  split
  · exact .refl s
  split
  · exact .refl s
  · simp only [Answer.accept]
    exact (s.takeMap_keeps m).settle

/-- R46: the slot is UNIDENTIFIED, so a tank stands in it. -/
theorem decideTankAccept_keeps (slot ml : Nat) : Keeps s (decideTankAccept slot ml s).after := by
  unfold decideTankAccept
  split
  · exact .refl s
  split
  · exact .refl s
  split
  · next k _ _ _ _ c unidentified _ =>
    have known : s.berths.Known (.slot k) := (Berths.Leads.refl _).knows_slot (by simp [unidentified])
    exact (Keeps.of_berths (s.acceptTank_frame k c ml) (State.acceptTank_leads (.refl _) known c ml) rfl).settle
  · exact .refl s

theorem decideLevelRestore_keeps (channel level : Nat) : Keeps s (decideLevelRestore channel level s).after := by
  unfold decideLevelRestore
  repeat' split
  all_goals simp [Answer.refuse]

theorem decideRetiredRestore_keeps (channel count : Nat) (indices : List Nat) :
    Keeps s (decideRetiredRestore channel count indices s).after := by
  unfold decideRetiredRestore
  repeat' split
  all_goals simp [Answer.refuse, Answer.accept]

theorem decideRollLoad_keeps (roll media width length : Nat) : Keeps s (decideRollLoad roll media width length s).after := by
  unfold decideRollLoad
  repeat' split
  all_goals simp [Answer.refuse, Answer.accept]

theorem State.panelCleans_keeps (m : Three Bool) (n : Nat) (u : Urgency) : Keeps s (s.panelCleans m n u) :=
  .foldl _ (fun t h => .when _ (t.requestClean_keeps h n .panel u 1)) s

theorem decideCleanAsk_keeps (mask level urgency : Nat) : Keeps s (decideCleanAsk mask level urgency s).after := by
  unfold decideCleanAsk
  split
  · exact .refl s
  split
  · exact .refl s
  split
  · exact (s.requestCheck_keeps _).settle
  split
  · exact .refl s
  · exact (s.panelCleans_keeps _ _ _).settle

theorem decideFeedClear_keeps : Keeps s (decideFeedClear s).after := by
  unfold decideFeedClear
  dsimp only
  repeat' split
  all_goals simp [Answer.refuse, Answer.accept]

theorem decideStationClear_keeps (park : ParkState) : Keeps s (decideStationClear park s).after := by
  have read : (s.setPins { s.pins with parkSwitch := park }).racks = s.racks := s.setPins_racks (by rfl)
  unfold decideStationClear
  dsimp only
  repeat' split
  all_goals simp [Answer.refuse, Answer.accept, State.stationCleared, read]

/-! ### The soft reset -/

theorem State.softLedger_keeps : Keeps s s.softLedger := by
  unfold State.softLedger
  exact (Keeps.of_berths (State.refreshWaste_frame _) (State.refreshWaste_leads (.refl _)) rfl).from_racks (by simp)

/-- R18: a running stroke draws from the slot from which it drew. -/
theorem Manifold.softReset_source (m : Manifold) : m.softReset.pump.source = m.pump.source := by
  unfold Manifold.softReset
  cases h : m.pump <;> rfl

/-- R185: the queues are emptied, and the link asks again for what stands. -/
theorem State.softReset_keeps (park : ParkState) : Keeps s (s.softReset park) := by
  have pins : ((s.setPorts (PerPort.const PortRec.reset)).setPins { s.pins with parkSwitch := park }).racks = s.racks :=
    (State.setPins_racks _ (by rfl)).trans (s.setPorts_racks _)
  have manifold (t : State) : Keeps t (t.setManifold t.manifold.softReset) := by
    have same : (t.setManifold t.manifold.softReset).berths = t.berths := by
      rw [State.setManifold_berths, Manifold.softReset_source]
      rfl
    exact .of_berths (t.setManifold_frame _) (same ▸ .refl _) rfl
  have tickets (t : State) : Keeps t (t.setTickets { t.tickets with queue := [], swathLeft := none }) :=
    t.setTickets_keeps fun ⟨_, _, _, low, high, _⟩ => ⟨Nat.zero_le _, low, high⟩
  have sheets (t : State) : Keeps t (t.setSheets { t.sheets with queue := [] }) :=
    t.setSheets_keeps fun ⟨_, _, outcomes, _, _, ids⟩ => ⟨Nat.zero_le _, outcomes, ids⟩
  have service (t : State) : Keeps t (t.setService { t.service with queue := [], active := none }) :=
    t.setService_keeps fun _ => List.nodup_nil
  have feed (t : State) : Keeps t (t.setFeed { t.feed with op := t.feed.op.map fun o => { o with orphan := true } }) :=
    .of_racks (t.setFeed_racks _)
  have station (t : State) : Keeps t (t.setStation (stationAtReset t.pins t.params.capDelay t.station)) :=
    .of_racks (t.setStation_racks _)
  have link (t : State) : Keeps t (t.resetLink.raiseSurveys false) := t.resetLink_keeps.to_racks (State.raiseSurveys_racks _ _)
  have begins (t : State) : Keeps t ((t.setMode { t.mode with cause := .soft }).enterRun) :=
    .of_racks ((State.enterRun_racks _).trans (t.setMode_racks _))
  have emptied := ((((State.softLedger_keeps _).from_racks pins).trans (manifold _)).trans (tickets _)).trans (sheets _)
  have ready := ((emptied.trans (feed _)).trans (station _)).trans (service _)
  exact (ready.trans (link _)).trans (begins _)

end

/-! ### Sensor changes and timers -/

section
variable {s t : State}

theorem State.tripped_keeps {c : Channel} {r : StrokeRun} (h : s.tripped c = some r) : Keeps s (s.completeStroke r true) := by
  unfold State.tripped at h
  split at h
  · next pump =>
    split at h <;> cases h
    exact State.completeStroke_keeps s pump true
  all_goals cases h

theorem State.strokeExpires_keeps (h : s.strokeExpires = some t) : Keeps s t := by
  unfold State.strokeExpires at h
  split at h
  · next pump =>
    obtain rfl := Option.some.inj h
    exact State.completeStroke_keeps s pump false
  all_goals cases h

theorem State.suctionExpires_keeps (h : s.suctionExpires = some t) : Keeps s t := by
  unfold State.suctionExpires at h
  split at h
  · obtain rfl := Option.some.inj h
    exact s.endSuction_keeps _
  all_goals cases h

theorem State.paperEnds_keeps (h : s.paperEnds = some t) : Keeps s t := by
  have ends (r : Roll) : Keeps s (((s.modPathRoll RollRec.ended).reportRolls s.feed.roll).paperEndOn r) :=
    (State.paperEndOn_keeps _ r).from_racks (by simp)
  unfold State.paperEnds at h
  split at h
  · cases h
  split at h
  · cases h
  split at h
  · obtain ⟨o, -, rfl⟩ := Option.map_eq_some_iff.1 h
    exact s.stopAdvance_keeps o _
  case h_5 => cases h
  case h_6 => cases h
  all_goals
    obtain rfl := Option.some.inj h
    exact ends _

theorem State.threadChanges_keeps {present : Bool} (h : s.threadChanges present = some t) : Keeps s t := by
  unfold State.threadChanges at h
  split at h
  · split at h
    · cases h
    split at h
    · cases h
      exact .of_racks (s.setFeed_racks _)
    · obtain rfl := Option.some.inj h
      exact (State.cancelActive_keeps _ _).from_racks (s.pathFaults_racks _ _)
  · split at h
    · cases h
    · obtain ⟨o, -, rfl⟩ := Option.map_eq_some_iff.1 h
      exact s.faultAdvance_keeps o _
  · obtain ⟨o, -, rfl⟩ := Option.map_eq_some_iff.1 h
    exact .of_racks (s.proceedSwap_racks o)
  all_goals cases h

theorem State.actuatorReports_racks (h : s.actuatorReports = some t) : t.racks = s.racks := by
  unfold State.actuatorReports at h
  split at h <;> cases h
  exact s.proceedSwap_racks _

theorem State.cutterReports_keeps {home : Bool} (h : s.cutterReports home = some t) : Keeps s t := by
  unfold State.cutterReports at h
  split at h
  · split at h
    · split at h <;> cases h
      exact s.completeCut_keeps _
    · cases h
      exact .of_racks (s.setFeed_racks _)
  · cases h

theorem State.moveEnds_racks (h : s.moveEnds = some t) : t.racks = s.racks := by
  unfold State.moveEnds at h
  split at h <;> cases h
  exact s.completeAdvance_racks _

theorem State.watchdogExpires_keeps (h : s.watchdogExpires = some t) : Keeps s t := by
  unfold State.watchdogExpires at h
  split at h <;> cases h
  exact s.faultAdvance_keeps _ _

theorem State.swapExpires_keeps (h : s.swapExpires = some t) : Keeps s t := by
  unfold State.swapExpires at h
  split at h <;> cases h
  exact s.faultSwap_keeps _ _

theorem State.cutExpires_racks (h : s.cutExpires = some t) : t.racks = s.racks := by
  unfold State.cutExpires at h
  split at h <;> cases h
  exact s.pathFaults_racks _ _

theorem State.capReports_keeps {x : CapReading} (h : s.capReports x = some t) : Keeps s t := by
  unfold State.capReports at h
  split at h
  · split at h <;> cases h
    exact s.enterCapped_keeps
  · split at h <;> cases h
    exact .of_racks s.enterOpen_racks
  · cases h

theorem State.capMoveExpires_keeps (h : s.capMoveExpires = some t) : Keeps s t := by
  unfold State.capMoveExpires at h
  split at h
  · split at h
    · cases h
    · obtain rfl := Option.some.inj h
      exact s.enterFault_keeps _
  · cases h

theorem State.wipeExpires_keeps (h : s.wipeExpires = some t) : Keeps s t := by
  unfold State.wipeExpires at h
  split at h
  · split at h
    · obtain rfl := Option.some.inj h
      exact (State.endStage_keeps _).from_racks s.enterOpen_racks
    · cases h
  · cases h

theorem State.capDelayExpires_racks (h : s.capDelayExpires = some t) : t.racks = s.racks := by
  unfold State.capDelayExpires at h
  split at h <;> cases h
  rfl

theorem State.exposureReaches_racks {x : Head} {n : Nat} (h : s.exposureReaches x n = some t) : t.racks = s.racks := by
  unfold State.exposureReaches at h
  split at h <;> cases h
  rfl

theorem State.orderExpires_keeps (h : s.orderExpires = some t) : Keeps s t := by
  unfold State.orderExpires at h
  split at h
  · obtain rfl := Option.some.inj h
    exact s.orderTimesOut_keeps
  · cases h

theorem State.swathExpires_keeps (h : s.swathExpires = some t) : Keeps s t := by
  obtain ⟨x, -, rfl⟩ := Option.map_eq_some_iff.1 h
  exact s.loseTicket_keeps x

theorem State.dryExpires_racks {id : Nat} (h : s.dryExpires id = some t) : t.racks = s.racks := by
  unfold State.dryExpires at h
  split at h <;> cases h
  exact s.modSheet_racks _ _

end

end Sys2Proof.Machine
end

section
/-!
SUPPORT. What a step makes of the three invariants of the queues (`Fits`): most commands keep the racks (`Keeps`), and the others let a
position in or out with its presence pin, hold the line, or set the hub afresh. O56 is settled from `step_fits`.
-/

namespace Sys2Proof.Machine

/-- From one state to another the three invariants of the queues are kept. -/
structure Fits (s t : State) : Prop where
  queues : s.QueuesFit → t.QueuesFit
  service : s.ServiceQueueFits → t.ServiceQueueFits
  link : s.LinkQueueFits → t.LinkQueueFits

section
variable {s t u : State}

theorem Keeps.fits (h : Keeps s t) : Fits s t := by
  refine ⟨h.queues, fun l => t.serviceQueueFits_iff.2 (h.lanes (s.serviceQueueFits_iff.1 l)), fun l => ?_⟩
  obtain ⟨sound, occupied⟩ := s.linkQueueFits_iff.1 l
  refine t.linkQueueFits_iff.2 ⟨h.berths.sound sound, fun p known => ?_⟩
  rw [h.occupied]
  exact occupied p (h.berths.known p known)

namespace Fits

theorem trans (h : Fits s t) (k : Fits t u) : Fits s u :=
  ⟨k.queues ∘ h.queues, k.service ∘ h.service, k.link ∘ h.link⟩

theorem of_racks (h : t.racks = s.racks) : Fits s t := (Keeps.of_racks h).fits

end Fits

/-- A frame outside the tickets, the sheets and the service leaves their queues. -/
theorem Frame.queues {bs : List Block} (f : Frame bs s t)
    (hb : decide (Block.tickets ∉ bs ∧ Block.sheets ∉ bs ∧ Block.service ∉ bs) = true) :
    (s.QueuesFit → t.QueuesFit) ∧ (s.ServiceQueueFits → t.ServiceQueueFits) := by
  obtain ⟨h1, h2, h3⟩ := of_decide_eq_true hb
  have ht : t.tickets = s.tickets := f .tickets h1
  have hh : t.sheets = s.sheets := f .sheets h2
  have hs : t.service = s.service := f .service h3
  simp only [State.QueuesFit, State.ServiceQueueFits, ht, hh, hs, imp_self, true_and]

/-! ### The reset line and the resets -/

/-- While the line is held low no position need be occupied. -/
theorem State.linkQueueFits_of_held (low : t.pins.resetLow = true) (leads : s.berths.Leads t.berths) (h : s.LinkQueueFits) :
    t.LinkQueueFits := by
  have held (p : LinkPos) : t.pins.occupied p := by cases p <;> simp [Pins.occupied, low]
  exact t.linkQueueFits_iff.2 ⟨leads.sound (s.linkQueueFits_iff.1 h).1, fun p _ => held p⟩

theorem State.resetLineAssert_fits (s : State) : Fits s (s.stopAll.setPins { s.pins with resetLow := true }) :=
  ⟨id, id, State.linkQueueFits_of_held rfl (Berths.Leads.refl s.berths).draw_none⟩

/-- R60: after power-on the positions that the sensors show occupied have their jobs, and they alone. -/
theorem State.powered_linkQueueFits (s : State) (why : ResetCause) (x : Pins) : (s.powered why x).LinkQueueFits := by
  have posts : (s.powered why x).berths.posts =
      (SlotId.all.filter x.slotPresent.get).map LinkPos.slot ++ if x.wastePresent then [LinkPos.waste] else [] := by
    simp only [State.berths_posts, State.powered, supplyAtPower, List.map_map]
    exact List.map_id _
  have once : SlotId.all.Nodup := by decide
  refine (State.linkQueueFits_iff _).2 ⟨⟨?_, fun k hk => nomatch hk⟩, fun p hp => ?_⟩
  · rw [posts]
    refine ((once.filter _).map fun j k e => by injection e).append ?_ ?_
    · split <;> simp
    · split <;> simp
  · have present : p ∈ (s.powered why x).berths.posts ∨ (s.powered why x).supply.holds p = true :=
      hp.imp_right fun hp => hp.resolve_right nofun
    rw [posts] at present
    cases p with
    | slot k =>
      intro _
      show x.slotPresent.get k = true
      cases h : x.slotPresent.get k
      · rcases present with present | present
        · split at present <;> simp [h] at present
        · simp [Supply.holds, State.powered, supplyAtPower, h, SlotRec.cleared] at present
      · rfl
    | waste =>
      intro _
      show x.wastePresent = true
      cases h : x.wastePresent
      · rcases present with present | present
        · simp [h] at present
        · simp [Supply.holds, State.powered, supplyAtPower, h, WasteRec.cleared] at present
      · rfl

/-- R178: the hub that is powered has nothing queued but the jobs of what stands in it. -/
theorem State.powerUp_fits (s : State) (why : ResetCause) (park : ParkState) : Fits s (s.powerUp why park) := by
  generalize hx : ({ s.pins with resetLow := false, parkSwitch := park } : Pins) = x
  have powered : Fits s (s.powered why x) := by
    refine ⟨fun _ => ?_, fun _ => ?_, fun _ => s.powered_linkQueueFits why x⟩
    · show State.reset.QueuesFit
      unfold State.QueuesFit
      decide
    · exact (State.serviceQueueFits_iff _).2 List.nodup_nil
  unfold State.powerUp
  rw [hx]
  exact powered.trans (Keeps.settle_racks (State.raiseSurveys_racks _ _)).fits

/-! ### Arrivals and removals (R41, R42, R49) -/

/-- Something arrives at a position that was free. -/
theorem State.linkQueueFits_of_arrive {p : LinkPos} (h : s.LinkQueueFits) (leads : s.berths.Leads t.berths)
    (free : ¬s.pins.occupied p) (arrives : u.berths = t.berths.arrive p)
    (occupied : ∀ q, q = p ∨ s.pins.occupied q → u.pins.occupied q) : u.LinkQueueFits := by
  obtain ⟨sound, stands⟩ := s.linkQueueFits_iff.1 h
  have fresh : ¬t.berths.Known p := fun known => free (stands p (leads.known p known))
  obtain ⟨soundly, known⟩ := Berths.arrive_sound (leads.sound sound) fresh
  rw [← arrives] at soundly known
  exact u.linkQueueFits_iff.2 ⟨soundly, fun q hq =>
    occupied q ((known q hq).imp_right fun hq => stands q (leads.known q hq))⟩

/-- What stood at a position leaves it. -/
theorem State.linkQueueFits_of_leave {p : LinkPos} (h : s.LinkQueueFits) (leads : s.berths.Leads t.berths)
    (leaves : u.berths = t.berths.leave p) (occupied : ∀ q, q ≠ p → s.pins.occupied q → u.pins.occupied q) :
    u.LinkQueueFits := by
  obtain ⟨sound, stands⟩ := s.linkQueueFits_iff.1 h
  obtain ⟨soundly, known⟩ := Berths.leave_sound (leads.sound sound) p
  rw [← leaves] at soundly known
  exact u.linkQueueFits_iff.2 ⟨soundly, fun q hq => occupied q (known q hq).1 (stands q (leads.known q (known q hq).2))⟩

/-- A presence sensor changes: its pin and the chip are set, the hub wakes, and what has come or gone is acted on unless the line is
held. -/
theorem State.presence_fits {act : State → State} {bs : List Block} (x : Pins) (y : Chips) (low : x.resetLow = s.pins.resetLow)
    (frame : ∀ v, Frame bs v (act v))
    (hb : decide (Block.pins ∉ bs ∧ Block.tickets ∉ bs ∧ Block.sheets ∉ bs ∧ Block.service ∉ bs) = true)
    (link : ∀ v, s.pins.resetLow = false → s.LinkQueueFits → s.berths.Leads v.berths → (act v).pins.occupied = x.occupied →
      (act v).LinkQueueFits) : Fits s (((s.setPins x).setChips y).sensedAwake act) := by
  obtain ⟨hp, h1, h2, h3⟩ := of_decide_eq_true hb
  have brings := s.bringChip_frame x y
  have leads : s.berths.Leads ((s.setPins x).setChips y).berths := .refl _
  have pins : ((s.setPins x).setChips y).pins = x := rfl
  generalize (s.setPins x).setChips y = t at brings leads pins
  have woken := t.wake_keeps
  unfold State.sensedAwake State.sensed
  split
  · next held =>
    obtain ⟨queues, service⟩ := brings.queues rfl
    exact ⟨queues, service, State.linkQueueFits_of_held held leads⟩
  · next high =>
    have unheld : s.pins.resetLow = false := by
      rw [← low, ← pins]
      simpa using high
    have same : (act t.wake).pins.occupied = x.occupied := by
      rw [show (act t.wake).pins = t.wake.pins from frame t.wake .pins hp, woken.occupied, pins]
    obtain ⟨queues, service⟩ := brings.queues rfl
    obtain ⟨queues', service'⟩ := (frame t.wake).queues (decide_eq_true ⟨h1, h2, h3⟩)
    have acted : Fits s (act t.wake) :=
      ⟨fun q => queues' (woken.queues (queues q)), fun l => service' (woken.fits.service (service l)),
        fun l => link _ unheld l (leads.trans woken.berths) same⟩
    exact acted.trans (State.settle_keeps _).fits

end

section
variable (s : State)

theorem State.slotTankArrival_fits (k : SlotId) (y : Chips) (absent : s.pins.slotPresent.get k = false) :
    Fits s (((s.setPins { s.pins with slotPresent := s.pins.slotPresent.set k true }).setChips y).sensedAwake
      fun t => t.tankArrives k) := by
  refine State.presence_fits _ y rfl (fun v => v.tankArrives_frame k) rfl fun v high fits leads same => ?_
  have free : ¬s.pins.occupied (.slot k) := fun h => by simpa [absent] using h high
  refine State.linkQueueFits_of_arrive fits leads free (v.tankArrives_berths k) fun q hq => ?_
  rw [same]
  cases q with
  | slot j =>
    intro _
    by_cases e : j = k
    · simp [e]
    · simpa [e] using hq.resolve_left (by simpa using e) high
  | waste => exact hq.resolve_left nofun

theorem State.slotTankRemoval_fits (k : SlotId) (y : Chips) :
    Fits s (((s.setPins { s.pins with slotPresent := s.pins.slotPresent.set k false }).setChips y).sensedAwake
      fun t => t.tankLeaves k) := by
  refine State.presence_fits _ y rfl (fun v => v.tankLeaves_frame k) rfl fun v high fits leads same => ?_
  refine State.linkQueueFits_of_leave fits leads (v.tankLeaves_berths k) fun q other hq => ?_
  rw [same]
  cases q with
  | slot j =>
    intro _
    have e : j ≠ k := fun e => other (e ▸ rfl)
    simpa [e] using hq high
  | waste => exact hq

theorem State.wasteCartridgeArrival_fits (y : Chips) (absent : s.pins.wastePresent = false) :
    Fits s (((s.setPins { s.pins with wastePresent := true }).setChips y).sensedAwake State.wasteArrives) := by
  refine State.presence_fits _ y rfl State.wasteArrives_frame rfl fun v high fits leads same => ?_
  have free : ¬s.pins.occupied .waste := fun h => by simpa [absent] using h high
  refine State.linkQueueFits_of_arrive fits leads free v.wasteArrives_berths fun q hq => ?_
  rw [same]
  cases q with
  | slot j => exact hq.resolve_left nofun
  | waste => exact fun _ => rfl

theorem State.wasteCartridgeRemoval_fits (y : Chips) :
    Fits s (((s.setPins { s.pins with wastePresent := false }).setChips y).sensedAwake State.wasteLeaves) := by
  refine State.presence_fits _ y rfl State.wasteLeaves_frame rfl fun v high fits leads same => ?_
  refine State.linkQueueFits_of_leave fits leads v.wasteLeaves_berths fun q other hq => ?_
  rw [same]
  cases q with
  | slot j => exact hq
  | waste => exact absurd rfl other

end

/-! ### Commands and steps -/

theorem exec_fits {c : Instr} {s t : State} (h : exec c s = .next t) : Fits s t := by
  cases c
  all_goals obtain rfl := Host.Outcome.next.inj h
  case powerOn => exact s.powerUp_fits _ _
  case resetLineAssert => exact s.resetLineAssert_fits
  case resetLineRelease =>
    split
    · exact s.powerUp_fits _ _
    · exact .of_racks rfl
  case slotTankArrival k chip =>
    split
    · exact .of_racks rfl
    · next absent => exact s.slotTankArrival_fits k _ (by simpa using absent)
  case slotTankRemoval k =>
    split
    · exact s.slotTankRemoval_fits k _
    · exact .of_racks rfl
  case wasteCartridgeArrival chip =>
    split
    · exact .of_racks rfl
    · next absent => exact s.wasteCartridgeArrival_fits _ (by simpa using absent)
  case wasteCartridgeRemoval =>
    split
    · exact s.wasteCartridgeRemoval_fits _
    · exact .of_racks rfl
  all_goals refine Keeps.fits ?_
  case frameError => exact s.discard_keeps _ _
  case unknownCommand =>
    split
    · exact .refl s
    · exact (State.wake_keeps _).from_racks (State.replied_racks _ _ _ _ _ _ _)
  case getStatus =>
    split
    · exact .refl s
    · exact .of_racks (s.modPort_racks _ _)
  case getReply => exact s.takeRead_keeps _ _ _ _
  case getOrder => exact s.takeRead_keeps _ _ _ _
  case getEvents => exact s.takePart_keeps _ _ _ _ _
  case tableRead => exact s.takePart_keeps _ _ _ _ _
  case setEventMask => exact State.takeWrite_keeps _ _ _ (.of_racks (s.modPort_racks _ _))
  case tableSel => exact State.takeWrite_keeps _ _ _ (decideTableSel_keeps s _ _ _)
  case sheetOpen => exact State.takeWrite_keeps _ _ _ (decideSheetOpen_keeps s _ _ _ _ _ _ _ _)
  case sheetClose => exact State.takeWrite_keeps _ _ _ (decideSheetClose_keeps s _ _)
  case sheetCancel => exact State.takeWrite_keeps _ _ _ (decideSheetCancel_keeps s _)
  case swathAsk => exact State.takeWrite_keeps _ _ _ (decideSwathAsk_keeps s _ _ _ _ _)
  case swathWithdraw => exact State.takeWrite_keeps _ _ _ (decideSwathWithdraw_keeps s _)
  case swathTake => exact State.takeWrite_keeps _ _ _ (decideSwathTake_keeps s _)
  case swathDone => exact State.takeWrite_keeps _ _ _ (decideSwathDone_keeps s _ _ _)
  case parkState => exact State.takeWrite_keeps _ _ _ (decideParkState_keeps s _)
  case orderDone => exact State.takeWrite_keeps _ _ _ (decideOrderDone_keeps s _ _ _ _)
  case go => exact State.takeWrite_keeps _ _ _ (decideGo_keeps s)
  case configSet => exact State.takeWrite_keeps _ _ _ (decideConfigSet_keeps s _ _ _)
  case configLock => exact State.takeWrite_keeps _ _ _ (.of_racks (s.setMode_racks _))
  case slotMapSet => exact State.takeWrite_keeps _ _ _ (decideSlotMapSet_keeps s _)
  case tankAccept => exact State.takeWrite_keeps _ _ _ (decideTankAccept_keeps s _ _)
  case levelRestore => exact State.takeWrite_keeps _ _ _ (decideLevelRestore_keeps s _ _)
  case retiredRestore => exact State.takeWrite_keeps _ _ _ (decideRetiredRestore_keeps s _ _ _)
  case rollLoad => exact State.takeWrite_keeps _ _ _ (decideRollLoad_keeps s _ _ _ _)
  case cleanAsk => exact State.takeWrite_keeps _ _ _ (decideCleanAsk_keeps s _ _ _)
  case feedClear => exact State.takeWrite_keeps _ _ _ (decideFeedClear_keeps s)
  case stationClear => exact State.takeWrite_keeps _ _ _ (decideStationClear_keeps s _)
  case sleepNow => exact State.takeWrite_keeps _ _ _ (decideSleepNow_keeps s)
  case hubReset park =>
    split
    · exact (s.softReset_keeps park).settle.to_racks (State.modPort_racks _ _ _)
    · exact State.takeWrite_keeps _ _ _ (.refl s)
  case probeTrip c wet =>
    refine State.sensedSome_keeps (s.setPins_racks (by rfl)) fun u hu => ?_
    split at hu
    · obtain ⟨r, hr, rfl⟩ := Option.map_eq_some_iff.1 hu
      exact State.tripped_keeps hr
    · cases hu
  case strokeTimerExpiry => exact State.sensedSome_keeps rfl fun u hu => State.strokeExpires_keeps hu
  case suctionStageEnd => exact State.sensedSome_keeps rfl fun u hu => State.suctionExpires_keeps hu
  case linkAnswer => exact State.sensedSome_keeps rfl fun u hu => State.linkAnswers_keeps hu
  case linkAnswerTimeout => exact State.sensedSome_keeps rfl fun u hu => State.answerTimesOut_keeps hu
  case busyTimeout => exact State.sensedSome_keeps rfl fun u hu => State.waitTimesOut_keeps hu
  case rollArrival =>
    split
    · exact .refl s
    · exact State.sensedAwake_keeps (s.setPins_racks (by rfl)) fun u => .of_racks (u.rollArrives_racks _)
  case rollRemoval =>
    split
    · exact State.sensedAwake_keeps (s.setPins_racks (by rfl)) fun u => u.rollLeaves_keeps _
    · exact .refl s
  case paperEnd =>
    refine State.sensedSome_keeps (s.setPins_racks (by rfl)) fun u hu => ?_
    split at hu
    · cases hu
    · exact State.paperEnds_keeps hu
  case threadSensorChange =>
    exact State.sensedSome_keeps (s.setPins_racks (by rfl)) fun u hu => State.threadChanges_keeps hu
  case actuatorPositionReport =>
    exact State.sensedSome_keeps (s.setPins_racks (by rfl)) fun u hu => .of_racks (State.actuatorReports_racks hu)
  case cutterHomeSwitchChange =>
    exact State.sensedSome_keeps (s.setPins_racks (by rfl)) fun u hu => State.cutterReports_keeps hu
  case endOfMove => exact State.sensedSome_keeps rfl fun u hu => .of_racks (State.moveEnds_racks hu)
  case advanceWatchdogExpiry => exact State.sensedSome_keeps rfl fun u hu => State.watchdogExpires_keeps hu
  case swapTimerExpiry => exact State.sensedSome_keeps rfl fun u hu => State.swapExpires_keeps hu
  case cutTimerExpiry => exact State.sensedSome_keeps rfl fun u hu => .of_racks (State.cutExpires_racks hu)
  case capSensorReport => exact State.sensedSome_keeps (s.setPins_racks (by rfl)) fun u hu => State.capReports_keeps hu
  case capMoveTimerExpiry => exact State.sensedSome_keeps rfl fun u hu => State.capMoveExpires_keeps hu
  case wipeTimerExpiry => exact State.sensedSome_keeps rfl fun u hu => State.wipeExpires_keeps hu
  case capDelayExpiry => exact State.sensedSome_keeps rfl fun u hu => .of_racks (State.capDelayExpires_racks hu)
  case exposureSpitThreshold => exact State.sensedSome_keeps rfl fun u hu => .of_racks (State.exposureReaches_racks hu)
  case exposureCleanThreshold => exact State.sensedSome_keeps rfl fun u hu => .of_racks (State.exposureReaches_racks hu)
  case orderTimerExpiry => exact State.sensedSome_keeps rfl fun u hu => State.orderExpires_keeps hu
  case swathTimerExpiry => exact State.sensedSome_keeps rfl fun u hu => State.swathExpires_keeps hu
  case dryTimerExpiry => exact State.sensedSome_keeps rfl fun u hu => .of_racks (State.dryExpires_racks hu)
  case idleSleepExpiry =>
    refine State.sensed_keeps rfl ?_
    split
    · exact .of_racks s.enterSleep_racks
    · exact .refl s
  case idleServiceExpiry =>
    refine State.sensed_keeps rfl ?_
    split
    · exact ((s.cleanAll_keeps .idle).to_racks (State.enterRun_racks _)).settle
    · exact .refl s

theorem State.countTimers_racks (s : State) : s.countTimers.racks = s.racks := by
  have pump : s.manifold.pump.count.source = s.manifold.pump.source := by
    cases h : s.manifold.pump <;> rfl
  have berths : s.countTimers.berths = s.berths := by
    show { s.berths with source := s.manifold.pump.count.source } = s.berths
    rw [pump]
    rfl
  have sheets : s.countTimers.sheets.queue.length = s.sheets.queue.length := List.length_map _
  simp only [State.racks, berths, sheets]
  rfl

/-- A millisecond, or a timer put into the queue. -/
theorem State.tick_keeps (s : State) : Keeps s s.tick := by
  have chips : s.countChips.racks = s.racks := by rfl
  unfold State.tick
  split
  · exact .of_racks chips
  · split
    · split
      · exact .of_racks (s.setPending_racks _)
      · exact .of_racks ((State.setMode_racks _ _).trans chips)
    · split
      · exact .of_racks (s.setPending_racks _)
      · exact .settle_racks ((State.countTimers_racks _).trans ((State.setStation_racks _ _).trans chips))

/-- Every step keeps the three invariants of the queues. -/
theorem step_fits {s t : State} (h : step s = .next t) : Fits s t := by
  unfold step at h
  split at h
  · obtain rfl := Host.Outcome.next.inj h
    exact s.tick_keeps.fits
  · next c rest _ => exact (Fits.of_racks (s.setPending_racks rest)).trans (exec_fits h)

/-- Settles O56: each operation keeps the racks of the hub, no position comes into the berths but with its presence pin, and a step is
made of such operations. -/
theorem stepsKeepQueuesWithinPlaces : Obligations.StepsKeepQueuesWithinPlaces :=
  ⟨fun _ _ fit h => (step_fits h).queues fit, fun _ _ fit h => (step_fits h).service fit, fun _ _ fit h => (step_fits h).link fit⟩

end Sys2Proof.Machine
end

section
/-!
SUPPORT. The search for a free number (R62, R98): it passes numbers that are taken, and among 255 numbers it finds a free one where
fewer are taken. O11 is settled from it.
-/

namespace Sys2Proof.Machine

/-- The search comes to a number that lies so many places on, and every number that it passes is taken. -/
theorem firstFree_passes (taken : List Nat) (k n : Nat) :
    ∃ j, nextByte^[j] n = firstFree taken k n ∧ ∀ i, i < j → nextByte^[i] n ∈ taken := by
  induction k generalizing n with
  | zero => exact ⟨0, rfl, nofun⟩
  | succ k ih =>
    unfold firstFree
    split
    · next found =>
      obtain ⟨j, comes, passes⟩ := ih (nextByte n)
      refine ⟨j + 1, comes, fun i hi => ?_⟩
      cases i with
      | zero => exact List.contains_iff_mem.1 found
      | succ i => exact passes i (Nat.lt_of_succ_lt_succ hi)
    · exact ⟨0, rfl, nofun⟩

section
variable {taken : List Nat} {n : Nat}

/-- The numbers after one of 1..255 are again of 1..255. -/
theorem nextByte_iterate_range (low : 1 ≤ n) (high : n ≤ 255) (j : Nat) : 1 ≤ nextByte^[j] n ∧ nextByte^[j] n ≤ 255 := by
  cases j with
  | zero => exact ⟨low, high⟩
  | succ j =>
    rw [Function.iterate_succ_apply']
    exact nextByte_range

theorem firstFree_range (low : 1 ≤ n) (high : n ≤ 255) (k : Nat) : 1 ≤ firstFree taken k n ∧ firstFree taken k n ≤ 255 := by
  obtain ⟨j, comes, -⟩ := firstFree_passes taken k n
  rw [← comes]
  exact nextByte_iterate_range low high j

/-- Fewer numbers than 255 leave one of 1..255 free. -/
theorem firstFree_not_mem (low : 1 ≤ n) (high : n ≤ 255) (few : taken.length < 255) : firstFree taken 255 n ∉ taken := by
  intro found
  have passed := iterate_mem_of_firstFree_mem found
  have distinct : ((List.range 255).map fun j => nextByte^[j] n).Nodup := by
    refine List.Nodup.map_on (fun i hi j hj e => ?_) List.nodup_range
    have hi' : i < 255 := List.mem_range.1 hi
    have hj' : j < 255 := List.mem_range.1 hj
    rw [nextByte_iterate _ i hi'.le, nextByte_iterate _ j hj'.le] at e
    split_ifs at e <;> omega
  have within : ((List.range 255).map fun j => nextByte^[j] n) ⊆ taken := by
    intro x hx
    obtain ⟨j, hj, rfl⟩ := List.mem_map.1 hx
    exact passed j (List.mem_range.1 hj).le
  have all := (List.subperm_of_subset distinct within).length_le
  rw [List.length_map, List.length_range] at all
  exact absurd all (not_le.2 few)

end

/-- Settles O11: at most eight tickets, and at most eight sheets and outcomes together, leave a number of 1..255 free, and the search
finds the first. -/
theorem numbersAreFirstFree : Obligations.NumbersAreFirstFree := by
  rintro s ⟨tickets, sheets, outcomes, lowNumber, highNumber, lowId, highId⟩
  have eight : Config.ticketPlaces = 8 := rfl
  have four : Config.sheetPlaces = 4 := rfl
  have fewTickets : (s.tickets.queue.map Ticket.number).length < 255 := by
    rw [List.length_map]
    omega
  have fewIds : (s.sheets.queue.map Sheet.id ++ s.sheets.outcomes.map OutcomeEntry.id).length < 255 := by
    rw [List.length_append, List.length_map, List.length_map]
    omega
  obtain ⟨number, numberHigh⟩ := firstFree_range (taken := s.tickets.queue.map Ticket.number) lowNumber highNumber 255
  obtain ⟨id, idHigh⟩ :=
    firstFree_range (taken := s.sheets.queue.map Sheet.id ++ s.sheets.outcomes.map OutcomeEntry.id) lowId highId 255
  exact ⟨⟨firstFree_not_mem lowNumber highNumber fewTickets, number, numberHigh, firstFree_passes _ _ _⟩,
    firstFree_not_mem lowId highId fewIds, id, idHigh, firstFree_passes _ _ _⟩

end Sys2Proof.Machine
end

section
/-!
SUPPORT. The tests of a SWATH_ASK (R63). O17 is settled from them.
-/

namespace Sys2Proof.Machine

section
variable {s : State}

theorem askLegal_iff {sheet advance count : Nat} {pairs : List (Nat × Nat)} : askLegal sheet advance count pairs = true ↔
    (1 ≤ advance ∧ advance ≤ 100000) ∧ pairsLegal count pairs = true ∧ sheet ≠ 0 := by
  simp [askLegal, between, and_assoc]

theorem SheetState.takesSwaths_iff {x : SheetState} : x.takesSwaths = true ↔ x = .loading ∨ x = .printing := by
  cases x <;> simp [SheetState.takesSwaths]

theorem State.needTooLarge_eq_false {need : Six Nat} (h : ∀ c, need.get c ≤ Config.cap - s.params.floor - s.params.reserve) :
    s.needTooLarge need = false := by
  simp [State.needTooLarge, h]

theorem State.overPlanned_eq_false {h : Sheet} {advance : Nat} (room : h.planned = 0 ∨ s.committed h + advance ≤ h.planned * 1000) :
    s.overPlanned h advance = false := by
  rw [State.overPlanned, Bool.and_eq_false_iff]
  exact room.imp (by simp [·]) (by simp [·])

theorem State.usesFailed_eq_false {need : Six Nat} (h : ∀ c, 0 < need.get c → s.service.failed.get c.head = false) :
    s.usesFailed need = false := by
  rw [State.usesFailed, List.any_eq_false]
  intro c _ fails
  obtain ⟨used, failed⟩ := by simpa using fails
  simp [h c used] at failed

/-- R64: an ask that no test refuses appends its ticket. -/
theorem decideSwathAsk_appends {sheet index advance count : Nat} {pairs : List (Nat × Nat)} {h : Sheet}
    (start : s.inStart = false) (legal : askLegal sheet advance count pairs = true) (found : s.findSheet sheet = some h)
    (takes : h.state.takesSwaths = true) (place : s.tickets.queue.length < Config.ticketPlaces)
    (small : s.needTooLarge (s.needs (pairCounts pairs)) = false) (within : s.overPlanned h advance = false)
    (healthy : s.usesFailed (s.needs (pairCounts pairs)) = false) : decideSwathAsk sheet index advance count pairs s =
      { after := (s.appendTicket sheet index advance (pairCounts pairs)).settle, code := .accepted, value := s.ticketNumber } := by
  simp [decideSwathAsk, start, legal, found, takes, not_le.2 place, small, within, healthy]

end

/-- Settles O17: where no test of R63 refuses the ask, its ticket is appended with the needs of R21, and a pass is due. -/
theorem swathAskAppends : Obligations.SwathAskAppends := by
  intro s p sheet index advance count pairs h takes run low high legal named found state place small planned healthy
  have need (c : Channel) : (s.needs (pairCounts pairs)).get c =
      needOf ((pairCounts pairs).get c) (s.ledger.chan.get c).dv s.params.margin := by simp [State.needs]
  have appends := decideSwathAsk_appends (index := index) (State.of_inRun run).1
    (askLegal_iff.2 ⟨⟨low, high⟩, legal, named.ne'⟩) found (SheetState.takesSwaths_iff.2 state) place
    (State.needTooLarge_eq_false fun c => (need c).symm ▸ small c)
    (State.overPlanned_eq_false planned) (State.usesFailed_eq_false fun c used => healthy c (need c ▸ used))
  refine ⟨s.appendTicket sheet index advance (pairCounts pairs), ?_, rfl, rfl, rfl, rfl, s.appendTicket_frame _ _ _ _⟩
  refine congrArg Host.Outcome.next ((s.takeWrite_takes p takes _ _).trans ?_)
  rw [appends]
  rfl

end Sys2Proof.Machine
end

section
/-!
SUPPORT. Grants (R68, R69): the readiness of a ticket's set and what the waiting service items hold back, each as a statement of the
records; the two steps that give and withdraw a grant. O19 is settled from them.
-/

namespace Sys2Proof.Machine

theorem Head.mem_channels_iff (h : Head) (c : Channel) : c ∈ h.channels ↔ c.head = h := by
  cases h <;> cases c <;> decide

/-- Every channel of the ticket's set has ink above F, and every head of the set is neither FAILED nor exposed up to the spit
interval (R68). -/
def State.SetReady (s : State) (t : Ticket) : Prop :=
  ∀ c, 0 < t.need.get c → s.params.floor < (s.ledger.chan.get c).volume ∧ s.service.failed.get c.head = false ∧
    s.station.exposure.get c.head < s.params.spitInterval * 1000

/-- No SPIT and no NOW cleaning waits (R68). -/
def State.NoneStops (s : State) : Prop :=
  ∀ i ∈ s.service.queue, (∀ m, i.work ≠ .spit m) ∧ ∀ h l o a, i.work ≠ .clean h l o .now a

/-- The oldest ticket becomes GRANTED (R68). -/
def State.giveGrant (s : State) (n : Nat) : State := (s.modTicket n fun x => { x with state := .granted }).raise .ticketGranted

/-- The oldest ticket loses its grant (R69). -/
def State.withdrawGrant (s : State) (n : Nat) : State :=
  ((s.modTicket n fun x => { x with state := .reserved }).raise .grantWithdrawn).dueArbiter

section
variable (s : State) (t : Ticket)

theorem Ticket.usesHead_iff (h : Head) : t.usesHead h = true ↔ ∃ c, c.head = h ∧ 0 < t.need.get c := by
  simp [Ticket.usesHead, Ticket.uses, Head.mem_channels_iff]

/-- R68 asks for the heads of the set what `SetReady` asks for the head of each of its channels. -/
theorem State.headsReady_iff : s.headsReady t = true ↔ s.SetReady t := by
  have channels : (Channel.all.all fun c => !t.uses c || decide (s.params.floor < (s.ledger.chan.get c).volume)) = true ↔
      ∀ c, 0 < t.need.get c → s.params.floor < (s.ledger.chan.get c).volume := by
    simp [Channel.mem_all, Ticket.uses, imp_iff_not_or]
  have heads : (Head.all.all fun h =>
        !t.usesHead h || (!s.service.failed.get h && decide (s.station.exposure.get h < s.interval))) = true ↔
      ∀ h, t.usesHead h = true → s.service.failed.get h = false ∧ s.station.exposure.get h < s.interval := by
    simp [Head.mem_all, imp_iff_not_or]
  rw [State.headsReady, Bool.and_eq_true, channels, heads]
  constructor
  · rintro ⟨ink, ready⟩ c used
    exact ⟨ink c used, ready c.head ((t.usesHead_iff c.head).2 ⟨c, rfl, used⟩)⟩
  · intro ready
    refine ⟨fun c used => (ready c used).1, fun h used => ?_⟩
    obtain ⟨c, rfl, needs⟩ := (t.usesHead_iff h).1 used
    exact (ready c needs).2

theorem Work.isSpit_iff (w : Work) : w.isSpit = true ↔ ∃ m, w = .spit m := by
  cases w <;> simp [Work.isSpit]

theorem Work.isCleanOf_iff (w : Work) (u : Urgency) : w.isCleanOf u = true ↔ ∃ h l o a, w = .clean h l o u a := by
  cases w <;> simp [Work.isCleanOf]

theorem State.serviceStopsGrant_iff : s.serviceStopsGrant = false ↔ s.NoneStops := by
  simp [State.serviceStopsGrant, State.NoneStops, ← Bool.not_eq_true, Work.isSpit_iff, Work.isCleanOf_iff]

theorem State.nowCleanWaits_iff : s.nowCleanWaits = true ↔ ∃ i ∈ s.service.queue, ∃ h l o a, i.work = .clean h l o .now a := by
  simp [State.nowCleanWaits, Work.isCleanOf_iff]

theorem SheetState.prints_iff {x : SheetState} : x.prints = true ↔ x = .printing ∨ x = .closing := by
  cases x <;> simp [SheetState.prints]

theorem State.sheetPrints_iff :
    s.sheetPrints t = true ↔ ∃ h, s.findSheet t.sheet = some h ∧ (h.state = .printing ∨ h.state = .closing) := by
  simp [State.sheetPrints, Option.any_eq_true, SheetState.prints_iff]

/-- R68, but for the state of the ticket itself. -/
theorem State.grantAllowed_iff : s.grantAllowed t = true ↔
    (∃ h, s.findSheet t.sheet = some h ∧ (h.state = .printing ∨ h.state = .closing)) ∧ s.station.state = .opened ∧
      s.service.active = none ∧ s.NoneStops ∧ s.SetReady t := by
  simp [State.grantAllowed, s.sheetPrints_iff, s.serviceStopsGrant_iff, s.headsReady_iff, and_assoc]

variable {s t}

/-- R68: a grant is given where the oldest ticket is RESERVED with its advance DONE and nothing else forbids it. -/
theorem State.grantStep_iff {u : State} : s.grantStep = some u ↔
    ∃ t, s.oldest = some t ∧ t.state = .reserved ∧ t.adv = .done ∧ s.grantAllowed t = true ∧ u = s.giveGrant t.number := by
  unfold State.grantStep
  cases oldest : s.oldest with
  | none => simp
  | some t =>
    have gives : (t.state == .reserved && t.adv == .done && s.grantAllowed t) = true ↔
        t.state = .reserved ∧ t.adv = .done ∧ s.grantAllowed t = true := by simp [and_assoc]
    dsimp only
    split
    · next given =>
      obtain ⟨reserved, done, allowed⟩ := gives.1 given
      refine ⟨fun h => ⟨t, rfl, reserved, done, allowed, (Option.some.inj h).symm⟩, fun ⟨x, hx, _, _, _, h⟩ => ?_⟩
      cases hx
      exact congrArg some h.symm
    · next refused =>
      refine iff_of_false nofun fun ⟨x, hx, reserved, done, allowed, _⟩ => ?_
      cases hx
      exact refused (gives.2 ⟨reserved, done, allowed⟩)

/-- R69: whether the oldest ticket loses its grant. -/
theorem State.withdraws_iff : (t.state == .granted && (s.nowCleanWaits || !s.headsReady t)) = true ↔
    t.state = .granted ∧ (s.nowCleanWaits = true ∨ ¬s.SetReady t) := by
  simp [← s.headsReady_iff]

theorem State.withdrawStep_withdraws (h : s.oldest = some t) (granted : t.state = .granted)
    (stops : s.nowCleanWaits = true ∨ ¬s.SetReady t) : s.withdrawStep = some (s.withdrawGrant t.number) := by
  unfold State.withdrawStep
  rw [h]
  exact if_pos (State.withdraws_iff.2 ⟨granted, stops⟩)

theorem State.withdrawStep_leaves (h : s.oldest = some t)
    (keeps : ¬(t.state = .granted ∧ (s.nowCleanWaits = true ∨ ¬s.SetReady t))) : s.withdrawStep = none := by
  unfold State.withdrawStep
  rw [h]
  exact if_neg (keeps ∘ State.withdraws_iff.1)

theorem State.not_setReady_iff : ¬s.SetReady t ↔ ∃ c, 0 < t.need.get c ∧ ((s.ledger.chan.get c).volume ≤ s.params.floor ∨
    s.service.failed.get c.head = true ∨ s.params.spitInterval * 1000 ≤ s.station.exposure.get c.head) := by
  simp only [State.SetReady, not_forall, exists_prop, not_and_or, not_lt, Bool.not_eq_false]

variable (s) (n : Nat)

theorem State.modTicket_queue (f : Ticket → Ticket) :
    (s.modTicket n f).tickets.queue = s.tickets.queue.map fun x => if x.number = n then f x else x := by
  simp [State.modTicket]

theorem State.giveGrant_frame : Frame [.tickets, .ports] s (s.giveGrant n) :=
  (s.modTicket_frame n _).join (State.raise_frame _ _) (by decide) (by decide)

theorem State.withdrawGrant_frame : Frame [.ports, .tickets, .due] s (s.withdrawGrant n) :=
  ((s.modTicket_frame n _).join (State.raise_frame _ _) (cs := [.ports, .tickets]) (by decide) (by decide)).join
    (State.dueArbiter_frame _) (by decide) (by decide)

end

/-- Settles O19: the two steps by their conditions, and each condition by the records. -/
theorem grantsAreGivenAndWithdrawn : Obligations.GrantsAreGivenAndWithdrawn := by
  refine ⟨fun s u h => ?_, fun s t rest h queue reserved done found prints opened none' quiet ready => ?_, fun s t rest queue => ?_⟩
  · obtain ⟨t, oldest, reserved, done, allowed, rfl⟩ := State.grantStep_iff.1 h
    obtain ⟨rest, queue⟩ := List.head?_eq_some_iff.1 oldest
    obtain ⟨prints, opened, none', quiet, ready⟩ := (s.grantAllowed_iff t).1 allowed
    exact ⟨t, rest, queue, reserved, done, prints, opened, none', quiet, ready, s.modTicket_queue _ _,
      State.raise_latched _ _, s.giveGrant_frame _⟩
  · have oldest : s.oldest = some t := by rw [State.oldest, queue]; rfl
    exact ⟨_, State.grantStep_iff.2
      ⟨t, oldest, reserved, done, (s.grantAllowed_iff t).2 ⟨⟨h, found, prints⟩, opened, none', quiet, ready⟩, rfl⟩⟩
  · have oldest : s.oldest = some t := by rw [State.oldest, queue]; rfl
    refine ⟨fun granted stops => ?_, fun _ quiet ready => State.withdrawStep_leaves oldest fun ⟨_, stops⟩ => ?_,
      fun other => State.withdrawStep_leaves oldest fun ⟨granted, _⟩ => other granted⟩
    · rw [← s.nowCleanWaits_iff, ← State.not_setReady_iff] at stops
      exact ⟨_, State.withdrawStep_withdraws oldest granted stops, s.modTicket_queue _ _, rfl,
        (State.raise_latched _ _).of_ports rfl, rfl, s.withdrawGrant_frame _⟩
    · rcases stops with waits | unready
      · obtain ⟨i, hi, x, l, o, a, work⟩ := s.nowCleanWaits_iff.1 waits
        exact quiet i hi x l o a work
      · exact unready ready

end Sys2Proof.Machine
end

section
/-!
SUPPORT. The committed length of a sheet (R63, R105) as what its tickets owe and what a left advance still runs; a withdrawal as the
release of one ticket (R74, R25). O20 is settled from them.
-/

namespace Sys2Proof.Machine

/-! ### A channel record after an operation of the ledger -/

/-- R2: an operation of the ledger makes of each record what it is given to be, and computes its level state. -/
theorem State.ledgerOp_record (s : State) (f : Channel → ChannelRec → ChannelRec) (c : Channel) :
    ∃ x, (s.ledgerOp f).ledger.chan.get c = { f c (s.ledger.chan.get c) with levelState := x } :=
  ⟨_, by rw [State.ledgerOp_ledger]; exact ledgerChans_get _ _ _ c⟩

/-! ### The committed length -/

/-- The lengths that the tickets of a sheet have yet to advance. -/
def owed (q : List Ticket) (id : Nat) : Nat := ((q.filter fun t => t.sheet == id && t.adv != .done).map Ticket.advance).sum

/-- The numbered ticket stands with its advance running. -/
def carries (q : List Ticket) (n : Nat) : Bool := q.any fun t => t.number == n && t.adv == .running

section
variable (s : State) (h : Sheet)

theorem State.committed_eq : s.committed h = h.printed + owed s.tickets.queue h.id + s.leftRunning h := rfl

theorem State.leftRunning_congr {s u : State} (feed : u.feed = s.feed)
    (same : ∀ n, carries u.tickets.queue n = carries s.tickets.queue n) : u.leftRunning h = s.leftRunning h := by
  simp only [carries] at same
  simp only [State.leftRunning, feed, same]

theorem State.leftRunning_idle (none : s.feed.op = none) : s.leftRunning h = 0 := by simp [State.leftRunning, none]

theorem State.leftRunning_of_op {o : FeedOp} (op : s.feed.op = some o) : s.leftRunning h =
    if o.purpose = .ticket ∧ o.sheet = h.id ∧ o.orphan = false ∧ carries s.tickets.queue o.ticket = false then o.length else 0 := by
  simp [State.leftRunning, op, carries, and_assoc]

/-- An advance that is not DONE is PENDING or RUNNING. -/
theorem AdvanceState.bne_done (x : AdvanceState) : (x != .done) = (x == .pending || x == .running) := by cases x <;> rfl

end

/-! ### Tickets that leave and tickets that stay -/

section
variable (q : List Ticket) (leaves : Ticket → Bool)

theorem owed_filter (id : Nat) : owed q id = owed (q.filter leaves) id + owed (q.filter fun t => !leaves t) id := by
  have parts := ((List.filter_append_perm leaves q).filter fun t => t.sheet == id && t.adv != .done).map Ticket.advance
  rw [List.filter_append, List.map_append] at parts
  rw [owed, ← parts.sum_eq, List.sum_append, owed, owed]

theorem carries_filter (n : Nat) : carries q n = (carries (q.filter leaves) n || carries (q.filter fun t => !leaves t) n) := by
  rw [carries, ← (List.filter_append_perm leaves q).any_eq, List.any_append, carries, carries]

end

section
variable {s : State} {n : Nat} {t : Ticket}

theorem decideSwathWithdraw_withdraws (start : s.inStart = false) (only : s.tickets.queue.filter (fun x => x.number == n) = [t])
    (idle : t.state ≠ .firing) :
    decideSwathWithdraw n s = Answer.accept (s.removeTickets fun x => x.number == n).settle := by
  have found : s.findTicket n = some t := by rw [State.findTicket, ← List.head?_filter, only]; rfl
  simp [decideSwathWithdraw, start, found, idle]

/-- R25, R74: one ticket leaves. -/
theorem State.removeTickets_one (only : s.tickets.queue.filter (fun x => x.number == n) = [t]) :
    s.removeTickets (fun x => x.number == n) =
      ((((s.releaseInk [t]).setTicketQueue (s.tickets.queue.filter fun x => x.number != n)).raiseIf (t.state == .granted)
        .grantWithdrawn).when (t.state == .granted) State.dueArbiter).duePass := by
  simp only [State.removeTickets, only]
  simp [bne]

/-- What is latched and made due after the ticket has left changes neither the queue nor the ledger. -/
theorem State.removeTickets_one_frame (only : s.tickets.queue.filter (fun x => x.number == n) = [t]) : Frame [.ports, .due]
    ((s.releaseInk [t]).setTicketQueue (s.tickets.queue.filter fun x => x.number != n)) (s.removeTickets fun x => x.number == n) := by
  rw [State.removeTickets_one only]
  exact (State.raiseIf_frame _ _ _).join ((Frame.when _ _ State.dueArbiter_frame).trans (State.duePass_frame _)) (by decide) (by decide)

theorem State.removeTickets_one_queue (only : s.tickets.queue.filter (fun x => x.number == n) = [t]) :
    (s.removeTickets fun x => x.number == n).tickets.queue = s.tickets.queue.filter fun x => x.number != n :=
  congrArg Admission.queue (State.removeTickets_one_frame only .tickets (by decide))

/-- R25: what the ticket held of a channel is released, and nothing is debited. -/
theorem State.removeTickets_one_record (only : s.tickets.queue.filter (fun x => x.number == n) = [t]) (c : Channel) :
    ∃ x, (s.removeTickets fun x => x.number == n).ledger.chan.get c = { s.ledger.chan.get c with
      rs := (s.ledger.chan.get c).rs - (if t.state = .queued then 0 else t.need.get c), levelState := x } := by
  have held : heldNeeds [t] c = if t.state = .queued then 0 else t.need.get c := by
    cases h : t.state <;> simp [heldNeeds_cons, TicketState.reserves, h]
  have ledger := State.removeTickets_one_frame only .ledger (by decide)
  rw [show (s.removeTickets fun x => x.number == n).ledger = (s.releaseInk [t]).ledger from ledger, ← held]
  exact s.ledgerOp_record _ c

theorem State.removeTickets_one_latches (only : s.tickets.queue.filter (fun x => x.number == n) = [t]) (granted : t.state = .granted) :
    (s.removeTickets fun x => x.number == n).Latched .grantWithdrawn := by
  rw [State.removeTickets_one only]
  exact (State.raiseIf_latched _ (beq_iff_eq.2 granted)).of_ports
    ((Frame.when _ _ State.dueArbiter_frame).trans (State.duePass_frame _) .ports (by decide))

/-- What the sheet of a withdrawn ticket has committed: a PENDING advance leaves it, a DONE one is not in it, and one that runs for the
ticket is counted by the operation instead (notes/assumptions/38.md). -/
theorem State.removeTickets_one_committed (only : s.tickets.queue.filter (fun x => x.number == n) = [t]) (h : Sheet) :
    let u := s.removeTickets fun x => x.number == n
    (t.adv = .pending → s.committed h = u.committed h + (if t.sheet = h.id then t.advance else 0)) ∧
    (t.adv = .done → u.committed h = s.committed h) ∧
    (∀ o, t.adv = .running → s.feed.op = some o → o.purpose = .ticket → o.sheet = t.sheet → o.ticket = n →
      o.length = t.advance → o.orphan = false → u.committed h = s.committed h) := by
  intro u
  have feed : u.feed = s.feed := s.removeTickets_frame _ .feed (by decide)
  have queue : u.tickets.queue = s.tickets.queue.filter fun x => !(x.number == n) := State.removeTickets_one_queue only
  have owes : owed s.tickets.queue h.id = owed [t] h.id + owed u.tickets.queue h.id := by
    rw [queue, ← only]
    exact owed_filter _ _ _
  have carried (m : Nat) : carries s.tickets.queue m = (carries [t] m || carries u.tickets.queue m) := by
    rw [queue, ← only]
    exact carries_filter _ _ _
  have still (other : t.adv ≠ .running) : u.leftRunning h = s.leftRunning h :=
    State.leftRunning_congr h feed fun m => by rw [carried m]; simp [carries, other]
  refine ⟨fun pending => ?_, fun done => ?_, fun o running op ticket sheet number length live => ?_⟩
  · have debt : owed [t] h.id = if t.sheet = h.id then t.advance else 0 := by
      by_cases e : t.sheet = h.id <;> simp [owed, pending, e]
    rw [s.committed_eq, u.committed_eq, still (by simp [pending]), owes, debt]
    omega
  · have debt : owed [t] h.id = 0 := by simp [owed, done]
    rw [s.committed_eq, u.committed_eq, still (by simp [done]), owes, debt, Nat.zero_add]
  · have debt : owed [t] h.id = if t.sheet = h.id then t.advance else 0 := by
      by_cases e : t.sheet = h.id <;> simp [owed, running, e]
    have mine : t.number = n := by
      simpa using (List.mem_filter.1 (only ▸ List.mem_singleton_self t : t ∈ s.tickets.queue.filter fun x => x.number == n)).2
    have before : s.leftRunning h = 0 := by
      have stands : carries s.tickets.queue o.ticket = true := by
        rw [carried, number]
        simp [carries, mine, running]
      rw [s.leftRunning_of_op h op, if_neg (by simp [stands])]
    have after : u.leftRunning h = if t.sheet = h.id then t.advance else 0 := by
      have gone : carries u.tickets.queue o.ticket = false := by
        rw [queue, number]
        simp +contextual [carries]
      rw [u.leftRunning_of_op h (feed ▸ op)]
      simp [ticket, sheet, live, gone, length]
    rw [s.committed_eq, u.committed_eq, before, after, owes, debt]
    omega

end

/-- Settles O20: the committed length by what is owed and what still runs; the withdrawal by the ticket that leaves. -/
theorem swathWithdrawReleases : Obligations.SwathWithdrawReleases := by
  refine ⟨fun s h counted => ?_, fun s p n t takes run only idle => ?_⟩
  · have left : s.leftRunning h = 0 := by
      cases op : s.feed.op with
      | none => exact s.leftRunning_idle h op
      | some o =>
        rw [s.leftRunning_of_op h op]
        refine if_neg fun ⟨ticket, sheet, live, gone⟩ => ?_
        obtain ⟨t, ht, number, running⟩ := counted o op ticket sheet live
        exact List.any_eq_false.1 gone t ht (by simp [number, running])
    rw [s.committed_eq, left]
    simp only [owed, AdvanceState.bne_done, Nat.add_zero]
  · have runs : exec (.swathWithdraw p n) s =
        .next ((s.removeTickets fun x => x.number == n).settle.replied s p 0x24 .accepted 0 1) := by
      refine congrArg Host.Outcome.next ((s.takeWrite_takes p takes 1 _).trans ?_)
      rw [decideSwathWithdraw_withdraws (State.of_inRun run).1 only idle]
      rfl
    refine ⟨_, runs, State.removeTickets_one_queue only, fun c => ?_, State.removeTickets_one_latches only, ?_,
      State.removeTickets_one_committed only, s.removeTickets_frame _⟩
    · obtain ⟨x, record⟩ := State.removeTickets_one_record only c
      rw [record]
      exact ⟨rfl, rfl, rfl, rfl⟩
    · rw [State.removeTickets_one only]
      rfl

end Sys2Proof.Machine
end

section
/-!
SUPPORT. How a FIRING ticket leaves (`State.chargeTicket`): by its report or by its timer, the ledger is charged, the sheet's ink used
grows, the ticket goes and the event is raised (R30, R32, R37, R72). O21 is settled from it.
-/

namespace Sys2Proof.Machine

/-- A FIRING ticket leaves: what it debits and releases, channel by channel, the ink that its sheet has used by it, and the event. -/
def State.chargeTicket (s : State) (t : Ticket) (f : Channel → ChannelRec → ChannelRec) (ink : Six Nat) (e : Event) : State :=
  (((s.ledgerOp f).modSheet t.sheet fun h => h.useInk ink).dropFiring t.number).raise e

section
variable (s : State) (t : Ticket) (f : Channel → ChannelRec → ChannelRec) (ink : Six Nat) (e : Event)

theorem State.chargeTicket_ledger : (s.chargeTicket t f ink e).ledger = (s.ledgerOp f).ledger :=
  Frame.join ((State.modSheet_frame _ _ _).join (State.dropFiring_frame _ _) (cs := [.sheets, .tickets, .due]) (by decide) (by decide))
    (State.raise_frame _ e) (cs := [.ports, .sheets, .tickets, .due]) (by decide) (by decide) .ledger (by decide)

theorem State.chargeTicket_queue : (s.chargeTicket t f ink e).tickets.queue =
    s.tickets.queue.filter fun x => x.number != t.number := by
  have same : (s.ledgerOp f).tickets = s.tickets := s.ledgerOp_frame f .tickets (by decide)
  exact congrArg (fun a : Admission => a.queue.filter fun x => x.number != t.number) same

/-- R37: the sheet's ink used grows up to the ceiling of a four-byte count. -/
theorem State.chargeTicket_sheets : (s.chargeTicket t f ink e).sheets.queue = s.sheets.queue.map fun h =>
    if h.id = t.sheet then { h with ink := Six.tab fun c => min (h.ink.get c + ink.get c) 4294967295 } else h := by
  have same : (s.ledgerOp f).sheets = s.sheets := s.ledgerOp_frame f .sheets (by decide)
  show ((s.ledgerOp f).sheets.queue.map fun h => if h.id == t.sheet then h.useInk ink else h) = _
  simp only [same, beq_iff_eq]
  rfl

theorem State.chargeTicket_latched : (s.chargeTicket t f ink e).Latched e := State.raise_latched _ e

/-- R30: the debits of a report; a channel that it leaves out has none and keeps its carry. -/
theorem State.debits_get (pairs : List (Nat × Nat)) (c : Channel) : (s.debits pairs).get c =
    convert ((pairCount pairs c).getD 0) (s.ledger.chan.get c).dv (s.ledger.chan.get c).carry := by
  simp only [State.debits, Six.get_tab]
  cases pairCount pairs c <;> rfl

/-- R30, R78: the settlement by a report. -/
theorem State.settleTicket_eq (pairs : List (Nat × Nat)) : s.settleTicket t pairs = s.chargeTicket t
    (fun c r => { r with
      rs := r.rs - t.need.get c, level := r.level - ((s.debits pairs).get c).1, carry := ((s.debits pairs).get c).2 })
    ((s.debits pairs).map Prod.fst) .ticketSettled := rfl

/-- R32, R73: the settlement by the swath timer. -/
theorem State.loseTicket_eq : s.loseTicket t = s.chargeTicket t
    (fun c r => { r with rs := r.rs - t.need.get c, level := r.level - t.need.get c }) t.need .carriageTimeout := rfl

variable {s t} {n : Nat}

theorem decideSwathTake_takes (start : s.inStart = false) (named : 0 < n) (found : s.findTicket n = some t)
    (granted : t.state = .granted) : decideSwathTake n s = Answer.accept (s.takeTicket n).settle := by
  simp [decideSwathTake, start, found, named.ne', granted]

theorem decideSwathDone_settles {count : Nat} {pairs : List (Nat × Nat)} (start : s.inStart = false)
    (legal : pairsLegal count pairs = true) (named : 0 < n) (found : s.findTicket n = some t) (firing : t.state = .firing) :
    decideSwathDone n count pairs s = Answer.accept (s.settleTicket t pairs).settle := by
  simp [decideSwathDone, start, legal, found, named.ne', firing]

end

/-- Settles O21: the three commands run what their rules name, and a FIRING ticket leaves by `State.chargeTicket`. -/
theorem swathsFireAndSettle : Obligations.SwathsFireAndSettle := by
  refine ⟨fun s p n t takes run named found granted => ?_, fun s p n count pairs t takes run legal named found firing => ?_,
    fun s t high firing => ?_⟩
  · have fires : s.takeTicket n = { s with tickets :=
        { queue := s.tickets.queue.map (fun x => if x.number = n then { x with state := .firing } else x)
          nextNumber := s.tickets.nextNumber, swathLeft := some (s.params.swathTimeout * 1000) } } := by
      simp only [State.takeTicket, State.modTicket, beq_iff_eq]
      rfl
    rw [← fires]
    refine congrArg Host.Outcome.next ((s.takeWrite_takes p takes 1 _).trans ?_)
    rw [decideSwathTake_takes (State.of_inRun run).1 named found granted]
    rfl
  · have number : t.number = n := by simpa using List.find?_some found
    have runs : exec (.swathDone p n count pairs) s =
        .next ((s.settleTicket t pairs).settle.replied s p 0x41 .accepted 0 (2 + 5 * pairs.length)) := by
      refine congrArg Host.Outcome.next ((s.takeWrite_takes p takes _ _).trans ?_)
      rw [decideSwathDone_settles (State.of_inRun run).1 legal named found firing]
      rfl
    refine ⟨_, runs, ?_⟩
    have frame := s.settleTicket_frame t pairs
    rw [s.settleTicket_eq t pairs] at frame ⊢
    refine ⟨fun c => ?_, ?_, ?_, rfl, State.chargeTicket_latched _ _ _ _ _, ?_, frame⟩
    · intro r d
      have debit : (s.debits pairs).get c = d := s.debits_get pairs c
      obtain ⟨x, record⟩ := s.ledgerOp_record (fun c r => { r with
        rs := r.rs - t.need.get c, level := r.level - ((s.debits pairs).get c).1, carry := ((s.debits pairs).get c).2 }) c
      rw [State.chargeTicket_ledger, record]
      exact ⟨rfl, congrArg (fun y => r.level - y.1) debit, congrArg Prod.snd debit, rfl, rfl⟩
    · rw [State.chargeTicket_sheets]
      simp only [Six.get_map, s.debits_get]
    · rw [State.chargeTicket_queue, number]
    · rw [State.chargeTicket_ledger, State.ledgerOp_ledger]
  · have expires : s.swathExpires = some (s.loseTicket t) := by rw [State.swathExpires, firing]; rfl
    refine ⟨_, congrArg Host.Outcome.next (State.sensedSome_acts high expires), ?_⟩
    have frame := s.loseTicket_frame t
    rw [s.loseTicket_eq t] at frame ⊢
    refine ⟨fun c => ?_, State.chargeTicket_sheets _ _ _ _ _, State.chargeTicket_queue _ _ _ _ _, rfl,
      State.chargeTicket_latched _ _ _ _ _, frame⟩
    obtain ⟨x, record⟩ := s.ledgerOp_record (fun c r => { r with rs := r.rs - t.need.get c, level := r.level - t.need.get c }) c
    rw [State.chargeTicket_ledger, record]
    exact ⟨rfl, rfl, rfl, rfl⟩

end Sys2Proof.Machine
end

section
/-!
SUPPORT. What an operation of the feed unit tells and to whom: events stay latched through the cancellation of a sheet (R75, R114 to
R116, R174), a sheet that is removed is out of the queue, and a change of the roll records is reported (R80, R101, R104).
-/

namespace Sys2Proof.Machine

/-! ### Events stay latched -/

namespace State.Latched
variable {s : State} {e : Event}

theorem ledgerOp (h : s.Latched e) (f : Channel → ChannelRec → ChannelRec) : (s.ledgerOp f).Latched e := by
  have kept : (s.setChan (ledgerChans s.params s.ledger.chan f)).Latched e := h.of_ports rfl
  exact ((kept.raiseIf _ .inkStarved).raiseIf _ .deficit).of_ports (Frame.when _ _ State.inkMoved_frame .ports (by decide))

theorem removeTickets (h : s.Latched e) (leaves : Ticket → Bool) : (s.removeTickets leaves).Latched e := by
  unfold State.removeTickets
  dsimp only
  split
  · exact h
  · have released : ((s.releaseInk (s.tickets.queue.filter leaves)).setTicketQueue
        (s.tickets.queue.filter fun t => !leaves t)).Latched e := (h.ledgerOp _).of_ports rfl
    exact (released.raiseIf _ .grantWithdrawn).of_ports
      ((Frame.when _ _ State.dueArbiter_frame).trans (State.duePass_frame _) .ports (by decide))

theorem removeSheet (h : s.Latched e) (id : Nat) (o : SheetOutcome) : (s.removeSheet id o).Latched e := by
  unfold State.removeSheet
  split
  · exact h
  · have told (x : Sheets) : ((s.setSheets x).raise .sheetDone).Latched e :=
      State.Latched.raiseIf (s := s.setSheets x) h true .sheetDone
    exact (told _).of_ports (Frame.join ((State.dueExamine_frame _).trans (Frame.when _ _ State.dueArbiter_frame))
      (Frame.when _ _ State.countDone_frame) (cs := [.service, .due]) (by decide) (by decide) .ports (by decide))

theorem cancelIf (h : s.Latched e) (id : Nat) (o : SheetOutcome) : (s.cancelIf id o).Latched e := by
  have out : (s.removeSheetTickets id).Latched e := h.removeTickets _
  unfold State.cancelIf State.cancelSheet
  dsimp only
  split
  · exact h
  split
  · split
    · exact out.of_ports rfl
    · exact out.removeSheet id o
  · exact h

theorem cancelActive (h : s.Latched e) (o : SheetOutcome) : (s.cancelActive o).Latched e := by
  unfold State.cancelActive
  split
  · exact h
  · exact h.cancelIf _ o

theorem feedFaulted (h : s.Latched e) (o : FeedOp) : (s.feedFaulted o).Latched e := by
  unfold State.feedFaulted
  split
  · exact h
  split
  · exact h.of_ports rfl
  · exact h
  all_goals exact h.cancelIf _ _

end State.Latched

section
variable (s : State)

/-! ### Sheets that leave -/

/-- R116: whether or not a sheet bears the id, none does afterwards, and the others stand as they were. -/
theorem State.removeSheet_queue (id : Nat) (o : SheetOutcome) :
    (s.removeSheet id o).sheets.queue = s.sheets.queue.filter fun x => x.id != id := by
  unfold State.removeSheet
  cases found : s.findSheet id with
  | none =>
    refine (List.filter_eq_self.2 fun x hx => ?_).symm
    simpa [bne] using List.find?_eq_none.1 found x hx
  | some h =>
    have rest (t : State) (b c : Bool) :
        (((t.raise .sheetDone).dueExamine.when b State.dueArbiter).when c State.countDone).sheets = t.sheets :=
      (Frame.join ((State.raise_frame t _).join ((State.dueExamine_frame _).trans (Frame.when _ _ State.dueArbiter_frame))
        (cs := [.ports, .due]) (by decide) (by decide)) (Frame.when _ _ State.countDone_frame)
        (cs := [.ports, .service, .due]) (by decide) (by decide)) .sheets (by decide)
    exact congrArg Sheets.queue (rest _ _ _)

/-! ### Roll records and their report -/

/-- What is due once the roll records have become `rolls`: a report of those that stood before and an examination, where they
differ (R80, R101, R104). -/
def State.dueRolls (rolls : Two RollRec) : Due :=
  if s.feed.roll = rolls then s.due else { s.due with rolls := some (s.due.rolls.getD s.feed.roll), examine := true }

theorem State.setFeed_reportRolls (f : Feed) :
    (s.setFeed f).reportRolls s.feed.roll = (s.setFeed f).setDue (s.dueRolls f.roll) := by
  unfold State.reportRolls State.dueRolls
  by_cases h : f.roll = s.feed.roll
  · simp only [State.setFeed_feed, h]
    rfl
  · simp only [State.setFeed_feed, if_neg h, if_neg (Ne.symm h)]
    rfl

theorem Two.eq_set_iff {α : Type} (v : Two α) (r : Roll) (x : α) : v = v.set r x ↔ v.get r = x := by
  refine ⟨fun h => ?_, fun h => ?_⟩
  · rw [h, Two.get_set_same]
  · refine Two.ext_get _ _ fun q => ?_
    by_cases hq : q = r
    · rw [hq, h, Two.get_set_same]
    · rw [Two.get_set_other _ _ _ _ hq]

/-- The report where one record alone is set. -/
theorem State.dueRolls_set (r : Roll) (x : RollRec) : s.dueRolls (s.feed.roll.set r x) = if s.feed.roll.get r = x then s.due
    else { s.due with rolls := some (s.due.rolls.getD s.feed.roll), examine := true } := by
  simp only [State.dueRolls, Two.eq_set_iff]

@[simp] theorem Roll.other_ne (r : Roll) : r.other ≠ r := by cases r <;> decide

/-! ### The path roll -/

theorem State.pathFaults_latched (why : FeedCause) (e : Event) : (s.pathFaults why e).Latched e := State.raise_latched _ e

/-- R93: the IDLE path enters FAULT, and the active sheet is cancelled. -/
def State.faultIdle (why : FeedCause) : State := (s.pathFaults why .feedFault).cancelActive .feedFault

theorem State.faultIdle_frame (why : FeedCause) :
    Frame [.ports, .ledger, .tickets, .feed, .sheets, .service, .due] s (s.faultIdle why) :=
  (s.pathFaults_frame why _).join (State.cancelActive_frame _ _) (by decide) (by decide)

theorem State.faultIdle_feed (why : FeedCause) :
    (s.faultIdle why).feed = { s.feed with path := .fault, op := none, cause := why } :=
  State.cancelActive_frame _ _ .feed (by decide)

theorem State.faultIdle_latched (why : FeedCause) : (s.faultIdle why).Latched .feedFault :=
  (s.pathFaults_latched why _).cancelActive _

variable {s} {r : Roll}

theorem State.modPathRoll_eq (h : s.feed.pathRoll = some r) (f : RollRec → RollRec) :
    s.modPathRoll f = s.setRoll r (f (s.feed.roll.get r)) := by
  rw [State.modPathRoll, h]

theorem Feed.pathRollState_eq {f : Feed} (h : f.pathRoll = some r) : f.pathRollState = (f.roll.get r).state := by
  rw [Feed.pathRollState, h]

end

end Sys2Proof.Machine
end

section
/-!
SUPPORT. Rolls that arrive and leave (R81, R92, R93), path state by path state. O43 is settled from them.
-/

namespace Sys2Proof.Machine

section
variable (s : State) (r : Roll)

/-- The hub with a reading of the presence sensor of a roll holder. -/
def State.rollReads (present : Bool) : State :=
  s.setPins { s.pins with rollPresent := s.pins.rollPresent.set r present }

/-- R80, R81: a roll record is set, and the change is reported. -/
def State.putRoll (x : RollRec) : State := (s.setRoll r x).setDue (s.dueRolls (s.feed.roll.set r x))

theorem State.setRoll_reportRolls (x : RollRec) : (s.setRoll r x).reportRolls s.feed.roll = s.putRoll r x :=
  s.setFeed_reportRolls _

theorem State.putRoll_frame (x : RollRec) : Frame [.feed, .due] s (s.putRoll r x) :=
  (s.setRoll_frame r x).join (State.setDue_frame _ _) (by decide) (by decide)

/-- R92, R93: the roll is ABSENT, and the path, which it fed, names no roll and is in the state given. -/
def State.quitRoll (p : PathState) : State :=
  (s.putRoll r RollRec.absent).setFeed { (s.putRoll r RollRec.absent).feed with path := p, pathRoll := none }

theorem State.quitRoll_frame (p : PathState) : Frame [.feed, .due] s (s.quitRoll r p) :=
  (s.putRoll_frame r _).trans ((State.setFeed_frame _ _).mono (by decide))

variable {s r} {u : State}

theorem exec_rollArrival_arrives (awake : s.Awake) (out : s.pins.rollPresent.get r = false) :
    exec (.rollArrival r) s = .next ((s.rollReads r true).rollArrives r).settle :=
  (congrArg Host.Outcome.next (if_neg (by simp [out]))).trans
    (congrArg Host.Outcome.next (State.sensedAwake_acts (s := s.rollReads r true) awake _))

theorem exec_rollRemoval_leaves (awake : s.Awake) (inside : s.pins.rollPresent.get r = true)
    (leaves : (s.rollReads r false).rollLeaves r = u) : exec (.rollRemoval r) s = .next u.settle :=
  leaves ▸ (congrArg Host.Outcome.next (if_pos inside)).trans
    (congrArg Host.Outcome.next (State.sensedAwake_acts (s := s.rollReads r false) awake _))

/-- R81: no swap running, a roll that is not the path roll changes its own record alone. -/
theorem State.rollLeaves_off_path (other : s.feed.pathRoll ≠ some r) (path : s.feed.path ≠ .swapping) :
    s.rollLeaves r = s.putRoll r RollRec.absent := by
  simp only [State.rollLeaves, State.setRoll_reportRolls]
  cases h : s.feed.path
  case swapping => exact absurd h path
  case advancing => cases s.feed.op <;> simp [other]
  all_goals simp [other]

/-- R92, R93: a removal that leaves CUTTING and FAULT as they are, and an IDLE path UNTHREADED whose roll was EMPTY. -/
theorem State.rollLeaves_quits (on : s.feed.pathRoll = some r) (path : s.feed.path = .cutting ∨ s.feed.path = .fault ∨
    s.feed.path = .idle ∧ (s.feed.roll.get r).state = .empty) :
    s.rollLeaves r = s.quitRoll r (if s.feed.path = .idle then .unthreaded else s.feed.path) := by
  simp only [State.rollLeaves, State.setRoll_reportRolls]
  rcases path with path | path | ⟨path, empty⟩
  · simp [path, on, State.quitRoll, State.putRoll, State.setRoll]
  · simp [path, on, State.quitRoll, State.putRoll, State.setRoll]
  · simp [path, on, empty, State.quitRoll, State.putRoll, State.setRoll]
    rfl

/-- R93: an IDLE path that loses its media is in FAULT, and the active sheet is cancelled. -/
theorem State.rollLeaves_faults (on : s.feed.pathRoll = some r) (path : s.feed.path = .idle)
    (media : (s.feed.roll.get r).state ≠ .empty) : s.rollLeaves r = (s.quitRoll r .idle).faultIdle .rollRemoved := by
  simp only [State.rollLeaves, State.setRoll_reportRolls]
  simp [path, on, media, State.quitRoll, State.putRoll, State.setRoll, State.faultIdle]

end

/-- Settles O43: an arrival and a removal by what they do to the record, and a removal by what it does to each path. -/
theorem rollsComeAndGo : Obligations.RollsComeAndGo := by
  intro s r awake reported
  have report (x : RollRec) : reported x = s.dueRolls (s.feed.roll.set r x) := (s.dueRolls_set r x).symm
  simp only [report]
  refine ⟨fun out => ?_, fun inside other path => ?_, fun inside on path => ?_, fun inside on path media => ?_⟩
  · rw [exec_rollArrival_arrives awake out, State.rollArrives, State.setRoll_reportRolls]
    rfl
  · exact exec_rollRemoval_leaves awake inside (State.rollLeaves_off_path (s := s.rollReads r false) other path)
  · exact exec_rollRemoval_leaves awake inside (State.rollLeaves_quits (s := s.rollReads r false) on path)
  · let t := (s.rollReads r false).quitRoll r .idle
    have quits : Frame [.pins, .feed, .due] s t :=
      (s.setPins_frame _).join (State.quitRoll_frame _ r .idle) (by decide) (by decide)
    have feed := t.faultIdle_feed .rollRemoved
    refine ⟨_, exec_rollRemoval_leaves awake inside (State.rollLeaves_faults (s := s.rollReads r false) on path media), ?_⟩
    rw [feed]
    refine ⟨?_, ?_, rfl, rfl, rfl, rfl, t.faultIdle_latched _, t.faultIdle_frame _ .pins (by decide),
      quits.join (t.faultIdle_frame _) (by decide) (by decide)⟩
    · exact Two.get_set_same _ _ _
    · exact Two.get_set_other _ _ _ _ (Roll.other_ne r)

end Sys2Proof.Machine
end

section
/-!
SUPPORT. What the ends of feed operations leave in the feed unit (R87 to R92), and the blocks that they reach. O44 and O45 are
settled from them.
-/

namespace Sys2Proof.Machine

section
variable (s : State) (o : FeedOp) (r : Roll)

/-! ### A paper end (R88) -/

theorem State.paperEndOn_feed : (s.paperEndOn r).feed = s.feed := s.paperEndOn_frame r .feed (by decide)

variable {s r}

theorem State.stopAdvance_feed (on : s.feed.pathRoll = some r) : (s.stopAdvance o r).feed = { s.feed with
    roll := s.feed.roll.set r { s.feed.roll.get r with state := .empty, remaining := some 0 }, path := .idle, op := none } := by
  have tells (t : State) (b : Bool) : ((t.when b fun t => t.stoppedPaperEnd o.purpose o.sheet).paperEndOn r).feed = t.feed :=
    ((Frame.when _ _ fun t => t.stoppedPaperEnd_frame _ _).trans (State.paperEndOn_frame _ r)) .feed (by decide)
  rw [State.stopAdvance, tells, State.reportRolls_frame _ _ .feed (by decide), State.modPathRoll_eq on]
  rfl

/-- A path whose roll stands still: the roll is EMPTY, and the active sheet on it is cancelled. -/
def State.endRoll (s : State) (r : Roll) : State := ((s.modPathRoll RollRec.ended).reportRolls s.feed.roll).paperEndOn r

theorem State.endRoll_feed (on : s.feed.pathRoll = some r) : (s.endRoll r).feed = { s.feed with
    roll := s.feed.roll.set r { s.feed.roll.get r with state := .empty, remaining := some 0 } } := by
  rw [State.endRoll, State.paperEndOn_feed, State.reportRolls_frame _ _ .feed (by decide), State.modPathRoll_eq on]
  rfl

variable (s r) in
theorem State.endRoll_frame : Frame [.ports, .ledger, .tickets, .feed, .sheets, .service, .due] s (s.endRoll r) :=
  ((s.modPathRoll_frame _).join (State.reportRolls_frame _ _) (cs := [.feed, .due]) (by decide) (by decide)).join
    (State.paperEndOn_frame _ r) (by decide) (by decide)

theorem State.paperEnds_advancing (path : s.feed.path = .advancing) (op : s.feed.op = some o) (on : s.feed.pathRoll = some r)
    (threaded : (s.feed.roll.get r).state = .threaded) : s.paperEnds = some (s.stopAdvance o r) := by
  simp [State.paperEnds, on, Feed.pathRollState_eq on, threaded, path, op]

theorem State.paperEnds_standing (path : s.feed.path = .idle ∨ s.feed.path = .cutting ∨ s.feed.path = .fault)
    (on : s.feed.pathRoll = some r) (threaded : (s.feed.roll.get r).state = .threaded) : s.paperEnds = some (s.endRoll r) := by
  rcases path with path | path | path <;>
    simp [State.paperEnds, on, Feed.pathRollState_eq on, threaded, path, State.endRoll]

/-! ### Advances (R87, R89) -/

theorem State.feedFaulted_feed (s : State) : (s.feedFaulted o).feed = s.feed := s.feedFaulted_frame o .feed (by decide)

theorem State.faultAdvance_feed (on : s.feed.pathRoll = some r) (why : FeedCause) : (s.faultAdvance o why).feed = { s.feed with
    roll := s.feed.roll.set r { s.feed.roll.get r with remaining := (s.feed.roll.get r).remaining.map fun n => n - o.length }
    path := .fault, op := none, cause := why } := by
  rw [State.faultAdvance, State.feedFaulted_feed, State.modPathRoll_eq on]
  rfl

theorem State.faultAdvance_latched (s : State) (why : FeedCause) : (s.faultAdvance o why).Latched .feedFault :=
  (State.pathFaults_latched _ why _).feedFaulted o

/-- The roll gives the length of a completed advance, and the path is IDLE. -/
def State.takeLength (s : State) (o : FeedOp) (r : Roll) : State := s.setFeed { s.feed with
  roll := s.feed.roll.set r { s.feed.roll.get r with remaining := (s.feed.roll.get r).remaining.map fun n => n - o.length }
  path := .idle, op := none }

theorem State.takeLength_frame (s : State) (r : Roll) : Frame [.feed] s (s.takeLength o r) := s.setFeed_frame _

theorem State.completeAdvance_eq (on : s.feed.pathRoll = some r) : s.completeAdvance o = (s.takeLength o r).advanceDone o := by
  rw [State.completeAdvance, State.modPathRoll_eq on]
  rfl

theorem State.completeAdvance_feed (on : s.feed.pathRoll = some r) : (s.completeAdvance o).feed = (s.takeLength o r).feed := by
  rw [State.completeAdvance_eq o on]
  exact State.advanceDone_frame _ o .feed (by decide)

/-! ### Swaps (R90, R91) -/

theorem RollRec.unthread_eq (x : RollRec) :
    x.unthread = { x with state := if x.state = .threaded then .loaded else x.state } := by
  unfold RollRec.unthread
  by_cases h : x.state = .threaded <;> simp [h]

theorem State.faultSwap_feed (on : s.feed.pathRoll = some r) (why : FeedCause) : (s.faultSwap o why).feed = { s.feed with
    roll := s.feed.roll.set r (s.feed.roll.get r).unthread, path := .fault, pathRoll := none, op := none, cause := why } := by
  rw [State.faultSwap, State.feedFaulted_feed, State.reportRolls_frame _ _ .feed (by decide), State.modPathRoll_eq on]
  rfl

theorem State.faultSwap_latched (s : State) (why : FeedCause) : (s.faultSwap o why).Latched .feedFault :=
  ((State.pathFaults_latched _ why _).of_ports (State.reportRolls_frame _ _ .ports (by decide))).feedFaulted o

/-- The roll records once a swap to the roll has ended: the former path roll no longer feeds, the target is THREADED. -/
def Feed.swapped (f : Feed) (r : Roll) : Two RollRec :=
  let old := match f.pathRoll with
    | none => f.roll
    | some q => f.roll.set q (f.roll.get q).unthread
  old.set r { old.get r with state := .threaded }

theorem Feed.swapped_target (f : Feed) (r : Roll) : (f.swapped r).get r = { f.roll.get r with state := .threaded } := by
  unfold Feed.swapped
  cases f.pathRoll with
  | none => simp
  | some q =>
    by_cases h : r = q
    · subst h
      simp [RollRec.unthread_eq]
    · simp [h]

theorem Feed.swapped_former {f : Feed} (on : f.pathRoll = some r.other) :
    (f.swapped r).get r.other = (f.roll.get r.other).unthread := by
  simp [Feed.swapped, on]

theorem Feed.swapped_other {f : Feed} (off : f.pathRoll ≠ some r.other) : (f.swapped r).get r.other = f.roll.get r.other := by
  unfold Feed.swapped
  cases h : f.pathRoll with
  | none => simp
  | some q =>
    have other : r.other ≠ q := fun e => off (e ▸ h)
    simp [other]

theorem State.completeSwap_eq (s : State) (r : Roll) : s.completeSwap o r =
    ((s.setFeed { s.feed with roll := s.feed.swapped r, path := .idle, pathRoll := some r, op := none }).setDue
      (s.dueRolls (s.feed.swapped r))).when (!o.orphan) fun t => t.modSheet o.sheet fun h =>
        if h.state == .loading then { h with loadStep := some .margin } else h := by
  unfold State.completeSwap State.modPathRoll Feed.swapped
  cases s.feed.pathRoll with
  | none => exact congrArg (State.when · (!o.orphan) _) (s.setFeed_reportRolls _)
  | some q => exact congrArg (State.when · (!o.orphan) _) (s.setFeed_reportRolls _)

theorem State.proceedSwap_goes {g g' : SwapStage} (target : o.target = some r) (stage : o.stage = some g)
    (next : swapStage s.pins r g = some g') :
    s.proceedSwap o = s.setFeed { s.feed with op := some { o with stage := some g' } } := by
  simp [State.proceedSwap, target, stage, next]

theorem State.proceedSwap_completes {g : SwapStage} (target : o.target = some r) (stage : o.stage = some g)
    (ended : swapStage s.pins r g = none) : s.proceedSwap o = s.completeSwap o r := by
  simp [State.proceedSwap, target, stage, ended]

end

end Sys2Proof.Machine
end

section
/-!
SUPPORT. What the paper-end sensor, the thread sensor, the actuator and the cutter home switch bring about, path state by path state
(R88 to R93). O44 is settled from it.
-/

namespace Sys2Proof.Machine

section
variable {s : State} {o : FeedOp} {r : Roll}

/-! ### A sensor that reports -/

/-- While the reset line is high a sensor change sets its pin and is acted on. -/
theorem State.senses {x : Pins} {act : State → Option State} {u : State} (high : x.resetLow = false)
    (acts : act (s.setPins x) = some u) :
    (.next ((s.setPins x).sensedSome act) : Host.Outcome State Fault Refusal) = .next u.settle :=
  congrArg Host.Outcome.next (State.sensedSome_acts high acts)

/-- Where nothing is there to act on the pin alone is set. -/
theorem State.senses_nothing {x : Pins} {act : State → Option State} (ignores : act (s.setPins x) = none) :
    (.next ((s.setPins x).sensedSome act) : Host.Outcome State Fault Refusal) = .next (s.setPins x) :=
  congrArg Host.Outcome.next (State.sensedSome_ignores ignores)

theorem Frame.of_setPins {x : Pins} {u : State} {bs : List Block} (f : Frame bs (s.setPins x) u) : Frame (.pins :: bs) s u :=
  (s.setPins_frame x).join f (by simp) (by simp +contextual)

/-! ### The thread sensor -/

theorem State.threadChanges_advancing (path : s.feed.path = .advancing) (op : s.feed.op = some o) :
    s.threadChanges false = some (s.faultAdvance o .threadLost) := by
  simp [State.threadChanges, path, op]

/-- R93: media that returns to an IDLE path is not noticed. -/
theorem State.threadChanges_ignores (path : s.feed.path = .idle) : s.threadChanges true = none := by
  simp [State.threadChanges, path]

theorem State.threadChanges_empty (path : s.feed.path = .idle) (empty : s.feed.pathRollState = .empty) :
    s.threadChanges false = some (s.setFeed { s.feed with path := .unthreaded, pathRoll := none }) := by
  simp [State.threadChanges, path, empty]

theorem State.threadChanges_lost (path : s.feed.path = .idle) (media : s.feed.pathRollState ≠ .empty) :
    s.threadChanges false = some (s.faultIdle .threadLost) := by
  simp [State.threadChanges, path, media, State.faultIdle]

theorem State.threadChanges_swapping {u : State} (path : s.feed.path = .swapping) (op : s.feed.op = some o)
    (goes : s.proceedSwap o = u) (present : Bool) : s.threadChanges present = some u := by
  simp [State.threadChanges, path, op, goes]

/-! ### The actuator -/

theorem State.actuatorReports_ignores (path : s.feed.path ≠ .swapping) : s.actuatorReports = none := by
  unfold State.actuatorReports
  split
  · next h _ => exact absurd h path
  · rfl

theorem State.actuatorReports_swapping {u : State} (path : s.feed.path = .swapping) (op : s.feed.op = some o)
    (goes : s.proceedSwap o = u) : s.actuatorReports = some u := by
  simp [State.actuatorReports, path, op, goes]

/-- R90: SELECT ends with the actuator at the target and no media at the thread sensor. -/
theorem swapStage_select {pins : Pins} (at_target : pins.actuator = r) (free : pins.thread = false) :
    swapStage pins r .select = some .thread := by
  simp [swapStage, at_target, free]

/-- R90: UNTHREAD ends with no media at the thread sensor; SELECT is left out where the actuator stands at the target. -/
theorem swapStage_unthread {pins : Pins} (free : pins.thread = false) :
    swapStage pins r .unthread = some (if pins.actuator = r then .thread else .select) := by
  by_cases h : pins.actuator = r <;> simp [swapStage, free, h]

/-- R90: THREAD ends with media at the thread sensor. -/
theorem swapStage_thread {pins : Pins} (media : pins.thread = true) : swapStage pins r .thread = none := by
  simp [swapStage, media]

/-! ### The completed swap -/

theorem State.completeSwap_feed : (s.completeSwap o r).feed =
    { s.feed with roll := s.feed.swapped r, path := .idle, pathRoll := some r, op := none } := by
  rw [State.completeSwap_eq]
  exact Frame.when _ _ (fun t => t.modSheet_frame _ _) .feed (by decide)

/-- R90, R103: the LOADING sheet that asked for the swap goes on to its margin. -/
theorem State.completeSwap_queue : (s.completeSwap o r).sheets.queue = s.sheets.queue.map fun x =>
    if x.id = o.sheet ∧ o.orphan = false ∧ x.state = .loading then { x with loadStep := some .margin } else x := by
  rw [State.completeSwap_eq]
  cases o.orphan
  · refine List.map_congr_left fun x _ => ?_
    by_cases named : x.id = o.sheet <;> simp [named]
  · simp

/-- R80: a target whose record has changed is reported. -/
theorem State.completeSwap_reports (changed : s.feed.roll.get r ≠ (s.completeSwap o r).feed.roll.get r) :
    (s.completeSwap o r).due.rolls.isSome = true ∧ (s.completeSwap o r).due.examine = true := by
  rw [State.completeSwap_feed] at changed
  have due : (s.completeSwap o r).due = s.dueRolls (s.feed.swapped r) := by
    rw [State.completeSwap_eq]
    exact Frame.when _ _ (fun t => t.modSheet_frame _ _) .due (by decide)
  have differ : s.feed.roll ≠ s.feed.swapped r := fun same => changed (congrArg (Two.get · r) same)
  simp [due, State.dueRolls, differ]

/-! ### The cutter (R92) -/

theorem State.cutterReports_leaves (path : s.feed.path = .cutting) (op : s.feed.op = some o) :
    s.cutterReports false = some (s.setFeed { s.feed with op := some { o with cutterLeft := true } }) := by
  simp [State.cutterReports, path, op]

theorem State.cutterReports_home (path : s.feed.path = .cutting) (op : s.feed.op = some o) :
    s.cutterReports true = if o.cutterLeft = true then some (s.completeCut o) else none := by
  simp [State.cutterReports, path, op]

theorem State.completeCut_feed : (s.completeCut o).feed =
    { s.feed with op := none, path := if s.feed.pathRoll = none then .unthreaded else .idle } := by
  have feed : (s.completeCut o).feed = { s.feed with op := none, path := if s.feed.pathRoll.isSome then .idle else .unthreaded } :=
    Frame.when _ _ (fun t => t.removeSheet_frame _ _) .feed (by decide)
  rw [feed]
  cases s.feed.pathRoll <;> simp

theorem State.completeCut_queue (owned : o.orphan = false) :
    (s.completeCut o).sheets.queue = s.sheets.queue.filter fun x => x.id != o.sheet := by
  rw [State.completeCut, owned]
  exact State.removeSheet_queue _ _ _

end

/-- Settles O44, sensor by sensor. -/
theorem pathSensorsAct : Obligations.PathSensorsAct := by
  intro s high
  refine ⟨State.senses_nothing rfl, fun o r path op on threaded => ?_, fun r path on threaded => ?_, fun o r path op on => ?_,
    fun path => State.senses_nothing (State.threadChanges_ignores path),
    fun path empty => State.senses high (State.threadChanges_empty path empty), fun path media => ?_,
    fun r path => State.senses_nothing (State.actuatorReports_ignores path),
    fun o r path op target stage free => ?_, fun o r path op target stage => ?_, fun o r path op target stage => ?_,
    fun o path op => ⟨State.senses high (State.cutterReports_leaves path op), fun still => ?_, fun left owned => ?_⟩⟩
  · let t := s.setPins { s.pins with paper := false }
    have frame := t.stopAdvance_frame o r
    have feed := State.stopAdvance_feed (s := t) o on
    exact ⟨_, State.senses high (State.paperEnds_advancing (s := t) o path op on threaded), congrArg Feed.path feed,
      congrArg Feed.op feed, congrArg Feed.roll feed, frame .pins (by decide), Frame.of_setPins frame⟩
  · let t := s.setPins { s.pins with paper := false }
    exact ⟨_, State.senses high (State.paperEnds_standing (s := t) path on threaded), State.endRoll_feed (s := t) on,
      t.endRoll_frame r .pins (by decide), Frame.of_setPins (t.endRoll_frame r)⟩
  · let t := s.setPins { s.pins with thread := false }
    have frame := t.faultAdvance_frame o .threadLost
    refine ⟨_, State.senses high (State.threadChanges_advancing path op), ?_⟩
    rw [State.faultAdvance_feed (s := t) o on]
    exact ⟨rfl, rfl, rfl, on, rfl, State.faultAdvance_latched o t _, frame .pins (by decide), Frame.of_setPins frame⟩
  · let t := s.setPins { s.pins with thread := false }
    have frame := t.faultIdle_frame .threadLost
    have feed := t.faultIdle_feed .threadLost
    refine ⟨_, State.senses high (State.threadChanges_lost path media), ?_⟩
    rw [feed]
    exact ⟨rfl, rfl, rfl, rfl, t.faultIdle_latched _, frame .pins (by decide), Frame.of_setPins frame⟩
  · have goes := State.proceedSwap_goes (s := s.setPins { s.pins with actuator := r }) o target stage (swapStage_select rfl free)
    exact State.senses high (State.actuatorReports_swapping path op goes)
  · let t := s.setPins { s.pins with thread := false }
    have goes := State.proceedSwap_goes (s := t) o target stage (swapStage_unthread rfl)
    exact State.senses high (State.threadChanges_swapping (s := t) path op goes false)
  · let t := s.setPins { s.pins with thread := true }
    have completes := State.proceedSwap_completes (s := t) o target stage (swapStage_thread rfl)
    have frame := t.completeSwap_frame o r
    have feed := State.completeSwap_feed (s := t) (o := o) (r := r)
    refine ⟨_, State.senses high (State.threadChanges_swapping (s := t) path op completes true), ?_, ?_, ?_, ?_,
      fun former => ?_, fun other => ?_, State.completeSwap_queue (s := t), State.completeSwap_reports (s := t),
      frame .pins (by decide), Frame.of_setPins frame⟩
    all_goals rw [feed]
    · exact t.feed.swapped_target r
    · exact (Feed.swapped_former (f := t.feed) former).trans (RollRec.unthread_eq _)
    · exact Feed.swapped_other (f := t.feed) other
  · have ignored := State.cutterReports_home (s := s.setPins { s.pins with cutterHome := true }) path op
    rw [still, if_neg (by decide)] at ignored
    exact State.senses_nothing ignored
  · let t := s.setPins { s.pins with cutterHome := true }
    have frame := t.completeCut_frame o
    have completes := State.cutterReports_home (s := t) path op
    rw [left, if_pos rfl] at completes
    exact ⟨_, State.senses high completes, State.completeCut_feed (s := t), State.completeCut_queue (s := t) owned,
      frame .pins (by decide), Frame.of_setPins frame⟩

end Sys2Proof.Machine
end

section
/-!
SUPPORT. Feed operations that end by report or by timer (R87, R89, R91, R92), and what the end of an advance is to its requester
(R67, R103, R109). O45 is settled from it.
-/

namespace Sys2Proof.Machine

section
variable {s : State} {o : FeedOp} {r : Roll}

theorem State.moveEnds_advancing (path : s.feed.path = .advancing) (op : s.feed.op = some o) :
    s.moveEnds = some (s.completeAdvance o) := by
  simp [State.moveEnds, path, op]

theorem State.watchdogExpires_advancing (path : s.feed.path = .advancing) (op : s.feed.op = some o) :
    s.watchdogExpires = some (s.faultAdvance o .jam) := by
  simp [State.watchdogExpires, path, op]

theorem State.swapExpires_swapping (path : s.feed.path = .swapping) (op : s.feed.op = some o) :
    s.swapExpires = some (s.faultSwap o .swapTimeout) := by
  simp [State.swapExpires, path, op]

theorem State.cutExpires_cutting (path : s.feed.path = .cutting) :
    s.cutExpires = some (s.pathFaults .cutTimeout .cutFault) := by
  simp [State.cutExpires, path]

/-! ### What an advance was for -/

/-- R67: the sheet's printed length grows, up to the ceiling of a four-byte count, and the ticket's advance is DONE. -/
theorem State.advanceDone_ticket (owned : o.orphan = false) (purpose : o.purpose = .ticket) : s.advanceDone o =
    (s.modSheet o.sheet fun h => { h with printed := min (h.printed + o.length) 4294967295 }).modTicket o.ticket fun t =>
      if t.adv == .running then { t with adv := .done } else t := by
  simp only [State.advanceDone, owned, purpose]
  rfl

/-- R103: the margin of a LOADING sheet. -/
theorem State.advanceDone_margin (owned : o.orphan = false) (purpose : o.purpose = .margin) {h : Sheet}
    (found : s.findSheet o.sheet = some h) (loading : h.state = .loading) : s.advanceDone o =
      (s.modSheet o.sheet fun x => { x with state := .printing, loadStep := none }).raise .sheetActive := by
  simp [State.advanceDone, owned, purpose, found, loading]

/-- R109: the tail of a CUTTING sheet. -/
theorem State.advanceDone_tail (owned : o.orphan = false) (purpose : o.purpose = .tail) :
    s.advanceDone o = s.modSheet o.sheet fun h => { h with finish := some .cut } := by
  simp [State.advanceDone, owned, purpose]

/-- The frame of an advance whose end changes more than the roll and the path. -/
theorem State.takeLength_then {bs : List Block} {u : State} (f : Frame bs (s.takeLength o r) u) : Frame (.feed :: bs) s u :=
  (s.takeLength_frame o r).join f (by simp) (by simp +contextual)

theorem exec_endOfMove_completes (high : s.pins.resetLow = false) (path : s.feed.path = .advancing) (op : s.feed.op = some o) :
    exec .endOfMove s = .next (s.completeAdvance o).settle :=
  congrArg Host.Outcome.next (State.sensedSome_acts high (State.moveEnds_advancing path op))

variable (s) in
theorem State.modSheet_queue (id : Nat) (f : Sheet → Sheet) :
    (s.modSheet id f).sheets.queue = s.sheets.queue.map fun h => if h.id = id then f h else h := by
  simp [State.modSheet]

end

/-- Settles O45: an advance by what it was for, then the three timers. -/
theorem feedOperationsEnd : Obligations.FeedOperationsEnd := by
  intro s o r high op
  refine ⟨fun path on => ?_, fun path on => ?_, fun path => ?_⟩
  · have ends := exec_endOfMove_completes high path op
    have feed := State.completeAdvance_feed o on
    refine ⟨fun owned purpose => ⟨_, ends, congrArg Feed.path feed, congrArg Feed.op feed, congrArg Feed.roll feed, ?_⟩,
      fun owned purpose h found loading => ⟨_, ends, congrArg Feed.path feed, congrArg Feed.op feed, congrArg Feed.roll feed,
        ?_⟩,
      fun owned purpose => ⟨_, ends, congrArg Feed.path feed, congrArg Feed.op feed, congrArg Feed.roll feed, ?_⟩, ?_⟩
    · rw [State.completeAdvance_eq o on, State.advanceDone_ticket owned purpose]
      refine ⟨State.modSheet_queue (s.takeLength o r) _ _,
        (State.modTicket_queue _ _ _).trans (List.map_congr_left fun t _ => ?_),
        State.takeLength_then ((State.modSheet_frame _ _ _).join (State.modTicket_frame _ _ _) (by decide) (by decide))⟩
      by_cases named : t.number = o.ticket <;> simp [named]
    · rw [State.completeAdvance_eq o on, State.advanceDone_margin (s := s.takeLength o r) owned purpose found loading]
      exact ⟨State.modSheet_queue (s.takeLength o r) _ _, State.raise_latched _ _,
        (State.takeLength_then ((State.modSheet_frame _ _ _).join (State.raise_frame _ _) (cs := [.ports, .sheets]) (by decide)
          (by decide))).mono (by decide)⟩
    · rw [State.completeAdvance_eq o on, State.advanceDone_tail owned purpose]
      exact ⟨State.modSheet_queue (s.takeLength o r) _ _, State.takeLength_then (State.modSheet_frame _ _ _)⟩
    · have fault := State.faultAdvance_feed o on .jam
      exact ⟨_, congrArg Host.Outcome.next (State.sensedSome_acts high (State.watchdogExpires_advancing path op)),
        congrArg Feed.path fault, congrArg Feed.cause fault, congrArg Feed.op fault, congrArg Feed.roll fault,
        State.faultAdvance_latched o s _, s.faultAdvance_frame o _⟩
  · have feed := State.faultSwap_feed o on .swapTimeout
    have rolls : (s.faultSwap o .swapTimeout).feed.roll = _ := congrArg Feed.roll feed
    refine ⟨_, congrArg Host.Outcome.next (State.sensedSome_acts high (State.swapExpires_swapping path op)),
      congrArg Feed.path feed, congrArg Feed.cause feed, congrArg Feed.op feed, congrArg Feed.pathRoll feed, ?_, ?_,
      State.faultSwap_latched o s _, s.faultSwap_frame o _⟩
    · simp [rolls, RollRec.unthread_eq]
    · simp [rolls]
  · exact ⟨_, congrArg Host.Outcome.next (State.sensedSome_acts high (State.cutExpires_cutting path)), rfl,
      State.pathFaults_latched s _ _, s.pathFaults_frame _ _⟩

end Sys2Proof.Machine
end

section
/-!
SUPPORT. The survey of a FEED_CLEAR (R84, R94) and the tests of a ROLL_LOAD (R82). O46 is settled from them.
-/

namespace Sys2Proof.Machine

section
variable {s : State} {pins : Pins} {f : Feed} {p : Port}

/-! ### The survey (R84) -/

theorem survey_unthreaded (home : pins.cutterHome = true) (free : pins.thread = false) : survey pins f =
    { roll := Two.tab fun r => (f.roll.get r).unthread, path := .unthreaded, pathRoll := none, op := none, cause := .none } := by
  simp [survey, surveyPath, home, free]

/-- The record that a survey gives the roll at the actuator, by the paper-end sensor. -/
def RollRec.threadedBy (x : RollRec) (paper : Bool) : RollRec :=
  if paper then (if x.state = .empty then x else { x with state := .threaded }) else x.ended

theorem survey_threads (home : pins.cutterHome = true) (media : pins.thread = true)
    (inside : (f.roll.get pins.actuator).state ≠ .absent) : survey pins f =
    { roll := (Two.tab fun r => (f.roll.get r).unthread).set pins.actuator ((f.roll.get pins.actuator).threadedBy pins.paper)
      path := .idle, pathRoll := some pins.actuator, op := none, cause := .none } := by
  cases paper : pins.paper <;> simp [survey, surveyPath, home, media, inside, RollRec.threadedBy, paper]

theorem survey_mismatch (home : pins.cutterHome = true) (media : pins.thread = true)
    (absent : (f.roll.get pins.actuator).state = .absent) :
    (survey pins f).path = .fault ∧ (survey pins f).cause = .sensorMismatch := by
  simp [survey, surveyPath, home, media, absent]

theorem survey_away (away : pins.cutterHome = false) :
    (survey pins f).path = .fault ∧ (survey pins f).cause = .cutterAway := by
  simp [survey, away]

/-! ### FEED_CLEAR (R94) -/

variable (s) in
/-- What the survey finds, but for the remaining of the rolls (R94, notes/assumptions/39.md). -/
def State.surveyed : Feed := (survey s.pins s.feed).keepRemaining s.feed

variable (s) in
/-- The feed unit as the survey found it, and a report of the records that it changed. -/
def State.clearFeed : State := (s.setFeed s.surveyed).setDue (s.dueRolls s.surveyed.roll)

variable (s) in
theorem State.clearFeed_frame : Frame [.feed, .due] s s.clearFeed :=
  (s.setFeed_frame _).join (State.setDue_frame _ _) (by decide) (by decide)

theorem exec_feedClear_clears (takes : s.Takes p Cmd.feedClear) (fault : s.feed.path = .fault)
    (found : s.surveyed.path ≠ .fault) :
    exec (.feedClear p) s = .next (s.clearFeed.settle.replied s p 0x69 .accepted 0 0) := by
  have clears : decideFeedClear s = Answer.accept s.clearFeed.settle := by
    have reports : (s.setFeed ((survey s.pins s.feed).keepRemaining s.feed)).reportRolls s.feed.roll = s.clearFeed :=
      s.setFeed_reportRolls _
    have other : (survey s.pins s.feed).path ≠ .fault := found
    simp [decideFeedClear, fault, other, reports]
  refine congrArg Host.Outcome.next ((s.takeWrite_takes p takes 0 _).trans ?_)
  rw [clears]
  rfl

theorem exec_feedClear_refuses (takes : s.Takes p Cmd.feedClear) (fault : s.feed.path = .fault) {why : FeedCause}
    (found : (survey s.pins s.feed).path = .fault ∧ (survey s.pins s.feed).cause = why) : exec (.feedClear p) s =
      .next (State.replied { s with feed := { s.feed with cause := why } } s p 0x69 .wrongState 0 0) := by
  have refuses : decideFeedClear s = Answer.refuse (s.setFeed { s.feed with cause := why }) .wrongState := by
    simp [decideFeedClear, fault, found]
  refine congrArg Host.Outcome.next ((s.takeWrite_takes p takes 0 _).trans ?_)
  rw [refuses]
  rfl

/-- A roll that the survey does not find at the actuator: it is no longer THREADED, and its remaining stands. -/
theorem RollRec.unthread_keeps (x : RollRec) : { x.unthread with remaining := x.remaining } =
    { x with state := if x.state = .threaded then .loaded else x.state } := by
  rw [RollRec.unthread_eq]

theorem RollRec.threadedBy_media (x : RollRec) : { x.threadedBy true with remaining := x.remaining } =
    { x with state := if x.state = .empty then .empty else .threaded } := by
  by_cases empty : x.state = .empty <;> simp [RollRec.threadedBy, empty]

theorem RollRec.threadedBy_no_media (x : RollRec) : { x.threadedBy false with remaining := x.remaining } =
    { x with state := .empty } := rfl

theorem State.surveyed_unthreaded (home : s.pins.cutterHome = true) (free : s.pins.thread = false) :
    s.surveyed.path = .unthreaded ∧ s.surveyed.pathRoll = none ∧ s.surveyed.cause = .none ∧ s.surveyed.op = none ∧
    ∀ r, s.surveyed.roll.get r = { s.feed.roll.get r with
      state := if (s.feed.roll.get r).state = .threaded then .loaded else (s.feed.roll.get r).state } := by
  rw [State.surveyed, survey_unthreaded home free]
  exact ⟨rfl, rfl, rfl, rfl, fun r => by simp [RollRec.unthread_keeps]⟩

/-- What the survey finds with media at the thread sensor. -/
theorem State.surveyed_threads (home : s.pins.cutterHome = true) (media : s.pins.thread = true)
    (inside : (s.feed.roll.get s.pins.actuator).state ≠ .absent) :
    s.surveyed.path = .idle ∧ s.surveyed.pathRoll = some s.pins.actuator ∧ s.surveyed.cause = .none ∧ s.surveyed.op = none ∧
    s.surveyed.roll.get s.pins.actuator = { (s.feed.roll.get s.pins.actuator).threadedBy s.pins.paper with
      remaining := (s.feed.roll.get s.pins.actuator).remaining } ∧
    s.surveyed.roll.get s.pins.actuator.other = { s.feed.roll.get s.pins.actuator.other with
      state := if (s.feed.roll.get s.pins.actuator.other).state = .threaded then .loaded
        else (s.feed.roll.get s.pins.actuator.other).state } := by
  rw [State.surveyed, survey_threads home media inside]
  exact ⟨rfl, rfl, rfl, rfl, by simp, by simp [RollRec.unthread_keeps]⟩

/-! ### ROLL_LOAD (R82) -/

theorem rollOperandsLegal_iff {media width length : Nat} : rollOperandsLegal media width length = true ↔
    (1 ≤ media ∧ media ≤ 15) ∧ (210 ≤ width ∧ width ≤ 1120) ∧ length ≤ 200000 := by
  simp [rollOperandsLegal, between, and_assoc]

theorem PathState.busy_eq_false {x : PathState} (h : x = .idle ∨ x = .fault ∨ x = .unthreaded) : x.busy = false := by
  rcases h with rfl | rfl | rfl <;> rfl

theorem State.rollBusy_eq_false {r : Roll} (inside : (s.feed.roll.get r).state ≠ .absent)
    (media : (s.feed.roll.get r).state ≠ .empty) (still : s.feed.path.busy = false)
    (unused : s.feed.pathRoll ≠ some r ∨ s.activeSheet = none) : s.rollBusy r = false := by
  rcases unused with other | none
  · simp [State.rollBusy, inside, media, still, other]
  · simp [State.rollBusy, inside, media, still, none]

theorem decideRollLoad_describes {roll media width length : Nat} {r : Roll} (named : roll? roll = some r)
    (legal : rollOperandsLegal media width length = true) (free : s.rollBusy r = false) :
    decideRollLoad roll media width length s = Answer.accept (s.describeRoll r media width length).settle := by
  simp [decideRollLoad, named, legal, free]

end

/-- Settles O46: a clear by what the survey finds, a description by the tests that it passes. -/
theorem feedClearAndRollLoadApply : Obligations.FeedClearAndRollLoadApply := by
  intro s p reported unthreaded
  refine ⟨fun takes fault => ⟨fun home free => ?_, fun home media paper inside => ?_, fun home media paper inside => ?_,
    fun home media absent => exec_feedClear_refuses takes fault (survey_mismatch home media absent),
    fun away => exec_feedClear_refuses takes fault (survey_away away)⟩,
    fun roll r media width length takes named m1 m2 w1 w2 l inside full still unused => ?_⟩
  · obtain ⟨path, on, cause, op, rolls⟩ := State.surveyed_unthreaded home free
    exact ⟨s.clearFeed, exec_feedClear_clears takes fault (by rw [path]; decide), path, on, cause, op, rolls, rfl,
      s.clearFeed_frame⟩
  · obtain ⟨path, on, cause, op, this, other⟩ := State.surveyed_threads home media inside
    rw [paper] at this
    exact ⟨s.clearFeed, exec_feedClear_clears takes fault (by rw [path]; decide), path, on, cause, op,
      this.trans (RollRec.threadedBy_media _), other, rfl, s.clearFeed_frame⟩
  · obtain ⟨path, on, cause, op, this, other⟩ := State.surveyed_threads home media inside
    rw [paper] at this
    exact ⟨s.clearFeed, exec_feedClear_clears takes fault (by rw [path]; decide), path, on, cause, op,
      this.trans (RollRec.threadedBy_no_media _), other, rfl, s.clearFeed_frame⟩
  · refine congrArg Host.Outcome.next ((s.takeWrite_takes p takes 7 _).trans ?_)
    rw [decideRollLoad_describes named (rollOperandsLegal_iff.2 ⟨⟨m1, m2⟩, ⟨w1, w2⟩, l⟩)
      (State.rollBusy_eq_false inside full (PathState.busy_eq_false still) unused), State.describeRoll, State.setRoll_reportRolls]
    rfl

end Sys2Proof.Machine
end

section
/-!
SUPPORT. The tests of a SHEET_OPEN (R100). O12 is settled from them.
-/

namespace Sys2Proof.Machine

theorem sheetOperandsLegal_iff {media width planned top bottom : Nat} :
    sheetOperandsLegal media width planned top bottom = true ↔
      media ≤ 15 ∧ (210 ≤ width ∧ width ≤ 1120) ∧ planned ≤ 30000 ∧ (3 ≤ top ∧ top ≤ 500) ∧ 3 ≤ bottom ∧ bottom ≤ 500 := by
  simp [sheetOperandsLegal, between, and_assoc]

/-- R100: an open that no test refuses appends its sheet. -/
theorem decideSheetOpen_appends {s : State} {pref media width planned top bottom dry mode : Nat} {rp : RollPref} {cm : CutMode}
    (start : s.inStart = false) (wish : rollPref? pref = some rp) (cut : cutMode? mode = some cm)
    (legal : sheetOperandsLegal media width planned top bottom = true) (place : s.sheets.queue.length < Config.sheetPlaces) :
    decideSheetOpen pref media width planned top bottom dry mode s =
      { after := (s.appendSheet rp media width planned top bottom (min dry 600) cm).settle
        code := if 600 < dry then .clamped else .accepted, value := s.sheetId } := by
  simp [decideSheetOpen, start, wish, cut, legal, not_le.2 place]

/-- Settles O12: where no test of R100 refuses the open, its sheet is appended and an examination is due. -/
theorem sheetOpenAppends : Obligations.SheetOpenAppends := by
  intro s p pref media width planned top bottom dry mode rp cm takes run wish cut type wide wider long t1 t2 b1 b2 place
  have appends := decideSheetOpen_appends (dry := dry) (State.of_inRun run).1 wish cut
    (sheetOperandsLegal_iff.2 ⟨type, ⟨wide, wider⟩, long, ⟨t1, t2⟩, b1, b2⟩) place
  refine ⟨s.appendSheet rp media width planned top bottom (min dry 600) cm, ?_, rfl, rfl, rfl, rfl,
    s.appendSheet_frame _ _ _ _ _ _ _ _⟩
  refine congrArg Host.Outcome.next ((s.takeWrite_takes p takes 13 _).trans ?_)
  rw [appends]
  rfl

end Sys2Proof.Machine
end

section
/-!
SUPPORT. How a sheet leaves with an outcome (R116), and what is cancelled with an active sheet (R75, R115). O14 is settled from it.
-/

namespace Sys2Proof.Machine

section
variable {s : State} {id : Nat} {o : SheetOutcome} {h : Sheet}

/-! ### Removal (R116) -/

/-- The entry that a sheet leaves in the outcome list. -/
def Sheet.entry (h : Sheet) (id : Nat) (o : SheetOutcome) : OutcomeEntry :=
  { id := id, outcome := o, printedMm := h.printed / 1000, ink := h.ink }

variable (s) in
/-- The sheet queue without the sheets that bear the id, and with an entry more at the young end of the outcome list. -/
def State.sheetsWithout (id : Nat) (e : OutcomeEntry) : Sheets :=
  { s.sheets with
    queue := s.sheets.queue.filter fun x => x.id != id
    outcomes := (s.sheets.outcomes ++ [e]).drop (s.sheets.outcomes.length + 1 - 4) }

theorem State.removeSheet_eq (found : s.findSheet id = some h) : s.removeSheet id o =
    ((((s.setSheets (s.sheetsWithout id (h.entry id o))).raise .sheetDone).dueExamine).when h.state.isActive
      State.dueArbiter).when (o == .done) State.countDone := by
  simp only [State.removeSheet, found, List.length_append]
  rfl

theorem State.removeSheet_sheets (found : s.findSheet id = some h) :
    (s.removeSheet id o).sheets = s.sheetsWithout id (h.entry id o) := by
  rw [State.removeSheet_eq found]
  exact (Frame.join (Frame.when _ _ State.dueArbiter_frame) (Frame.when _ _ State.countDone_frame) (cs := [.service, .due])
    (by decide) (by decide)) .sheets (by decide)

theorem State.removeSheet_latched (found : s.findSheet id = some h) : (s.removeSheet id o).Latched .sheetDone := by
  rw [State.removeSheet_eq found]
  exact (State.raise_latched _ _).of_ports ((Frame.join ((State.dueExamine_frame _).trans (Frame.when _ _ State.dueArbiter_frame))
    (Frame.when _ _ State.countDone_frame) (cs := [.service, .due]) (by decide) (by decide)) .ports (by decide))

/-- A sheet that is not DONE is not counted. -/
theorem State.removeSheet_frame_of_ne (id : Nat) (other : o ≠ .done) : Frame [.ports, .sheets, .due] s (s.removeSheet id o) := by
  cases found : s.findSheet id with
  | none =>
    rw [State.removeSheet, found]
    exact Frame.refl _ s
  | some h =>
    rw [State.removeSheet_eq found, beq_false_of_ne other]
    exact (Frame.join (s.setSheets_frame _) (State.raise_frame _ _) (cs := [.ports, .sheets]) (by decide) (by decide)).join
      ((State.dueExamine_frame _).trans (Frame.when _ _ State.dueArbiter_frame)) (by decide) (by decide)

/-- The removal of a sheet that waits makes an examination due and nothing else. -/
theorem State.removeSheet_due (found : s.findSheet id = some h) (waits : h.state.isActive = false) (other : o ≠ .done) :
    (s.removeSheet id o).due = { s.due with examine := true } := by
  rw [State.removeSheet_eq found, waits, beq_false_of_ne other]
  rfl

variable (s) in
theorem State.sheetsWithout_youngest (id : Nat) (e : OutcomeEntry) : (s.sheetsWithout id e).outcomes.getLast? = some e := by
  rw [State.sheetsWithout, List.getLast?_drop, List.getLast?_concat, if_neg]
  rw [List.length_append, List.length_singleton]
  omega

/-! ### Tickets that leave (R75) -/

variable (s) in
theorem State.removeTickets_queue (leaves : Ticket → Bool) :
    (s.removeTickets leaves).tickets.queue = s.tickets.queue.filter fun t => !leaves t := by
  unfold State.removeTickets
  dsimp only
  split
  · next none =>
    refine (List.filter_eq_self.2 fun t ht => ?_).symm
    simpa using List.filter_eq_nil_iff.1 (List.isEmpty_iff.1 none) t ht
  · have told (u : State) (b : Bool) (e : Event) : (((u.raiseIf b e).when b State.dueArbiter).duePass).tickets = u.tickets :=
      (State.raiseIf_frame u b e).join ((Frame.when _ _ State.dueArbiter_frame).trans (State.duePass_frame _)) (cs := [.ports, .due])
        (by decide) (by decide) .tickets (by decide)
    rw [told]
    rfl

variable (s id) in
theorem State.removeSheetTickets_queue : (s.removeSheetTickets id).tickets.queue =
    s.tickets.queue.filter fun t => t.sheet != id || t.state == .firing := by
  simp only [State.removeSheetTickets, State.removeTickets_queue, bne, Bool.not_and, Bool.not_not]

variable (s id) in
theorem State.removeSheetTickets_frame : Frame [.ports, .ledger, .tickets, .due] s (s.removeSheetTickets id) :=
  s.removeTickets_frame _

variable (s id) in
/-- R115: once the other tickets have left, a FIRING ticket or a feed operation of the sheet is what it waits for. -/
theorem State.removeSheetTickets_cancelWaits : (s.removeSheetTickets id).cancelWaits id =
    ((s.tickets.queue.any fun t => t.sheet == id && t.state == .firing) || s.feedRunsFor id) := by
  have feed : (s.removeSheetTickets id).feed = s.feed := s.removeSheetTickets_frame id .feed (by decide)
  rw [State.cancelWaits, State.feedRunsFor, feed, State.removeSheetTickets_queue, List.any_filter]
  congr 2
  funext t
  cases named : t.sheet == id <;> simp [bne, named]

variable (s id) in
theorem State.removeSheetTickets_sheets : (s.removeSheetTickets id).sheets = s.sheets :=
  s.removeSheetTickets_frame id .sheets (by decide)

/-! ### SHEET_CLOSE and SHEET_CANCEL (R106, R113) -/

variable {final : Nat}

theorem State.finalOutOfBounds_eq_false (low : s.committed h ≤ final * 1000)
    (high : final * 1000 ≤ s.committed h + (500 - h.bottom) * 1000) (within : h.planned = 0 ∨ final ≤ h.planned) :
    s.finalOutOfBounds h final = false := by
  simpa [State.finalOutOfBounds, low, high] using or_iff_not_imp_left.1 within

theorem decideSheetClose_closes (start : s.inStart = false) (named : 0 < id) (small : final ≤ 30000)
    (found : s.findSheet id = some h) (prints : h.state = .printing)
    (free : final = 0 ∨ h.cut = .cut ∧ s.finalOutOfBounds h final = false) :
    decideSheetClose id final s = Answer.accept (s.modSheet id fun x => { x with state := .closing, final := final }).settle := by
  have passes : ¬(0 < final ∧ (h.cut = .noCut ∨ s.finalOutOfBounds h final = true)) := by
    rcases free with rfl | ⟨cut, bounds⟩
    · simp
    · simp [cut, bounds]
  simp [decideSheetClose, start, named.ne', not_lt.2 small, found, prints, passes]

theorem decideSheetCancel_removes (start : s.inStart = false) (named : 0 < id) (found : s.findSheet id = some h)
    (waits : h.state = .queued ∨ h.state = .held) :
    decideSheetCancel id s = Answer.accept (s.removeSheet id .cancelled).settle := by
  rcases waits with state | state <;> simp [decideSheetCancel, start, named.ne', found, state]

theorem decideSheetCancel_cancels (start : s.inStart = false) (named : 0 < id) (found : s.findSheet id = some h)
    (active : h.state = .loading ∨ h.state = .printing ∨ h.state = .closing) :
    decideSheetCancel id s = Answer.accept (s.cancelSheet id .cancelled).settle := by
  rcases active with state | state | state <;> simp [decideSheetCancel, start, named.ne', found, state]

theorem exec_sheetCancel {p : Port} {u : State} (takes : s.Takes p Cmd.sheetCancel)
    (decides : decideSheetCancel id s = Answer.accept u.settle) :
    exec (.sheetCancel p id) s = .next (u.settle.replied s p 0x22 .accepted 0 1) := by
  refine congrArg Host.Outcome.next ((s.takeWrite_takes p takes 1 _).trans ?_)
  rw [decides]
  rfl

end

/-- Settles O14: a close by its tests, a cancel by the state of its sheet. -/
theorem sheetCloseAndCancelApply : Obligations.SheetCloseAndCancelApply := by
  refine ⟨fun s p id final h takes run named small found prints free => ?_, fun s p id h takes run named found waits => ?_,
    fun s p id h takes run named found active => ?_⟩
  · have closes := decideSheetClose_closes (State.of_inRun run).1 named small found prints
      (free.imp_right fun ⟨cut, low, high, within⟩ => ⟨cut, State.finalOutOfBounds_eq_false low high within⟩)
    refine ⟨s.modSheet id fun x => { x with state := .closing, final := final }, ?_, s.modSheet_queue id _, rfl, rfl,
      s.modSheet_frame id _⟩
    refine congrArg Host.Outcome.next ((s.takeWrite_takes p takes 3 _).trans ?_)
    rw [closes]
    rfl
  · have idle : h.state.isActive = false := by rcases waits with state | state <;> rw [state] <;> rfl
    have sheets := State.removeSheet_sheets (o := .cancelled) found
    exact ⟨s.removeSheet id .cancelled, exec_sheetCancel takes (decideSheetCancel_removes (State.of_inRun run).1 named found waits),
      congrArg Sheets.queue sheets, congrArg Sheets.outcomes sheets, (congrArg Sheets.nextId sheets :),
      State.removeSheet_latched found, State.removeSheet_due found idle (by decide),
      (State.removeSheet_frame_of_ne id (by decide)).mono (by decide)⟩
  · have out := s.removeSheetTickets_frame id
    have sheets := s.removeSheetTickets_sheets id
    refine ⟨s.cancelSheet id .cancelled,
      exec_sheetCancel takes (decideSheetCancel_cancels (State.of_inRun run).1 named found active), ?_⟩
    rw [State.cancelSheet, s.removeSheetTickets_cancelWaits id]
    split
    · refine ⟨s.removeSheetTickets_queue id, ⟨?_, (congrArg Sheets.outcomes sheets :)⟩,
        out.join (State.modSheet_frame _ _ _) (by decide) (by decide)⟩
      rw [State.modSheet_queue, sheets]
    · have still : (s.removeSheetTickets id).findSheet id = some h := by rw [State.findSheet, sheets]; exact found
      have left : Frame [.ports, .sheets, .due] (s.removeSheetTickets id) ((s.removeSheetTickets id).removeSheet id .cancelled) :=
        State.removeSheet_frame_of_ne id (by decide)
      refine ⟨(congrArg Admission.queue (left .tickets (by decide))).trans (s.removeSheetTickets_queue id), ⟨?_, ?_⟩,
        out.join left (by decide) (by decide)⟩
      · rw [State.removeSheet_queue, sheets]
      · rw [State.removeSheet_sheets still]
        exact State.sheetsWithout_youngest _ _ _

end Sys2Proof.Machine
end

section
/-!
SUPPORT. The end of a dry timer (R108, R111): the sheet that acts in the moment, and what it does. O15 is settled from it.
-/

namespace Sys2Proof.Machine

/-- The first element with a property, where none before it has it. -/
theorem find?_append_cons {α : Type} {p : α → Bool} {older younger : List α} {x : α} (none : ∀ y ∈ older, p y = false)
    (this : p x = true) : (older ++ x :: younger).find? p = some x := by
  rw [List.find?_append, List.find?_eq_none.2 fun y hy => by simp [none y hy], Option.none_or, List.find?_cons_of_pos this]

section
variable {s : State} {h : Sheet} {older younger : List Sheet}

/-! ### A sheet by its place -/

theorem State.findSheet_of_place (queue : s.sheets.queue = older ++ h :: younger) (alone : ∀ x ∈ older, x.id ≠ h.id) :
    s.findSheet h.id = some h := by
  rw [State.findSheet, queue]
  exact find?_append_cons (fun x hx => beq_false_of_ne (alone x hx)) (beq_self_eq_true _)

/-- A change by an id that no other sheet bears. -/
theorem State.modSheet_at_place (queue : s.sheets.queue = older ++ h :: younger) (alone : ∀ x ∈ older ++ younger, x.id ≠ h.id)
    (f : Sheet → Sheet) : (s.modSheet h.id f).sheets.queue = older ++ f h :: younger := by
  have others (l : List Sheet) (within : l ⊆ older ++ younger) : (l.map fun x => if x.id = h.id then f x else x) = l :=
    (List.map_congr_left fun x hx => if_neg (alone x (within hx))).trans l.map_id'
  rw [State.modSheet_queue, queue, List.map_append, List.map_cons, if_pos rfl, others older (List.subset_append_left _ _),
    others younger (List.subset_append_right _ _)]

/-- A removal by an id that no other sheet bears. -/
theorem State.removeSheet_at_place (queue : s.sheets.queue = older ++ h :: younger) (alone : ∀ x ∈ older ++ younger, x.id ≠ h.id)
    (o : SheetOutcome) : (s.removeSheet h.id o).sheets.queue = older ++ younger := by
  have others : (older ++ younger).filter (fun x => x.id != h.id) = older ++ younger :=
    List.filter_eq_self.2 fun x hx => by simpa using alone x hx
  rw [State.removeSheet_queue, queue, List.filter_append, List.filter_cons_of_neg (by simp), ← List.filter_append, others]

/-! ### The step of the sheet queue -/

/-- R108: where no other sheet acts, the sheet whose dry timer has run out does. -/
theorem State.sheetStep_dries (queue : s.sheets.queue = older ++ h :: younger) (run : s.inRun = true) (dries : h.state = .drying)
    (out : h.dryLeft = 0) (still : ∀ x ∈ older ++ younger, s.closingDone x = false ∧
      (x.state = .cancelling → s.cancelWaits x.id = true) ∧ (x.state = .drying → x.dryLeft ≠ 0)) :
    s.sheetStep = some (s.dryEnds h) := by
  have others {p : Sheet → Bool} (rest : ∀ x ∈ older ++ younger, p x = false) (this : p h = false) :
      s.sheets.queue.find? p = none := by
    rw [queue, List.find?_eq_none]
    intro x hx
    rcases List.mem_append.1 hx with old | young
    · simp [rest x (List.mem_append_left _ old)]
    · rcases List.mem_cons.1 young with rfl | young
      · simp [this]
      · simp [rest x (List.mem_append_right _ young)]
  have closing : s.sheets.queue.find? s.closingDone = none :=
    others (fun x hx => (still x hx).1) (by simp [State.closingDone, dries])
  have leaving : (s.sheets.queue.find? fun x => x.state == .cancelling && !s.cancelWaits x.id) = none :=
    others (fun x hx => by simpa using (still x hx).2.1) (by simp [dries])
  have drying : (s.sheets.queue.find? fun x => x.state == .drying && x.dryLeft == 0 && s.inRun) = some h := by
    rw [queue]
    refine find?_append_cons (fun x hx => ?_) (by simp [dries, out, run])
    simpa [run] using (still x (List.mem_append_left _ hx)).2.2
  rw [State.sheetStep, closing]
  dsimp only
  rw [leaving, drying]
  rfl

theorem exec_dryTimerExpiry_expires (high : s.pins.resetLow = false) (run : s.inRun = true) (found : s.findSheet h.id = some h)
    (dries : h.state = .drying) :
    exec (.dryTimerExpiry h.id) s = .next (s.modSheet h.id fun x => { x with dryLeft := 0 }).settle := by
  have expires : s.dryExpires h.id = some (s.modSheet h.id fun x => { x with dryLeft := 0 }) := by
    simp [State.dryExpires, run, found, dries]
  exact congrArg Host.Outcome.next (State.sensedSome_acts high expires)

/-- A request has the arbiter select, and makes nothing else due. -/
theorem State.request_due (w : Work) : (s.request w).due = { s.due with arbiter := true } := by
  unfold State.request
  dsimp only
  split <;> rfl

theorem State.countDone_examine : s.countDone.due.examine = s.due.examine := by
  unfold State.countDone
  split
  · rfl
  split
  · rw [State.requestCheck, State.request_due]
    rfl
  · rfl

variable (s) in
theorem State.when_examine (b : Bool) {f : State → State} (keeps : ∀ t, (f t).due.examine = t.due.examine) :
    (s.when b f).due.examine = s.due.examine := by
  cases b
  · rfl
  · exact keeps s

/-- R101, R116: the removal of a sheet makes an examination due. -/
theorem State.removeSheet_examines {id : Nat} {o : SheetOutcome} (found : s.findSheet id = some h) :
    (s.removeSheet id o).due.examine = true := by
  rw [State.removeSheet_eq found]
  exact (State.when_examine _ _ fun _ => State.countDone_examine).trans (State.when_examine _ _ fun _ => rfl)

end

/-- Settles O15: the expiry finds the sheet by its id, and the sheet queue's next step is its. -/
theorem dryTimerEnds : Obligations.DryTimerEnds := by
  intro s h older younger high run queue dries others
  have alone : ∀ x ∈ older ++ younger, x.id ≠ h.id := fun x hx => (others x hx).1
  let expired : Sheet := { h with dryLeft := 0 }
  let u := s.modSheet h.id fun x => { x with dryLeft := 0 }
  have place : u.sheets.queue = older ++ expired :: younger := State.modSheet_at_place queue alone _
  have old : ∀ x ∈ older, x.id ≠ h.id := fun x hx => alone x (List.mem_append_left _ hx)
  have step : u.sheetStep = some (u.dryEnds expired) :=
    State.sheetStep_dries place run dries rfl fun x hx => (others x hx).2
  refine ⟨u, _, exec_dryTimerExpiry_expires high run (State.findSheet_of_place queue old) dries, place, rfl, rfl,
    s.modSheet_frame _ _, step, ?_⟩
  have found : u.findSheet h.id = some expired := State.findSheet_of_place (h := expired) place old
  split
  · next cut =>
    have ends : u.dryEnds expired = u.removeSheet h.id .done := by simp [State.dryEnds, expired, cut]
    have youngest : (u.removeSheet h.id .done).sheets.outcomes.getLast? = some (expired.entry h.id .done) := by
      rw [State.removeSheet_sheets found]
      exact State.sheetsWithout_youngest _ _ _
    rw [ends]
    exact ⟨State.removeSheet_at_place (h := expired) place alone .done, youngest, State.removeSheet_latched found,
      State.removeSheet_examines found⟩
  · next cut =>
    have ends : u.dryEnds expired = u.modSheet h.id fun x => { x with state := .cutting, finish := some .tail } := by
      simp [State.dryEnds, expired, cut]
    rw [ends]
    exact State.modSheet_at_place (h := expired) place alone fun x => { x with state := .cutting, finish := some .tail }

end Sys2Proof.Machine
end

section
/-!
SUPPORT. The choice of a roll (R102, R104, R112): when a roll qualifies, when a change of its record loses it, and which roll is
chosen.
-/

namespace Sys2Proof.Machine

section
variable (s : State) (h : Sheet)

/-! ### Rolls that qualify, and rolls that are lost -/

theorem Sheet.takes_iff (x : RollRec) : h.takes x = true ↔
    (x.state = .loaded ∨ x.state = .threaded) ∧ (h.media = 0 ∨ x.media = h.media) ∧ h.width ≤ x.width := by
  simp [Sheet.takes, and_assoc]

theorem State.covers_iff (x : RollRec) : s.covers h x = true ↔ ∀ n, x.remaining = some n → s.sheetDemand h ≤ n := by
  simp [State.covers, Option.all_eq_true]

theorem State.qualifies_iff (r : Roll) : s.qualifies h r = true ↔
    h.takes (s.feed.roll.get r) = true ∧ s.covers h (s.feed.roll.get r) = true := by
  rw [State.qualifies, Bool.and_eq_true]

theorem RollRec.shorterThan_iff (x old : RollRec) : x.shorterThan old = true ↔
    ∃ n, x.remaining = some n ∧ ∀ m, old.remaining = some m → n < m := by
  simp [RollRec.shorterThan, Option.any_eq_true, Option.all_eq_true]

theorem State.lostRoll_iff (old : Two RollRec) (r : Roll) : s.lostRoll old h r = true ↔
    (h.takes (old.get r) = true ∧ ¬h.takes (s.feed.roll.get r) = true) ∨
      (¬s.covers h (s.feed.roll.get r) = true ∧ (s.feed.roll.get r).shorterThan (old.get r) = true) := by
  simp [State.lostRoll, and_comm]

/-! ### The THREADED roll -/

/-- The roll is THREADED and the other is not. -/
def Feed.ThreadsAlone (f : Feed) (r : Roll) : Prop := (f.roll.get r).state = .threaded ∧ (f.roll.get r.other).state ≠ .threaded

variable {s h} {f : Feed} {r : Roll}

theorem Feed.threaded_of_alone (alone : f.ThreadsAlone r) : f.threaded = some r := by
  obtain ⟨this, other⟩ := alone
  cases r with
  | upper => exact if_pos (beq_iff_eq.2 this)
  | lower => exact (if_neg fun upper => other (beq_iff_eq.1 upper)).trans (if_pos (beq_iff_eq.2 this))

theorem Feed.threaded_eq_none (free : ∀ r, (f.roll.get r).state ≠ .threaded) : f.threaded = none :=
  (if_neg fun upper => free .upper (beq_iff_eq.1 upper)).trans (if_neg fun lower => free .lower (beq_iff_eq.1 lower))

theorem Feed.state_of_threaded (threads : f.threaded = some r) : (f.roll.get r).state = .threaded := by
  unfold Feed.threaded at threads
  split at threads
  · next upper => cases threads; exact beq_iff_eq.1 upper
  split at threads
  · next lower => cases threads; exact beq_iff_eq.1 lower
  · cases threads

/-! ### The roll that is chosen -/

theorem State.chooseThreaded_iff : s.chooseThreaded h = some r ↔ s.feed.threaded = some r ∧ s.qualifies h r = true := by
  unfold State.chooseThreaded
  cases s.feed.threaded with
  | none => simp
  | some q => by_cases e : q = r <;> simp [e, and_comm]

theorem State.chooseThreaded_eq_none (fails : ∀ r, s.feed.threaded = some r → s.qualifies h r = false) :
    s.chooseThreaded h = none := by
  refine Option.eq_none_iff_forall_ne_some.2 fun r chosen => ?_
  obtain ⟨threads, qualifies⟩ := State.chooseThreaded_iff.1 chosen
  simp [fails r threads] at qualifies

/-- The roll that a preference puts first; ANY puts UPPER first. -/
def RollPref.Prefers (x : RollPref) (r : Roll) : Prop := x = .lower ∧ r = .lower ∨ x ≠ .lower ∧ r = .upper

/-- Both rolls are tried, the preferred one first. -/
theorem RollPref.order_find {x : RollPref} {p : Roll → Bool} (this : p r = true) (first : x.Prefers r ∨ p r.other = false) :
    x.order.find? p = some r := by
  have order : x.order = [r, r.other] ∨ ¬x.Prefers r ∧ x.order = [r.other, r] := by
    cases x <;> cases r <;> simp [RollPref.order, RollPref.Prefers, Roll.other]
  rcases order with order | ⟨later, order⟩
  · rw [order, List.find?_cons_of_pos this]
  · rw [order, List.find?_cons_of_neg (by simp [first.resolve_left later]), List.find?_cons_of_pos this]

variable (s h r) in
/-- R102: the roll qualifies, and it is THREADED, or no THREADED roll qualifies and it is the preferred one or the only one. -/
def State.Chosen : Prop := s.qualifies h r = true ∧ (s.feed.ThreadsAlone r ∨
  ((∀ q, s.feed.ThreadsAlone q → ¬s.qualifies h q = true) ∧ (s.feed.roll.get .upper).state ≠ .threaded ∧
    (s.feed.roll.get .lower).state ≠ .threaded ∧ (h.pref.Prefers r ∨ ¬s.qualifies h r.other = true)) ∨
  (s.feed.ThreadsAlone r.other ∧ ¬s.qualifies h r.other = true))

theorem State.chooseRoll_threaded (threads : s.chooseThreaded h = some r) : s.chooseRoll h = some r := by
  rw [State.chooseRoll, threads]

theorem State.chooseRoll_order (threads : s.chooseThreaded h = none) : s.chooseRoll h = h.pref.order.find? (s.qualifies h) := by
  rw [State.chooseRoll, threads]

theorem State.chooseRoll_of_chosen (chosen : s.Chosen h r) : s.chooseRoll h = some r := by
  obtain ⟨qualifies, alone | ⟨-, upper, lower, first⟩ | ⟨other, fails⟩⟩ := chosen
  · exact State.chooseRoll_threaded (State.chooseThreaded_iff.2 ⟨Feed.threaded_of_alone alone, qualifies⟩)
  · have free : s.feed.threaded = none := Feed.threaded_eq_none fun r => by cases r; exacts [upper, lower]
    rw [State.chooseRoll_order (State.chooseThreaded_eq_none (by simp [free]))]
    exact RollPref.order_find qualifies (first.imp_right eq_false_of_ne_true)
  · have fails' : s.qualifies h r.other = false := eq_false_of_ne_true fails
    rw [State.chooseRoll_order (State.chooseThreaded_eq_none (by simp [Feed.threaded_of_alone other, fails']))]
    exact RollPref.order_find qualifies (.inr fails')

theorem State.chooseRoll_eq_none (fails : ∀ r, s.qualifies h r = false) : s.chooseRoll h = none := by
  rw [State.chooseRoll_order (State.chooseThreaded_eq_none fun r _ => fails r), List.find?_eq_none]
  exact fun r _ => by simp [fails r]

end

end Sys2Proof.Machine
end

section
/-!
SUPPORT. The examination of the head sheet (R101, R112), and what a LOADING sheet asks for and chooses again (R103, R104). O13 is
settled from them and from the choice of a roll.
-/

namespace Sys2Proof.Machine

/-- The first elements that lack a property, up to one that has it. -/
theorem takeWhile_append_cons {α : Type} {p : α → Bool} {older younger : List α} {x : α} (none : ∀ y ∈ older, p y = true)
    (this : p x = false) : (older ++ x :: younger).takeWhile p = older := by
  rw [List.takeWhile_append_of_pos none, List.takeWhile_cons_of_neg (by simp [this]), List.append_nil]

theorem SheetState.waits_iff {x : SheetState} : x.waits = true ↔ x = .queued ∨ x = .held := by
  cases x <;> simp [SheetState.waits]

section
variable {s : State} {h : Sheet} {older younger : List Sheet} {r : Roll}

/-! ### The head sheet and what stands before it (R101) -/

theorem State.headSheet_at_place (queue : s.sheets.queue = older ++ h :: younger) (waits : h.state.waits = true)
    (first : ∀ x ∈ older, x.state.waits = false) : s.headSheet = some h := by
  rw [State.headSheet, queue]
  exact find?_append_cons first waits

theorem State.olderSheets_at_place (queue : s.sheets.queue = older ++ h :: younger) (waits : h.state.waits = true)
    (first : ∀ x ∈ older, x.state.waits = false) : s.olderSheets = older := by
  rw [State.olderSheets, queue]
  exact takeWhile_append_cons (fun x hx => by rw [first x hx]; rfl) (by rw [waits]; rfl)

theorem State.examinable_iff : s.examinable = true ↔ (∀ x ∈ s.sheets.queue, x.state.isActive = false) ∧
    ∀ x ∈ s.olderSheets, x.cut = .cut → x.state ≠ .drying ∧ x.state ≠ .cutting := by
  simp [State.examinable, State.sheetGap, State.activeSheet]

theorem State.olderDries_iff : s.olderDries = true ↔ ∃ x ∈ s.olderSheets, x.state = .drying := by
  simp [State.olderDries]

/-! ### The examination -/

variable (s) in
/-- The examination that was due is made. -/
def State.examined : State := s.setDue { s.due with examine := false }

variable (s h r) in
/-- The sheet becomes LOADING on the roll, in step SWAP. -/
def State.loadOn : State := s.modSheet h.id fun x => { x with state := .loading, roll := some r, loadStep := some .swap }

variable (s h) in
/-- The sheet becomes HELD. -/
def State.hold : State := (s.modSheet h.id fun x => { x with state := .held }).raise .mediaNeeded

variable (s h) in
/-- R101, R112: the roll that an examination chooses. -/
def State.examineRoll : Option Roll := if s.olderDries then s.chooseThreaded h else s.chooseRoll h

theorem State.examine_eq (due : s.due.examine = true) (head : s.headSheet = some h) :
    s.examine = some (if s.examinable then s.examined.examineSheet h else s.examined) := by
  have same : (s.setDue { s.due with examine := false }).headSheet = some h := head
  simp only [State.examine, due, same, if_true]
  rfl

theorem State.examineSheet_loads (choice : s.examineRoll h = some r) : s.examineSheet h = s.loadOn h r := by
  unfold State.examineRoll at choice
  rw [State.examineSheet, choice]
  rfl

theorem State.examineSheet_holds (choice : s.examineRoll h = none) (dries : s.olderDries = false) (queued : h.state = .queued) :
    s.examineSheet h = s.hold h := by
  unfold State.examineRoll at choice
  rw [State.examineSheet, choice]
  simp [dries, queued, State.hold]

theorem State.examineSheet_leaves (choice : s.examineRoll h = none) (stays : s.olderDries = true ∨ h.state = .held) :
    s.examineSheet h = s := by
  unfold State.examineRoll at choice
  rw [State.examineSheet, choice]
  rcases stays with dries | held
  · simp [dries]
  · simp [held]

variable (s h r) in
theorem State.examined_loadOn_frame : Frame [.sheets, .due] s (s.examined.loadOn h r) :=
  (s.setDue_frame _).join (State.modSheet_frame _ _ _) (by decide) (by decide)

theorem State.modSheet_raise_frame (s : State) (id : Nat) (f : Sheet → Sheet) (e : Event) :
    Frame [.ports, .sheets] s ((s.modSheet id f).raise e) :=
  (s.modSheet_frame id f).join (State.raise_frame _ e) (by decide) (by decide)

variable (s h) in
theorem State.examined_hold_frame : Frame [.ports, .sheets, .due] s (s.examined.hold h) :=
  (s.setDue_frame _).join (State.modSheet_raise_frame _ _ _ _) (by decide) (by decide)

/-! ### What a LOADING sheet asks for (R103) -/

theorem State.sheetAsks_loading (active : s.activeSheet = some h) (loading : h.state = .loading)
    (free : ∀ x ∈ s.sheets.queue, x.state ≠ .cutting) : s.sheetAsks = s.askLoading h := by
  have uncut : (s.sheets.queue.find? fun x => x.state == .cutting) = none :=
    List.find?_eq_none.2 fun x hx => by simpa using free x hx
  rw [State.sheetAsks, uncut]
  simp [active, loading]

theorem State.askLoading_swap (step : h.loadStep = some .swap) (roll : h.roll = some r)
    (path : s.feed.path = .idle ∨ s.feed.path = .unthreaded) : s.askLoading h = some (s.requestSwap h r) := by
  rw [State.askLoading, step, roll]
  exact if_pos (by simpa using path)

/-- R90: the roll is under the print line already. -/
theorem State.requestSwap_arrived (path : s.feed.path = .idle) (on : s.feed.pathRoll = some r)
    (threaded : (s.feed.roll.get r).state = .threaded) :
    s.requestSwap h r = s.modSheet h.id fun x => { x with loadStep := some .margin } := by
  simp [State.requestSwap, path, on, threaded]

theorem State.requestSwap_starts (other : s.feed.pathRoll ≠ some r) (loaded : (s.feed.roll.get r).state = .loaded) :
    s.requestSwap h r = s.startSwap r h.id := by
  simp [State.requestSwap, other, loaded]

/-- R90: a swap stands in UNTHREAD with media at the thread sensor, and past it without. -/
theorem State.startSwap_eq (s : State) (r : Roll) (id : Nat) : s.startSwap r id = s.startOp .swapping
    { FeedOp.new .swap .load 0 id 0 30000 with
      target := some r
      stage := some (if s.pins.thread then .unthread else if s.pins.actuator = r then .thread else .select) } := by
  have stage : swapStage s.pins r .unthread =
      some (if s.pins.thread then .unthread else if s.pins.actuator = r then .thread else .select) := by
    rw [swapStage, apply_ite some, apply_ite some]
    simp only [beq_iff_eq]
  simp only [State.startSwap, State.proceedSwap, State.startOp, State.setFeed_pins, stage]
  rfl

theorem State.askLoading_margin (step : h.loadStep = some .margin) (path : s.feed.path = .idle) (on : s.feed.pathRoll = some r)
    (threaded : (s.feed.roll.get r).state = .threaded) : s.askLoading h = some
      (s.startOp .advancing (FeedOp.new .advance .margin (h.top * 1000) h.id 0 (Config.advanceMs (h.top * 1000)))) := by
  have media : (s.feed.pathRollState == .empty) = false := by
    rw [Feed.pathRollState_eq on, threaded]
    rfl
  rw [State.askLoading, step]
  simp [path, State.requestAdvance, media]

/-! ### The roll that is chosen again (R104) -/

variable (s) in
/-- The report of changed roll records is made. -/
def State.rollsReported : State := s.setDue { s.due with rolls := none }

theorem State.rollsChanged_eq {old : Two RollRec} (due : s.due.rolls = some old) (active : s.activeSheet = some h)
    (roll : h.roll = some r) (loading : h.state = .loading) : s.rollsChanged = some
      (if h.loadStep = some .swap ∧ s.feedRunsFor h.id = false ∧ s.lostRoll old h r = true then s.rollsReported.chooseAgain h
        else s.rollsReported) := by
  have same : (s.setDue { s.due with rolls := none }).activeSheet = some h := active
  have runs : (s.setDue { s.due with rolls := none }).feedRunsFor h.id = s.feedRunsFor h.id := rfl
  have lost : (s.setDue { s.due with rolls := none }).lostRoll old h r = s.lostRoll old h r := rfl
  simp [State.rollsChanged, State.rollsReported, due, same, roll, loading, runs, lost, and_assoc]

theorem State.chooseAgain_chooses (choice : s.chooseRoll h = some r) :
    s.chooseAgain h = s.modSheet h.id fun x => { x with roll := some r, loadStep := some .swap } := by
  rw [State.chooseAgain, choice]

theorem State.chooseAgain_needs (choice : s.chooseRoll h = none) (step : h.loadStep = some .swap) :
    s.chooseAgain h = (s.modSheet h.id fun x => { x with loadStep := some .noMedia }).raise .mediaNeeded := by
  rw [State.chooseAgain, choice]
  simp [step]

end

/-- Settles O13: the choice by the tests that the rolls pass, the examination by the sheets before the head sheet, and a LOADING sheet
by its step. -/
theorem headSheetLoads : Obligations.HeadSheetLoads := by
  intro s h older younger queue takes covers qualifies lost threaded preferred chosen loads
  have takes_iff (x : RollRec) : takes x ↔ h.takes x = true := (h.takes_iff x).symm
  have covers_iff (x : RollRec) : covers x ↔ s.covers h x = true := (s.covers_iff h x).symm
  have qualifies_iff (r : Roll) : qualifies r ↔ s.qualifies h r = true := by
    rw [s.qualifies_iff, ← takes_iff, ← covers_iff]
  have lost_iff (old : Two RollRec) (r : Roll) : lost (old.get r) (s.feed.roll.get r) ↔ s.lostRoll old h r = true := by
    rw [s.lostRoll_iff, RollRec.shorterThan_iff, ← takes_iff, ← takes_iff, ← covers_iff]
  have chosen_iff (r : Roll) : chosen r ↔ s.Chosen h r := by
    simp only [State.Chosen, ← qualifies_iff]
    exact Iff.rfl
  have fails (none : ∀ r, ¬qualifies r) (r : Roll) : s.qualifies h r = false :=
    eq_false_of_ne_true fun passes => none r ((qualifies_iff r).2 passes)
  refine ⟨fun due => if_neg (by simp [due]), fun due state first => ?_, fun loading active uncut r roll => ?_⟩
  · have waits : h.state.waits = true := SheetState.waits_iff.2 state
    have first' : ∀ x ∈ older, x.state.waits = false := fun x hx =>
      eq_false_of_ne_true fun w => (SheetState.waits_iff.1 w).elim (first x hx).1 (first x hx).2
    have examine := State.examine_eq due (State.headSheet_at_place queue waits first')
    have before : s.olderSheets = older := State.olderSheets_at_place queue waits first'
    have ready_iff := before ▸ s.examinable_iff
    have dries_iff := before ▸ s.olderDries_iff
    refine ⟨fun held => ?_, fun gap uncut => ?_⟩
    · refine examine.trans (congrArg some (if_neg fun ready => ?_))
      obtain ⟨gap, uncut⟩ := ready_iff.1 ready
      rcases held with ⟨x, hx, active⟩ | ⟨x, hx, cut, state⟩
      · simp [gap x hx] at active
      · exact state.elim (uncut x hx cut).1 (uncut x hx cut).2
    have ready : s.examinable = true := ready_iff.2 ⟨gap, uncut⟩
    rw [if_pos ready] at examine
    have loaded {r : Roll} (choice : s.examineRoll h = some r) :
        ∃ u, s.examine = some u ∧ loads r u ∧ Frame [.sheets, .due] s u :=
      ⟨s.examined.loadOn h r, examine.trans (congrArg some (State.examineSheet_loads (s := s.examined) choice)),
        ⟨rfl, rfl, State.modSheet_queue _ _ _⟩, s.examined_loadOn_frame h r⟩
    have left (choice : s.examineRoll h = none) (stays : s.olderDries = true ∨ h.state = .held) :
        s.examine = some { s with due := { s.due with examine := false } } :=
      examine.trans (congrArg some (State.examineSheet_leaves (s := s.examined) choice stays))
    refine ⟨fun still => ?_, fun drying => ?_⟩
    · have dries : s.olderDries = false := eq_false_of_ne_true fun d =>
        let ⟨x, hx, e⟩ := dries_iff.1 d
        still x hx e
      have whole : s.examineRoll h = s.chooseRoll h := if_neg (by simp [dries])
      refine ⟨fun r c => loaded (whole.trans (State.chooseRoll_of_chosen ((chosen_iff r).1 c))), fun none queued => ?_,
        fun none held => left (whole.trans (State.chooseRoll_eq_none (fails none))) (.inr held)⟩
      have holds := State.examineSheet_holds (s := s.examined) (whole.trans (State.chooseRoll_eq_none (fails none))) dries queued
      exact ⟨s.examined.hold h, examine.trans (congrArg some holds), State.raise_latched _ _, State.modSheet_queue _ _ _,
        s.examined_hold_frame h⟩
    · have dries : s.olderDries = true := dries_iff.2 drying
      have alone : s.examineRoll h = s.chooseThreaded h := if_pos dries
      refine ⟨fun r threads passes => loaded (alone.trans (State.chooseThreaded_iff.2
        ⟨Feed.threaded_of_alone threads, (qualifies_iff r).1 passes⟩)), fun none => left (alone.trans ?_) (.inl dries)⟩
      exact State.chooseThreaded_eq_none fun r threads => eq_false_of_ne_true fun passes =>
        none r (Feed.state_of_threaded threads) ((qualifies_iff r).2 passes)
  · have asks : s.sheetAsks = s.askLoading h := State.sheetAsks_loading active loading uncut
    rw [asks]
    refine ⟨fun step path on threads => ?_, fun step path other ready => ?_, fun step path on threads => ?_, fun none => ?_,
      fun old due keeps => ?_, fun old due step idle loses => ?_⟩
    · rw [State.askLoading_swap step roll (.inl path), State.requestSwap_arrived path on threads]
      exact ⟨_, rfl, s.modSheet_frame _ _, s.modSheet_queue _ _⟩
    · rw [State.askLoading_swap step roll path, State.requestSwap_starts other ready, State.startSwap_eq]
      exact ⟨_, _, rfl, s.setFeed_frame _, rfl, rfl, rfl, rfl, rfl, rfl, rfl, rfl⟩
    · rw [State.askLoading_margin step path on threads]
      exact ⟨_, _, rfl, s.setFeed_frame _, rfl, rfl, rfl, rfl, rfl, rfl⟩
    · rw [State.rollsChanged, none]
    · rw [State.rollsChanged_eq due active roll loading, if_neg]
      · rfl
      rintro ⟨step, idle, loses⟩
      rcases keeps with other | runs | kept
      · exact other step
      · rw [idle] at runs
        cases runs
      · exact kept ((lost_iff old r).2 loses)
    · rw [State.rollsChanged_eq due active roll loading, if_pos ⟨step, idle, (lost_iff old r).1 loses⟩]
      refine ⟨fun q c => ?_, fun none => ?_⟩
      · rw [State.chooseAgain_chooses (s := s.rollsReported) (State.chooseRoll_of_chosen (s := s) ((chosen_iff q).1 c))]
        exact ⟨_, rfl, (s.setDue_frame _).join (State.modSheet_frame _ _ _) (by decide) (by decide), State.modSheet_queue _ _ _⟩
      · rw [State.chooseAgain_needs (s := s.rollsReported) (State.chooseRoll_eq_none (s := s) (fails none)) step]
        exact ⟨_, rfl, State.raise_latched _ _,
          (s.setDue_frame _).join (State.modSheet_raise_frame _ _ _ _) (by decide) (by decide), State.modSheet_queue _ _ _⟩

end Sys2Proof.Machine
end

section
/-!
SUPPORT. What the shared operations of the service station leave of the station, of the active item and of the latched events: an item
given back, the end of a stage, the entry into FAULT, exposures that are reset (R125, R130, R142, R148).
-/

namespace Sys2Proof.Machine

/-! ### Events stay latched -/

namespace State.Latched
variable {s : State} {e : Event}

theorem raise (h : s.Latched e) (e' : Event) : (s.raise e').Latched e := h.raiseIf true e'

theorem when (h : s.Latched e) (b : Bool) {f : State → State} (keeps : s.Latched e → (f s).Latched e) : (s.when b f).Latched e := by
  cases b
  · exact h
  · exact keeps h

theorem foldl {α : Type} (h : s.Latched e) (l : List α) {f : State → α → State}
    (keeps : ∀ t x, t.Latched e → (f t x).Latched e) : (l.foldl f s).Latched e := by
  induction l generalizing s with
  | nil => exact h
  | cons x l ih => exact ih (keeps s x h)

theorem releaseParts (h : s.Latched e) : s.releaseParts.Latched e :=
  (h.ledgerOp fun c r => { r with rv := r.rv - s.ledger.spitPart.get c - s.ledger.suctionPart.get c }).of_ports
    (State.refreshUncovered_ports _)

theorem giveBack (h : s.Latched e) : s.giveBack.Latched e := by
  unfold State.giveBack
  split
  · exact h
  · exact h.releaseParts.of_ports (State.returnItem_frame _ _ .ports (by decide))

theorem enterFault (h : s.Latched e) (why : StationCause) : (s.enterFault why).Latched e := by
  have orphaned : s.orphanSuction.Latched e := h.of_ports (s.orphanSuction_frame .ports (by decide))
  have faulted : (s.orphanSuction.setStation { s.orphanSuction.station with
      state := .fault, cause := why, move := none, order := Order.empty, capDue := false }).Latched e := orphaned.of_ports rfl
  exact (faulted.raise .stationFault).giveBack

theorem failHead (h : s.Latched e) (x : Head) : (s.failHead x).Latched e := (h.raiseIf _ .headFailed).of_ports rfl

theorem judgeCleaning (h : s.Latched e) (x : Head) (level : Nat) (o : CleanOrigin) (attempt : Nat) :
    (s.judgeCleaning x level o attempt).Latched e := by
  unfold State.judgeCleaning
  repeat' split
  · exact h
  · exact h.of_ports rfl
  · exact h.of_ports (s.requestClean_frame _ _ _ _ _ .ports (by decide))
  · exact h.failHead x
  · exact h

theorem finishItem (h : s.Latched e) (i : Item) : (s.finishItem i).Latched e := by
  have ends {t : State} (k : t.Latched e) : ((t.setService { t.service with active := none }).dueArbiter).Latched e :=
    k.of_ports rfl
  unfold State.finishItem
  cases i.work with
  | clean x level o u attempt =>
    have reset : ((s.judgeCleaning x level o attempt).resetExposure x).Latched e :=
      (h.judgeCleaning x level o attempt).of_ports (State.resetExposure_frame _ _ .ports (by decide))
    exact ends reset
  | spit m => exact ends h
  | check m => exact ends h

theorem endStage (h : s.Latched e) : s.endStage.Latched e := by
  unfold State.endStage
  split
  · exact h
  split
  · exact h.finishItem _
  · exact h.of_ports rfl

end State.Latched

section
variable (s : State)

/-! ### An item given back (R148) -/

@[simp] theorem State.giveBack_station : s.giveBack.station = s.station := s.giveBack_frame .station (by decide)

theorem State.giveBack_active : s.giveBack.service.active = none := by
  have active : s.giveBack.service.active = s.duty.giveBack.active := congrArg Duty.active s.giveBack_duty
  rw [active, Duty.giveBack]
  split
  · assumption
  · rfl

/-! ### FAULT (R130) -/

/-- Of the station the withdrawal of a suction changes the suction record alone. -/
theorem State.orphanSuction_station :
    s.orphanSuction.station = { s.station with suction := s.orphanSuction.station.suction } := by
  unfold State.orphanSuction
  repeat' split
  all_goals rfl

/-- The station in FAULT: no move, no order, nothing due; what the carriage, the exposures and the failures were stands. -/
theorem State.enterFault_station (why : StationCause) : (s.enterFault why).station =
    { s.station with
      state := .fault, cause := why, move := none, order := Order.empty, capDue := false
      suction := s.orphanSuction.station.suction } := by
  rw [State.enterFault, State.giveBack_station]
  show { s.orphanSuction.station with
    state := StationState.fault, cause := why, move := none, order := Order.empty, capDue := false } = _
  rw [s.orphanSuction_station]

theorem State.enterFault_active (why : StationCause) : (s.enterFault why).service.active = none := State.giveBack_active _

theorem State.enterFault_latched (why : StationCause) : (s.enterFault why).Latched .stationFault :=
  (State.raise_latched _ _).giveBack

/-! ### Exposures (R125) -/

/-- The station with the exposures and the flags of a mask's heads reset. -/
def Station.exposuresReset (t : Station) (m : Three Bool) : Station :=
  { t with
    exposure := Three.tab fun h => if m.get h then 0 else t.exposure.get h
    spitSent := Three.tab fun h => if m.get h then false else t.spitSent.get h
    cleanSent := Three.tab fun h => if m.get h then false else t.cleanSent.get h }

theorem State.resetExposures_station (m : Three Bool) : (s.resetExposures m).station = s.station.exposuresReset m := by
  obtain ⟨m0, m1, m2⟩ := m
  cases m0 <;> cases m1 <;> cases m2 <;> rfl

/-! ### The end of a stage (R142) -/

/-- All that the end of a stage can do to the station: a cleaning that ends with it resets the exposure of its head (R143). -/
theorem State.endStage_station : s.endStage.station = s.station ∨
    ∃ h, s.endStage.station = s.station.exposuresReset (onlyHead h) := by
  unfold State.endStage
  split
  · exact .inl rfl
  split
  · next a _ _ _ =>
    unfold State.finishItem
    cases a.item.work with
    | clean h l o u n =>
      have judged : (s.judgeCleaning h l o n).station = s.station := s.judgeCleaning_frame h l o n .station (by decide)
      refine .inr ⟨h, ?_⟩
      rw [← judged]
      cases h <;> rfl
    | spit m => exact .inl rfl
    | check m => exact .inl rfl
  · exact .inl rfl

/-- Whatever a stage's end does, the station stands but for its exposures and their flags. -/
theorem State.endStage_keeps_station {α : Type} {f : Station → α} (keeps : ∀ t m, f (t.exposuresReset m) = f t) :
    f s.endStage.station = f s.station := by
  rcases s.endStage_station with same | ⟨h, reset⟩
  · rw [same]
  · rw [reset, keeps]

variable {s} in
/-- R142: a stage that is not the item's last hands over the next. -/
theorem State.endStage_hands_over {a : ActiveItem} {g g' : Stage} {rest : List Stage} (active : s.service.active = some a)
    (stages : a.stages = g :: g' :: rest) :
    s.endStage = { s with service := { s.service with active := some { a with stages := g' :: rest } } } := by
  simp only [State.endStage, active, stages, List.tail_cons]
  rfl

end

end Sys2Proof.Machine
end

section
/-!
SUPPORT. PARK_STATE and STATION_CLEAR: what the carriage's report brings about (R118, R127), and what the sensors show when a FAULT is
cleared (R131). O22 is settled from it.
-/

namespace Sys2Proof.Machine

section
variable {s : State} {p : Port}

theorem exec_parkState {code : Nat} {u : State} (takes : s.Takes p Cmd.parkState)
    (accepts : decideParkState code s = Answer.accept u.settle) :
    exec (.parkState p code) s = .next (u.settle.replied s p 0x42 .accepted 0 1) := by
  refine congrArg Host.Outcome.next ((s.takeWrite_takes p takes 1 _).trans ?_)
  rw [accepts]
  rfl

variable (s) in
theorem State.reportParked_frame : Frame [.station] s s.reportParked :=
  (s.setStation_frame _).trans (.when _ _ State.finishOrder_frame)

/-- R118: where the carriage may be away, AWAY sets the park state alone. -/
theorem State.reportAway_sets (leaves : s.station.state = .opened ∨ s.station.state = .fault) :
    s.reportAway = s.setStation { s.station with park := .away } := by
  rcases leaves with e | e <;> simp [State.reportAway, e]

/-- R118, R130: in every other state AWAY is a fault. -/
theorem State.reportAway_faults (closed : s.station.state ≠ .opened) (sound : s.station.state ≠ .fault) :
    s.reportAway = (s.setStation { s.station with park := .away }).enterFault .awayReport := by
  unfold State.reportAway
  dsimp only
  split
  · exact absurd ‹_› closed
  · exact absurd ‹_› sound
  all_goals rfl

/-! ### STATION_CLEAR (R131) -/

/-- The state with the park switch and the park state as they are read. -/
def State.parkRead (s : State) (park : ParkState) : State :=
  (s.setPins { s.pins with parkSwitch := park }).setStation { s.station with park := park }

theorem State.parkRead_then {bs : List Block} {park : ParkState} {u : State} (f : Frame bs (s.parkRead park) u) :
    Frame (.pins :: .station :: bs) s u :=
  ((s.setPins_frame _).join (State.setStation_frame _ _) (cs := [.pins, .station]) (by decide) (by decide)).join f
    (by simp) (by simp +contextual)

theorem State.stationCleared_frame (x : StationState) : Frame [.station, .due] s (s.stationCleared x) :=
  ((s.setStation_frame _).trans (.when _ _ State.enterOpen_frame)).join (State.dueArbiter_frame _) (by decide) (by decide)

/-- R131: readings that give a state have it taken. -/
theorem exec_stationClear_clears {park : ParkState} {x : StationState} (takes : s.Takes p Cmd.stationClear)
    (fault : s.station.state = .fault) (shows : sensedStation s.pins.cap park = some x) : exec (.stationClear p park) s =
      .next (((s.parkRead park).stationCleared x).settle.replied s p 0x6A .accepted 0 0) := by
  have clears : decideStationClear park s = Answer.accept ((s.parkRead park).stationCleared x).settle := by
    simp only [decideStationClear, fault, ne_eq, not_true_eq_false, if_false, shows]
    rfl
  refine congrArg Host.Outcome.next ((s.takeWrite_takes p takes 0 _).trans ?_)
  rw [clears]
  rfl

/-- R131: readings that give none leave FAULT, with cause SENSOR. -/
theorem exec_stationClear_refuses {park : ParkState} (takes : s.Takes p Cmd.stationClear)
    (fault : s.station.state = .fault) (shows : sensedStation s.pins.cap park = none) : exec (.stationClear p park) s =
      .next (((s.parkRead park).setStation { s.station with park := park, cause := .sensor }).replied s p 0x6A
        .wrongState 0 0) := by
  have refuses : decideStationClear park s =
      Answer.refuse ((s.parkRead park).setStation { s.station with park := park, cause := .sensor }) .wrongState := by
    simp only [decideStationClear, fault, ne_eq, not_true_eq_false, if_false, shows]
    rfl
  refine congrArg Host.Outcome.next ((s.takeWrite_takes p takes 0 _).trans ?_)
  rw [refuses]
  rfl

theorem sensedStation_none {cap : CapReading} {park : ParkState} (h : cap = .between ∨ cap = .capped ∧ park = .away) :
    sensedStation cap park = none := by
  rcases h with rfl | ⟨rfl, rfl⟩ <;> rfl

end

/-- Settles O22: by the report and the station's state; a clear by what the sensors show. -/
theorem parkStateAndStationClearAct : Obligations.ParkStateAndStationClearAct := by
  refine ⟨fun s p takes => ⟨?_, fun leaves => ?_, fun closed sound => ?_⟩, fun s p park takes fault => ⟨?_, ?_, fun unread => ?_⟩⟩
  · refine ⟨s.reportParked, exec_parkState takes rfl, ?_⟩
    have frame := s.reportParked_frame
    by_cases park : s.station.order.kind = .park
    · have satisfied : s.reportParked = (s.setStation { s.station with park := .parked }).finishOrder := by
        simp [State.reportParked, park]
      rw [satisfied] at frame ⊢
      simp only [park, if_true]
      exact ⟨rfl, rfl, rfl, rfl, frame⟩
    · have other : s.reportParked = s.setStation { s.station with park := .parked } := by
        simp [State.reportParked, beq_eq_false_iff_ne.2 park]
      rw [other] at frame ⊢
      simp only [park, if_false]
      exact ⟨rfl, rfl, rfl, rfl, frame⟩
  · exact ⟨_, exec_parkState takes (congrArg (fun u : State => Answer.accept u.settle) (State.reportAway_sets leaves)), rfl,
      s.setStation_frame _⟩
  · refine ⟨_, exec_parkState takes (congrArg (fun u : State => Answer.accept u.settle) (State.reportAway_faults closed sound)), ?_⟩
    rw [State.enterFault_station]
    exact ⟨rfl, rfl, rfl, rfl, rfl, State.enterFault_active _ _, State.enterFault_latched _ _,
      (s.setStation_frame _).join (State.enterFault_frame _ _) (by decide) (by decide)⟩
  · rintro capped rfl
    exact ⟨_, exec_stationClear_clears takes fault (by rw [capped]; rfl), rfl, rfl, rfl,
      (State.parkRead_then (State.stationCleared_frame _)).mono (by decide)⟩
  · intro opened
    exact ⟨_, exec_stationClear_clears takes fault (by rw [opened]; rfl), rfl, rfl, rfl,
      (State.parkRead_then (State.stationCleared_frame _)).mono (by decide)⟩
  · refine ⟨_, exec_stationClear_refuses takes fault (sensedStation_none unread), rfl, ?_, rfl, ?_, State.modPort_others _ _ _⟩
    · rw [State.replied_reply]
    · exact (State.parkRead_then ((State.setStation_frame _ _).join (State.replied_frame _ _ _ _ _ _ _)
        (cs := [.station, .ports]) (by decide) (by decide))).mono (by decide)

end Sys2Proof.Machine
end

section
/-!
SUPPORT. How a move of cap or wiper ends, and how an order is lost: by the cap sensor (R117, R119), the wipe timer (R120), the cap move
timer (R119, R130) and the order timer (R128). O23 and O25 are settled from it.
-/

namespace Sys2Proof.Machine

section
variable {s : State} {m : Move}

/-! ### Moves -/

theorem State.capReports_capped (moves : s.station.move = some m) (caps : m.kind = .cap) :
    s.capReports .capped = some s.enterCapped := by
  simp [State.capReports, moves, caps]

theorem State.capReports_opened (moves : s.station.move = some m) (uncaps : m.kind = .uncap) :
    s.capReports .opened = some s.enterOpen := by
  simp [State.capReports, moves, uncaps]

theorem State.capReports_idle (idle : s.station.move = none) (x : CapReading) : s.capReports x = none := by
  simp [State.capReports, idle]

theorem State.capMoveExpires_faults (moves : s.station.move = some m) (caps : m.kind ≠ .wipe) :
    s.capMoveExpires = some (s.enterFault .capTimeout) := by
  simp [State.capMoveExpires, moves, caps]

theorem State.wipeExpires_ends (moves : s.station.move = some m) (wipes : m.kind = .wipe) :
    s.wipeExpires = some s.enterOpen.endStage := by
  simp [State.wipeExpires, moves, wipes]

variable (s) in
/-- R119: a CAP move that completes has every exposure reset. -/
theorem State.enterCapped_station :
    s.enterCapped.station = { s.station with state := .capped, move := none }.exposuresReset (Three.const true) :=
  State.resetExposures_station _ _

/-! ### Orders (R128) -/

/-- The failure counted and the order gone, with its event. -/
def State.orderFailed (s : State) : State :=
  (s.setStation { s.station with order := Order.empty, failures := s.station.failures + 1 }).raise .carriageTimeout

/-- The item of a lost order of origin ITEM is given back. -/
def State.orderLost (s : State) : State := s.orderFailed.when (s.station.order.origin == some .item) State.giveBack

variable (s)

theorem State.orderTimesOut_eq : s.orderTimesOut =
    s.orderLost.when (decide (3 ≤ s.station.failures + 1)) fun t => t.enterFault .orderTimeout := rfl

theorem State.orderLost_station :
    s.orderLost.station = { s.station with order := Order.empty, failures := s.station.failures + 1 } :=
  State.when_keeps _ State.station _ (State.giveBack_station _)

theorem State.orderLost_latched : s.orderLost.Latched .carriageTimeout := by
  have failed : s.orderFailed.Latched .carriageTimeout := State.raise_latched _ _
  exact failed.when _ State.Latched.giveBack

variable {s} in
theorem State.orderLost_active (item : s.station.order.origin = some .item) : s.orderLost.service.active = none := by
  rw [State.orderLost, item]
  exact State.giveBack_active _

variable {s} in
theorem State.orderTimesOut_of_few (few : s.station.failures + 1 < 3) : s.orderTimesOut = s.orderLost := by
  rw [State.orderTimesOut_eq, decide_eq_false (by omega), State.when_false]

variable {s} in
theorem State.orderTimesOut_of_third (third : 3 ≤ s.station.failures + 1) :
    s.orderTimesOut = s.orderLost.enterFault .orderTimeout := by
  rw [State.orderTimesOut_eq, decide_eq_true third, State.when_true]

end

/-- Settles O23: by the sensor's report or the timer's expiry and the kind of the move. -/
theorem movesEnd : Obligations.MovesEnd := by
  refine ⟨fun s high => ⟨fun m moves caps => ?_, fun m moves uncaps => ?_, fun idle x => ?_⟩,
    fun s m high moves => ⟨fun caps => ?_, fun wipes => ?_⟩⟩
  · refine ⟨_, State.senses (act := fun t => t.capReports .capped) high (State.capReports_capped moves caps), ?_⟩
    rw [State.enterCapped_station]
    have frame := State.enterCapped_frame (s.setPins { s.pins with cap := .capped })
    exact ⟨rfl, rfl, rfl, frame .pins (by decide), frame.of_setPins⟩
  · exact ⟨_, State.senses (act := fun t => t.capReports .opened) high (State.capReports_opened moves uncaps), rfl, rfl,
      (State.enterOpen_frame _).of_setPins⟩
  · exact State.senses_nothing (act := fun t => t.capReports x)
      (State.capReports_idle (s := s.setPins { s.pins with cap := x }) idle x)
  · refine ⟨_, congrArg Host.Outcome.next (State.sensedSome_acts high (State.capMoveExpires_faults moves caps)), ?_⟩
    rw [State.enterFault_station]
    exact ⟨rfl, rfl, rfl, rfl, State.enterFault_active _ _, State.enterFault_latched _ _, s.enterFault_frame _⟩
  · refine ⟨_, congrArg Host.Outcome.next (State.sensedSome_acts high (State.wipeExpires_ends moves wipes)),
      s.enterOpen.endStage_keeps_station fun _ _ => rfl, s.enterOpen.endStage_keeps_station fun _ _ => rfl,
      s.enterOpen.endStage_keeps_station fun _ _ => rfl, fun a g rest active stages => ?_,
      s.enterOpen_frame.join (State.endStage_frame _) (by decide) (by decide)⟩
    rw [State.endStage_hands_over (s := s.enterOpen) active stages]

/-- Settles O25: the order is lost, and at the third failure in a row the station enters FAULT. -/
theorem orderTimerCountsFailure : Obligations.OrderTimerCountsFailure := by
  intro s high stands
  have expires : s.orderExpires = some s.orderTimesOut := by simp [State.orderExpires, stands]
  refine ⟨_, congrArg Host.Outcome.next (State.sensedSome_acts high expires), ?_⟩
  have frame := s.orderTimesOut_frame
  rcases Nat.lt_or_ge (s.station.failures + 1) 3 with few | third
  · rw [State.orderTimesOut_of_few few] at frame ⊢
    rw [State.orderLost_station]
    exact ⟨rfl, rfl, s.orderLost_latched, State.orderLost_active, fun _ => ⟨rfl, rfl⟩, fun third => absurd third (by omega), frame⟩
  · rw [State.orderTimesOut_of_third third] at frame ⊢
    rw [State.enterFault_station, State.orderLost_station]
    exact ⟨rfl, rfl, s.orderLost_latched.enterFault _, fun _ => State.enterFault_active _ _, fun few => absurd few (by omega),
      fun _ => ⟨rfl, rfl, State.enterFault_latched _ _⟩, frame⟩

end Sys2Proof.Machine
end

section
/-!
SUPPORT. What waits after a request (R134 to R137), the exposure thresholds (R126, R135, R136) and the cap delay (R122). O24 is settled
from it.
-/

namespace Sys2Proof.Machine

section
variable {s : State} {h : Head}

/-! ### A request -/

/-- A request has an item waiting for it: its own, or one that it merged into. -/
theorem State.request_waits (w : Work) : ∃ i ∈ (s.request w).service.queue,
    i.work = w ∨ ∃ w' : Work, w'.mergesWith w = true ∧ i.work = w'.merge w := by
  unfold State.request
  dsimp only
  split
  · next merges =>
    obtain ⟨i, hi, hm⟩ := List.any_eq_true.1 merges
    exact ⟨_, List.mem_map_of_mem hi, .inr ⟨i.work, hm, by simp [hm]⟩⟩
  · exact ⟨_, List.mem_append_right _ (List.mem_singleton_self _), .inl rfl⟩

/-- R135: the head is in the waiting SPIT. -/
theorem State.requestSpit_waits : ∃ i ∈ (s.requestSpit h).service.queue, ∃ m, i.work = .spit m ∧ m.get h = true := by
  obtain ⟨i, hi, own | ⟨w', merges, merged⟩⟩ := s.request_waits (.spit (onlyHead h))
  · exact ⟨i, hi, _, own, by simp [onlyHead]⟩
  · cases w' with
    | spit m => exact ⟨i, hi, _, merged, by simp [maskOr, onlyHead]⟩
    | clean x l o u a => cases merges
    | check m => cases merges

/-- R136: a CLEAN of the head waits, of at least the level, and NOW. -/
theorem State.requestClean_waits (level : Nat) (origin : CleanOrigin) (attempt : Nat) (sound : s.service.failed.get h = false) :
    ∃ i ∈ (s.requestClean h level origin .now attempt).service.queue,
      ∃ l o a, i.work = .clean h l o .now a ∧ level ≤ l := by
  have taken : s.requestClean h level origin .now attempt = s.request (.clean h level origin .now attempt) := by
    simp [State.requestClean, sound]
  rw [taken]
  obtain ⟨i, hi, own | ⟨w', merges, merged⟩⟩ := s.request_waits (.clean h level origin .now attempt)
  · exact ⟨i, hi, _, _, _, own, le_rfl⟩
  · cases w' with
    | spit m => cases merges
    | clean x l o u a =>
      obtain rfl : x = h := by simpa [Work.mergesWith] using merges
      have now : u.or .now = .now := by cases u <;> rfl
      rw [Work.merge, now] at merged
      exact ⟨i, hi, _, _, _, merged, le_max_right _ _⟩
    | check m => cases merges

/-! ### Thresholds (R126) -/

/-- The exposure of the head has reached a value. -/
def State.exposed (s : State) (h : Head) (ms : Nat) : State :=
  s.setStation { s.station with exposure := s.station.exposure.set h (max ms (s.station.exposure.get h)) }

theorem State.exposureReaches_counts {ms : Nat} (run : s.inRun = true)
    (counts : s.station.state = .uncapping ∨ s.station.state = .opened ∨ s.station.state = .wiping ∨ s.station.state = .fault) :
    s.exposureReaches h ms = some (s.exposed h ms) := by
  have runs : s.exposureRuns = true := by
    rcases counts with e | e | e | e <;> simp [State.exposureRuns, run, e]
  rw [State.exposureReaches, if_pos runs]
  rfl

/-- The one head of which it holds is the first. -/
theorem Head.find?_only {p : Head → Bool} (this : p h = true) (others : ∀ h', h' ≠ h → p h' = false) :
    Head.all.find? p = some h := by
  cases found : Head.all.find? p with
  | none => exact absurd this (List.find?_eq_none.1 found h h.mem_all)
  | some x =>
    obtain rfl : x = h := by_contra fun ne => by simpa [others x ne] using List.find?_some found
    rfl

theorem State.thresholds_spit (due : s.spitDueHead h = true) (others : ∀ h', h' ≠ h → s.spitDueHead h' = false) :
    s.thresholds =
      some ((s.setStation { s.station with spitSent := s.station.spitSent.set h true }).requestSpit h) := by
  rw [State.thresholds, Head.find?_only due others]

theorem State.thresholds_clean (spits : ∀ h', s.spitDueHead h' = false) (due : s.cleanDueHead h = true)
    (others : ∀ h', h' ≠ h → s.cleanDueHead h' = false) : s.thresholds =
      some ((s.setStation { s.station with cleanSent := s.station.cleanSent.set h true }).requestClean h 2 .exposure .now 1) := by
  have noSpit : Head.all.find? s.spitDueHead = none := List.find?_eq_none.2 fun h' _ => by simp [spits h']
  rw [State.thresholds, noSpit, Head.find?_only due others]

theorem State.exposed_spitDueHead_other {h' : Head} (ms : Nat) (other : h' ≠ h) :
    (s.exposed h ms).spitDueHead h' = s.spitDueHead h' := by
  simp only [State.spitDueHead, State.exposed, State.setStation_station, Three.get_set_other _ _ _ _ other]
  rfl

theorem State.exposed_cleanDueHead_other {h' : Head} (ms : Nat) (other : h' ≠ h) :
    (s.exposed h ms).cleanDueHead h' = s.cleanDueHead h' := by
  simp only [State.cleanDueHead, State.exposed, State.setStation_station, Three.get_set_other _ _ _ _ other]
  rfl

theorem State.exposed_spitDueHead (run : s.inRun = true) (moves : s.station.state ≠ .capping)
    (unsent : s.station.spitSent.get h = false) : (s.exposed h s.interval).spitDueHead h = true := by
  have reached : s.interval ≤ (s.exposed h s.interval).station.exposure.get h := by simp [State.exposed]
  have running : (s.exposed h s.interval).inRun = true := run
  have interval : (s.exposed h s.interval).interval = s.interval := rfl
  have still : (s.exposed h s.interval).station.state ≠ .capping := moves
  have fresh : (s.exposed h s.interval).station.spitSent.get h = false := unsent
  simp [State.spitDueHead, running, interval, reached, still, fresh]

theorem State.exposed_cleanDueHead (run : s.inRun = true) (moves : s.station.state ≠ .capping)
    (unsent : s.station.cleanSent.get h = false) : (s.exposed h (4 * s.interval)).cleanDueHead h = true := by
  have reached : 4 * s.interval ≤ (s.exposed h (4 * s.interval)).station.exposure.get h := by simp [State.exposed]
  have running : (s.exposed h (4 * s.interval)).inRun = true := run
  have interval : (s.exposed h (4 * s.interval)).interval = s.interval := rfl
  have still : (s.exposed h (4 * s.interval)).station.state ≠ .capping := moves
  have fresh : (s.exposed h (4 * s.interval)).station.cleanSent.get h = false := unsent
  simp [State.cleanDueHead, running, interval, reached, still, fresh]

/-- The thresholds are the first reaction (notes/assumptions/5.md). -/
theorem State.react_of_thresholds {t : State} (acts : s.thresholds = some t) : s.react = some t := by
  simp [State.react, reactions, acts]

/-! ### The cap delay (R122) -/

theorem State.capDelayRuns_of_idle (run : s.inRun = true) (opened : s.station.state = .opened) (idle : s.service.active = none)
    (queued : ∀ t ∈ s.tickets.queue, t.state = .queued) (cleans : ∀ i ∈ s.service.queue, ∃ h l o u a, i.work = .clean h l o u a) :
    s.capDelayRuns = true := by
  have reserves : (s.tickets.queue.any fun t => t.state.reserves) = false :=
    List.any_eq_false.2 fun t ht => by simp [queued t ht, TicketState.reserves]
  have pauses : s.servicePausesCap = false := List.any_eq_false.2 fun i hi => by
    obtain ⟨h, l, o, u, a, e⟩ := cleans i hi
    simp [e, Work.isSpit, Work.isCheck]
  simp [State.capDelayRuns, run, opened, idle, reserves, pauses]

/-- R122: a delay that has run out while it counts makes cap due. -/
theorem State.capDueActs_due (runs : s.capDelayRuns = true) (out : s.station.capDelayLeft = 0) (undue : s.station.capDue = false) :
    s.capDueActs = some (s.setStation { s.station with capDue := true }) := by
  simp [State.capDueActs, runs, out, undue]

end

/-- Settles O24: the exposure at its threshold is the reaction's first find, and the expired delay the next that makes cap due. -/
theorem exposureAndCapDelayAct : Obligations.ExposureAndCapDelayAct := by
  refine ⟨fun s h high run counts => ?_, fun s high run opened idle queued cleans => ?_⟩
  · have moves : s.station.state ≠ .capping := by rcases counts with e | e | e | e <;> simp [e]
    refine ⟨⟨s.exposed h s.interval, congrArg Host.Outcome.next
        (State.sensedSome_acts (act := fun t => t.exposureReaches h t.interval) high (State.exposureReaches_counts run counts)),
        rfl, s.setStation_frame _, fun unsent still => ?_⟩,
      ⟨s.exposed h (4 * s.interval), congrArg Host.Outcome.next
        (State.sensedSome_acts (act := fun t => t.exposureReaches h (4 * t.interval)) high (State.exposureReaches_counts run counts)),
        rfl, s.setStation_frame _, fun spat unsent sound still => ?_⟩⟩
    · refine ⟨_, State.react_of_thresholds (State.thresholds_spit (State.exposed_spitDueHead run moves unsent) fun h' other =>
        (State.exposed_spitDueHead_other _ other).trans (still h' other)), ?_, State.requestSpit_waits⟩
      rw [State.requestSpit_frame _ h .station (by decide)]
      exact Three.get_set_same _ h true
    · have noSpit : ∀ h', (s.exposed h (4 * s.interval)).spitDueHead h' = false := fun h' => by
        by_cases this : h' = h
        · subst this
          have sent : (s.exposed h' (4 * s.interval)).station.spitSent.get h' = true := spat
          simp [State.spitDueHead, sent]
        · exact (State.exposed_spitDueHead_other _ this).trans (still h' this).1
      refine ⟨_, State.react_of_thresholds (State.thresholds_clean noSpit (State.exposed_cleanDueHead run moves unsent)
        fun h' other => (State.exposed_cleanDueHead_other _ other).trans (still h' other).2), ?_,
        State.requestClean_waits 2 .exposure 1 sound⟩
      rw [State.requestClean_frame _ h 2 .exposure .now 1 .station (by decide)]
      exact Three.get_set_same _ h true
  · have runs := State.capDelayRuns_of_idle run opened idle queued cleans
    refine ⟨s.setStation { s.station with capDelayLeft := 0 }, congrArg Host.Outcome.next (State.sensedSome_acts high ?_), rfl,
      s.setStation_frame _, fun undue => ⟨_, State.capDueActs_due runs rfl undue, rfl⟩⟩
    rw [State.capDelayExpires, if_pos runs]

end Sys2Proof.Machine
end

section
/-!
SUPPORT. What a spit and a suction stage settle in the ledger and leave of the station (R33, R34, R124, R125, R129). O26 is settled from
it.
-/

namespace Sys2Proof.Machine

section
variable (s : State)

/-! ### The ledger's records -/

@[simp] theorem State.refreshWaste_chan : s.refreshWaste.ledger.chan = s.ledger.chan := by simp [State.refreshWaste]

@[simp] theorem State.refreshWaste_wa : s.refreshWaste.ledger.wa = s.ledger.wa := by simp [State.refreshWaste]

variable {s} in
/-- A record that an operation of the ledger leaves alone stands as it was. -/
theorem State.ledgerOp_other {f : Channel → ChannelRec → ChannelRec} {c : Channel}
    (same : f c (s.ledger.chan.get c) = s.ledger.chan.get c) : (s.ledgerOp f).ledger.chan.get c = s.ledger.chan.get c := by
  rw [State.ledgerOp_ledger]
  exact ledgerChans_get_of_eq _ _ same

/-! ### A spit (R33) -/

/-- What the settlement of a spit makes of a channel's record. -/
def State.spitEntry (m : Three Bool) (pairs : List (Nat × Nat)) (c : Channel) (r : ChannelRec) : ChannelRec :=
  if m.get c.head then
    { r with
      rv := r.rv - s.ledger.spitPart.get c, level := r.level - ((s.debits pairs).get c).1, carry := ((s.debits pairs).get c).2 }
  else r

theorem State.settleSpit_chan (m : Three Bool) (pairs : List (Nat × Nat)) :
    (s.settleSpit m pairs).ledger.chan = (s.ledgerOp (s.spitEntry m pairs)).ledger.chan :=
  State.refreshWaste_chan _

theorem State.settleSpit_wa (m : Three Bool) (pairs : List (Nat × Nat)) : (s.settleSpit m pairs).ledger.wa =
    s.ledger.wa + (Channel.all.map fun c => if m.get c.head then ((s.debits pairs).get c).1 else 0).sum := by
  simp only [State.settleSpit, State.refreshWaste_wa, State.setLedger_ledger, State.ledgerOp_ledger, Six.get_map]
  rfl

/-- R129, R125: the station after a spit, but for the end of its stage. -/
def Station.spat (t : Station) : Station := { t.exposuresReset t.order.mask with order := Order.empty, failures := 0 }

/-- The state after a spit, but for the end of its stage. -/
def State.spatOut (pairs : List (Nat × Nat)) : State :=
  ((s.settleSpit s.station.order.mask pairs).resetExposures s.station.order.mask).finishOrder

theorem State.spatOut_station (pairs : List (Nat × Nat)) : (s.spatOut pairs).station = s.station.spat := by
  have settled : (s.settleSpit s.station.order.mask pairs).station = s.station := s.settleSpit_frame _ _ .station (by decide)
  show { ((s.settleSpit s.station.order.mask pairs).resetExposures s.station.order.mask).station with
    order := Order.empty, failures := 0 } = _
  rw [State.resetExposures_station, settled]
  rfl

theorem State.spitDone_eq (pairs : List (Nat × Nat)) : s.spitDone pairs = (s.spatOut pairs).endStage := rfl

theorem State.spatOut_frame (pairs : List (Nat × Nat)) : Frame [.ports, .ledger, .supply, .station, .service, .due] s
    (s.spatOut pairs) :=
  ((s.settleSpit_frame _ _).join (State.resetExposures_frame _ _) (cs := [.ports, .ledger, .supply, .station, .service, .due])
    (by decide) (by decide)).join (State.finishOrder_frame _) (by decide) (by decide)

theorem State.spitDone_frame (pairs : List (Nat × Nat)) : Frame [.ports, .ledger, .supply, .station, .service, .due] s
    (s.spitDone pairs) :=
  (s.spatOut_frame pairs).join (State.endStage_frame _) (by decide) (by decide)

theorem State.spitDone_ledger (pairs : List (Nat × Nat)) :
    (s.spitDone pairs).ledger = (s.settleSpit s.station.order.mask pairs).ledger :=
  ((State.resetExposures_frame (s.settleSpit s.station.order.mask pairs) s.station.order.mask).join (State.finishOrder_frame _)
    (cs := [.station, .service]) (by decide) (by decide)).join (State.endStage_frame _) (cs := [.ports, .station, .service, .due])
    (by decide) (by decide) .ledger (by decide)

/-- R125: the heads of the order have no exposure left, and no request sent. -/
theorem State.spitDone_exposure (pairs : List (Nat × Nat)) {h : Head} (spits : s.station.order.mask.get h = true) :
    (s.spitDone pairs).station.exposure.get h = 0 ∧ (s.spitDone pairs).station.spitSent.get h = false := by
  rw [s.spitDone_eq]
  rcases (s.spatOut pairs).endStage_station with same | ⟨x, reset⟩
  · simp [same, s.spatOut_station, Station.spat, Station.exposuresReset, spits]
  · simp [reset, s.spatOut_station, Station.spat, Station.exposuresReset, spits]

/-- R129: the order is over, and no failure counts. -/
theorem State.spitDone_order (pairs : List (Nat × Nat)) :
    (s.spitDone pairs).station.order = Order.empty ∧ (s.spitDone pairs).station.failures = 0 := by
  have keeps {α : Type} {f : Station → α} (k : ∀ t m, f (t.exposuresReset m) = f t) :
      f (s.spitDone pairs).station = f s.station.spat := by
    rw [s.spitDone_eq, State.endStage_keeps_station _ k, s.spatOut_station]
  exact ⟨keeps fun _ _ => rfl, keeps fun _ _ => rfl⟩

/-- R129: an accepted report of a spit is settled. -/
theorem exec_orderDone_spit {s : State} {p : Port} {count : Nat} {pairs : List (Nat × Nat)} (takes : s.Takes p Cmd.orderDone)
    (run : s.inRun = true) (legal : pairsLegal count pairs = true) (order : s.station.order.kind = .spit)
    (inside : namesOutside s.station.order.mask (pairs.map Prod.fst) = false) : exec (.orderDone p 1 count pairs []) s =
      .next ((s.spitDone pairs).settle.replied s p 0x44 .accepted 0 (2 + 5 * pairs.length)) := by
  have accepts : decideOrderDone 1 count pairs [] s = Answer.accept (s.spitDone pairs).settle := by
    simp [decideOrderDone, (State.of_inRun run).1, decideSpitDone, spitLegal, legal, order, inside]
  refine congrArg Host.Outcome.next ((s.takeWrite_takes p takes _ _).trans ?_)
  rw [accepts]
  rfl

/-! ### A suction stage (R34) -/

/-- What the settlement of a suction stage that is the station's own makes of a channel's record. -/
def State.suctionEntry (r : SuctionRun) (c : Channel) (x : ChannelRec) : ChannelRec :=
  if c.head = r.head then
    { x with rv := x.rv - s.ledger.suctionPart.get c, level := x.level - Config.suctionVolume r.level }
  else x

theorem State.settleSuction_chan (r : SuctionRun) :
    (s.settleSuction r.head r.level true).ledger.chan = (s.ledgerOp (s.suctionEntry r)).ledger.chan := by
  have entry : s.suctionEntry r = fun c x => if c.head == r.head then
      { x with
        rv := x.rv - (if true && c.head == r.head then s.ledger.suctionPart.get c else 0)
        level := x.level - Config.suctionVolume r.level }
      else x := by
    funext c x
    by_cases at_ : c.head = r.head <;> simp [State.suctionEntry, at_]
  rw [entry]
  simp only [State.settleSuction, State.refreshWaste_chan, State.setLedger_ledger, Six.get_tab]

theorem State.settleSuction_wa (r : SuctionRun) :
    (s.settleSuction r.head r.level true).ledger.wa = s.ledger.wa + 2 * Config.suctionVolume r.level := by
  simp only [State.settleSuction, State.refreshWaste_wa, State.setLedger_ledger, State.ledgerOp_ledger]

/-- The ledger and the pump after a suction stage. -/
def State.suctionSettled (r : SuctionRun) : State := (s.setPump .free).settleSuction r.head r.level true

/-- R124: the station is CAPPED with the suction over, but for the end of its stage. -/
def State.suctionOver (r : SuctionRun) : State :=
  (s.suctionSettled r).setStation { (s.suctionSettled r).station with suction := none, state := .capped }

/-- Of two updates of the station the second stands. -/
theorem State.setStation_setStation (x y : Station) : (s.setStation x).setStation y = s.setStation y := rfl

theorem State.suctionOver_station (r : SuctionRun) :
    (s.suctionOver r).station = { s.station with suction := none, state := .capped } := by
  have settled : (s.suctionSettled r).station = s.station := State.settleSuction_frame _ _ _ _ .station (by decide)
  show { (s.suctionSettled r).station with suction := none, state := .capped } = _
  rw [settled]

section
variable {s} {r : SuctionRun} (owned : r.orphan = false)
include owned

theorem State.endSuction_owned : s.endSuction r = (s.suctionOver r).endStage := by
  simp only [State.endSuction, owned, State.setStation_setStation, State.setStation_station]
  rfl

theorem State.endSuction_ledger : (s.endSuction r).ledger = (s.suctionSettled r).ledger := by
  have ends : (s.suctionOver r).endStage.ledger = (s.suctionOver r).ledger := State.endStage_frame _ .ledger (by decide)
  rw [State.endSuction_owned owned, ends, State.suctionOver, State.setStation_ledger]

theorem State.endSuction_manifold : (s.endSuction r).manifold = { s.manifold with pump := .free } := by
  have settled : (s.suctionSettled r).manifold = { s.manifold with pump := .free } :=
    State.settleSuction_frame _ _ _ _ .manifold (by decide)
  have ends : (s.suctionOver r).endStage.manifold = (s.suctionOver r).manifold := State.endStage_frame _ .manifold (by decide)
  rw [State.endSuction_owned owned, ends, State.suctionOver, State.setStation_manifold, settled]

theorem State.endSuction_keeps_station {α : Type} {f : Station → α} (keeps : ∀ t m, f (t.exposuresReset m) = f t) :
    f (s.endSuction r).station = f { s.station with suction := none, state := .capped } := by
  rw [State.endSuction_owned owned, State.endStage_keeps_station _ keeps, s.suctionOver_station]

end

end

/-- Settles O26: the ledger's entries channel by channel, and the station's part with what the end of the stage leaves of it. -/
theorem spitsAndSuctionsSettle : Obligations.SpitsAndSuctionsSettle := by
  refine ⟨fun s p count pairs takes run legal order inside => ?_, fun s r high pump owned => ?_⟩
  · refine ⟨_, exec_orderDone_spit takes run legal order inside, fun c => ?_, ?_, fun h spits => s.spitDone_exposure pairs spits,
      (s.spitDone_order pairs).1, (s.spitDone_order pairs).2, s.spitDone_frame pairs⟩
    · intro r d
      have debit : (s.debits pairs).get c = d := s.debits_get pairs c
      rw [s.spitDone_ledger, s.settleSpit_chan]
      split
      · next spits =>
        obtain ⟨x, record⟩ := s.ledgerOp_record (s.spitEntry s.station.order.mask pairs) c
        rw [record, State.spitEntry, if_pos spits, debit]
        exact ⟨rfl, rfl, rfl, rfl⟩
      · next other => exact State.ledgerOp_other (if_neg other)
    · rw [s.spitDone_ledger, s.settleSpit_wa]
      simp only [s.debits_get]
  · have ends : s.suctionExpires = some (s.endSuction r) := by rw [State.suctionExpires, pump]
    refine ⟨_, congrArg Host.Outcome.next (State.sensedSome_acts high ends), State.endSuction_manifold owned, fun c => ?_, ?_,
      State.endSuction_keeps_station owned fun _ _ => rfl, State.endSuction_keeps_station owned fun _ _ => rfl,
      State.endSuction_keeps_station owned fun _ _ => rfl, s.endSuction_frame r⟩
    · intro x
      rw [State.endSuction_ledger owned, State.suctionSettled, State.settleSuction_chan]
      split
      · next serves =>
        obtain ⟨y, record⟩ := (s.setPump .free).ledgerOp_record ((s.setPump .free).suctionEntry r) c
        rw [record, State.suctionEntry, if_pos serves]
        exact ⟨rfl, rfl, rfl, rfl⟩
      · next other => exact State.ledgerOp_other (s := s.setPump .free) (if_neg other)
    · rw [State.endSuction_ledger owned, State.suctionSettled, State.settleSuction_wa]
      rfl

end Sys2Proof.Machine
end

section
/-!
SUPPORT. A check's reports as one change of the nozzle tables (R144, R153, R160), which the requests that follow it leave alone. O27 is
settled from it.
-/

namespace Sys2Proof.Machine

section
variable (s : State) (reports : List CheckReport)

/-! ### The change of the tables -/

/-- The tables that an accepted check leaves (R153). -/
def State.checked : Six NozzleRec :=
  finishReports (applyReports s.nozzles.chan reports) reports (s.checkContext.any fun x => x.1 == 3)

variable {s reports} in
/-- R153: a channel that is not reported keeps its table. -/
theorem State.checked_unreported {c : Channel} (unnamed : ∀ r ∈ reports, r.channel ≠ c.toNat) :
    (s.checked reports).get c = s.nozzles.chan.get c := by
  have absent : reportOf reports c = none := List.find?_eq_none.2 fun r hr => by simpa using unnamed r hr
  simp [State.checked, finishReports, applyReports, absent]

variable {s reports} in
/-- R153: a channel's report is applied, then its candidates retire after a level-3 cleaning, then it is graded. -/
theorem State.checked_reported {c : Channel} {r : CheckReport} (named : reportOf reports c = some r) :
    (s.checked reports).get c =
      (let x := (s.nozzles.chan.get c).applyReport r.missing (r.overflow == 1)
       if s.checkContext.any (fun k => k.1 == 3) then x.retire.regrade else x.regrade) := by
  simp only [State.checked, finishReports, applyReports, Six.get_tab, named]
  split <;> rfl

/-- R160: the tables are put in place whole, and the generation counts a change of a list or flag. -/
theorem State.putNozzles_nozzles (new : Six NozzleRec) : (s.putNozzles new).nozzles =
    { chan := new, generation := if nozzlesChanged s.nozzles.chan new then (s.nozzles.generation + 1) % 65536
        else s.nozzles.generation } :=
  State.raiseIf_frame _ _ _ .nozzles (by decide)

variable {s} in
theorem State.putNozzles_latched {new : Six NozzleRec} (changed : nozzlesChanged s.nozzles.chan new = true) :
    (s.putNozzles new).Latched .nozzleTableChanged := by
  rw [State.putNozzles, changed]
  exact State.raise_latched _ _

/-! ### What follows it -/

/-- The heads that a check of a level-3 cleaning fails, where a channel's retired list has no room (R157). -/
def State.checkFails (h : Head) : Bool :=
  (s.checkContext.any fun x => x.1 == 3) && s.checkContext.any (fun x => x.2 != .panel) &&
    headExhausted (applyReports s.nozzles.chan reports) reports h

/-- The tables changed, and the heads that this fails failed. -/
def State.checkJudged : State :=
  Head.all.foldl (fun t h => t.when (s.checkFails reports h) fun u => u.failHead h) (s.putNozzles (s.checked reports))

/-- R153, R159: after the change of the tables heads are failed, and a check of its own asks for cleanings. -/
theorem State.applyCheck_eq : s.applyCheck reports = match s.checkContext with
    | some _ => s.checkJudged reports
    | none => (Channel.all.filter fun c => (reportOf reports c).isSome).foldl State.healthRequest (s.checkJudged reports) := by
  rfl

theorem State.checkJudged_frame : Frame [.ports, .service] (s.putNozzles (s.checked reports)) (s.checkJudged reports) :=
  Frame.foldl _ _ (fun _ _ => Frame.when _ _ fun u => u.failHead_frame _) _

/-- The tables are changed once. -/
theorem State.applyCheck_nozzles : (s.applyCheck reports).nozzles = (s.putNozzles (s.checked reports)).nozzles := by
  have judged : (s.checkJudged reports).nozzles = (s.putNozzles (s.checked reports)).nozzles :=
    s.checkJudged_frame reports .nozzles (by decide)
  rw [s.applyCheck_eq]
  split
  · exact judged
  · exact (Frame.foldl _ _ State.healthRequest_frame _ .nozzles (by decide)).trans judged

variable {s reports} in
theorem State.applyCheck_latched (changed : nozzlesChanged s.nozzles.chan (s.checked reports) = true) :
    (s.applyCheck reports).Latched .nozzleTableChanged := by
  have judged : (s.checkJudged reports).Latched .nozzleTableChanged :=
    (State.putNozzles_latched changed).foldl _ fun t h k => k.when _ fun k => k.failHead h
  rw [s.applyCheck_eq]
  split
  · exact judged
  · exact judged.of_ports (Frame.foldl _ _ State.healthRequest_frame _ .ports (by decide))

/-! ### The end of the order -/

/-- The state after a check, but for the end of its stage. -/
def State.checkOver : State := (s.applyCheck reports).finishOrder

theorem State.checkDone_eq : s.checkDone reports = (s.checkOver reports).endStage := rfl

theorem State.checkOver_station :
    (s.checkOver reports).station = { s.station with order := Order.empty, failures := 0 } := by
  have kept : (s.applyCheck reports).station = s.station := s.applyCheck_frame reports .station (by decide)
  rw [← kept]
  rfl

theorem State.checkDone_frame : Frame [.ports, .station, .service, .nozzles, .due] s (s.checkDone reports) :=
  ((s.applyCheck_frame reports).join (State.finishOrder_frame _) (cs := [.ports, .station, .service, .nozzles, .due])
    (by decide) (by decide)).join (State.endStage_frame _) (by decide) (by decide)

theorem State.checkDone_nozzles : (s.checkDone reports).nozzles = (s.putNozzles (s.checked reports)).nozzles :=
  ((s.checkOver reports).endStage_frame .nozzles (by decide)).trans (s.applyCheck_nozzles reports)

/-- R129: an accepted report of a check is applied. -/
theorem exec_orderDone_check {s : State} {p : Port} {count : Nat} {reports : List CheckReport} (takes : s.Takes p Cmd.orderDone)
    (run : s.inRun = true) (legal : checkLegal count reports = true) (order : s.station.order.kind = .check)
    (inside : namesOutside s.station.order.mask (reports.map CheckReport.channel) = false)
    (complete : checkIncomplete s.station.order.mask reports = false) : exec (.orderDone p 2 count [] reports) s =
      .next ((s.checkDone reports).settle.replied s p 0x44 .accepted 0
        (2 + (reports.map fun r => 3 + 2 * r.missing.length).sum)) := by
  have accepts : decideOrderDone 2 count [] reports s = Answer.accept (s.checkDone reports).settle := by
    simp [decideOrderDone, (State.of_inRun run).1, decideCheckDone, legal, order, inside, complete]
  refine congrArg Host.Outcome.next ((s.takeWrite_takes p takes _ _).trans ?_)
  rw [accepts]
  rfl

end

/-- Settles O27: the tables that `State.checked` gives are put in place once, and the order ends. -/
theorem orderDoneAppliesCheck : Obligations.OrderDoneAppliesCheck := by
  intro s p count reports takes run legal order inside complete
  refine ⟨_, exec_orderDone_check takes run legal order inside complete, ?_⟩
  have station {α : Type} {f : Station → α} (keeps : ∀ t m, f (t.exposuresReset m) = f t) :
      f (s.checkDone reports).station = f { s.station with order := Order.empty, failures := 0 } := by
    rw [s.checkDone_eq, State.endStage_keeps_station _ keeps, s.checkOver_station]
  rw [s.checkDone_nozzles, s.putNozzles_nozzles]
  refine ⟨fun c unnamed => State.checked_unreported unnamed, fun c r named => State.checked_reported named, rfl,
    fun changed => ?_, station fun _ _ => rfl, station fun _ _ => rfl, station fun _ _ => rfl, s.checkDone_frame reports⟩
  have finished : (s.checkOver reports).Latched .nozzleTableChanged := (State.applyCheck_latched changed).of_ports rfl
  exact finished.endStage

end Sys2Proof.Machine
end

section
/-!
SUPPORT. The stage driver (R123, R124, R127, R142), stage by stage: what a stage needs and how it is brought about, by a PARK order, by
a move, by an order of the item, or by a suction that is asked for. O30 is settled from it.
-/

namespace Sys2Proof.Machine

section
variable {s : State}

/-! ### What is brought about -/

theorem State.bringParked_places (free : s.station.order.kind = .none) : s.bringParked = some (s.placePark .item) := by
  simp [State.bringParked, free]

theorem State.bringMove_moves {mv : State → State} (parked : s.station.park = .parked) : s.bringMove mv = some (mv s) := by
  simp [State.bringMove, parked]

theorem State.bringMove_parks {mv : State → State} (away : s.station.park = .away) (free : s.station.order.kind = .none) :
    s.bringMove mv = some (s.placePark .item) := by
  simp [State.bringMove, away, State.bringParked_places free]

/-- R119: a CAP move starts where the sensor does not show its end. -/
theorem State.startCap_moves (uncapped : s.pins.cap ≠ .capped) : s.startCap = s.startMove .cap .capping Config.capMoveMs := by
  rw [State.startCap, beq_eq_false_iff_ne.2 uncapped, State.when_false]

/-- R119: an UNCAP move starts where the sensor does not show its end. -/
theorem State.startUncap_moves (closed : s.pins.cap ≠ .opened) :
    s.startUncap = s.startMove .uncap .uncapping Config.capMoveMs := by
  rw [State.startUncap, beq_eq_false_iff_ne.2 closed, State.when_false]

/-! ### The driver -/

section
variable {a : ActiveItem} {g : Stage} {rest : List Stage} (active : s.service.active = some a) (stages : a.stages = g :: rest)
include active stages

theorem State.driveStage_rests (stopped : s.inRun = false ∨ s.station.move ≠ none ∨ s.station.state = .fault) :
    s.driveStage = none := by
  have stays : (s.inRun && s.station.move.isNone && s.station.state != .fault) = false := by
    rcases stopped with run | moves | fault
    · simp [run]
    · simp [Option.isNone_eq_false_iff.2 (Option.isSome_iff_ne_none.2 moves)]
    · simp [fault]
  simp [State.driveStage, active, stages, stays]

theorem State.driveStage_does (run : s.inRun = true) (still : s.station.move = none) (sound : s.station.state ≠ .fault) :
    s.driveStage = s.doStage a.item.work g := by
  simp [State.driveStage, active, stages, run, still, sound]

end

/-! ### The stages (R123, R124) -/

variable {w : Work} {g : Stage}

/-- The stages that a CAPPED or OPEN station with the carriage parked brings about by a CAP move. -/
theorem State.doStage_caps (needs : g = .cap ∨ g = .suction) (opened : s.station.state = .opened) :
    s.doStage w g = s.bringMove State.startCap := by
  rcases needs with rfl | rfl <;> simp [State.doStage, opened]

theorem State.doStage_uncaps (needs : g = .uncap ∨ g = .wipe ∨ g = .spit ∨ g = .check) (capped : s.station.state = .capped) :
    s.doStage w g = s.bringMove State.startUncap := by
  rcases needs with rfl | rfl | rfl | rfl <;> simp [State.doStage, State.placeStageOrder, capped]

theorem State.doStage_wipes (opened : s.station.state = .opened) : s.doStage w .wipe = s.bringMove State.startWipe := by
  simp [State.doStage, opened]

/-- A stage whose need holds and that is no more than its need ends at once. -/
theorem State.doStage_ends (holds : g = .park ∧ s.station.park = .parked ∨ g = .cap ∧ s.station.state = .capped ∨
    g = .uncap ∧ s.station.state = .opened) : s.doStage w g = some s.endStage := by
  rcases holds with ⟨rfl, e⟩ | ⟨rfl, e⟩ | ⟨rfl, e⟩ <;> simp [State.doStage, e]

/-- With the carriage away, a PARK order comes before the stages that need it parked. -/
theorem State.doStage_parks (needs : g = .park ∨ (g = .cap ∨ g = .wipe ∨ g = .suction) ∧ s.station.state = .opened)
    (away : s.station.park = .away) (free : s.station.order.kind = .none) : s.doStage w g = some (s.placePark .item) := by
  rcases needs with rfl | ⟨rfl | rfl | rfl, opened⟩
  · simp [State.doStage, away, State.bringParked_places free]
  · rw [State.doStage_caps (.inl rfl) opened, State.bringMove_parks away free]
  · rw [State.doStage_wipes opened, State.bringMove_parks away free]
  · rw [State.doStage_caps (.inr rfl) opened, State.bringMove_parks away free]

theorem State.doStage_orders_spit (opened : s.station.state = .opened) (free : s.station.order.kind = .none) :
    s.doStage w .spit = some (s.placeOrder .spit w.heads s.params.spitDrops .item) := by
  simp [State.doStage, State.placeStageOrder, opened, free]

theorem State.doStage_orders_check (opened : s.station.state = .opened) (free : s.station.order.kind = .none) :
    s.doStage w .check = some (s.placeOrder .check w.heads 0 .item) := by
  simp [State.doStage, State.placeStageOrder, opened, free]

theorem State.doStage_asks_suction {h : Head} {l n : Nat} {o : CleanOrigin} {x : Urgency} (capped : s.station.state = .capped)
    (idle : s.station.suction = none) : s.doStage (.clean h l o x n) .suction = some (s.askSuction h l) := by
  simp [State.doStage, capped, idle]

variable (s)

/-- R124: the station at its SUCTION stage, before the manifold is asked. -/
def State.suctionAsked (h : Head) (l : Nat) : State := s.setStation { s.station with
  state := .suction, suction := some { head := h, level := l, running := false } }

theorem State.askSuction_eq (h : Head) (l : Nat) : s.askSuction h l = (s.suctionAsked h l).requestSuction h l := rfl

/-- R124: what a suction that is asked for leaves of the station and the manifold. -/
theorem State.askSuction_record (h : Head) (l : Nat) :
    (s.askSuction h l).station = { s.station with
      state := .suction, suction := some { head := h, level := l, running := false } } ∧
    (s.askSuction h l).manifold.request = some { head := h, level := l } ∧
    (s.askSuction h l).manifold.pump = s.manifold.pump ∧ Frame [.manifold, .station] s (s.askSuction h l) := by
  have frame := (s.suctionAsked h l).requestSuction_frame h l
  obtain ⟨request, pump, -, -⟩ := (s.suctionAsked h l).requestSuction_record .ch0 h l
  rw [s.askSuction_eq]
  exact ⟨frame .station (by decide), request, pump, (s.setStation_frame _).join frame (by decide) (by decide)⟩

end

/-- Settles O30: stage by stage, by what the stage needs and what the station and the carriage are. -/
theorem stagesAreDriven : Obligations.StagesAreDriven := by
  intro s a g rest active stages ended ordered moving
  have placed (k : OrderKind) (m : Three Bool) (drops : Nat) : ordered k m drops (s.placeOrder k m drops .item) :=
    ⟨rfl, State.raise_latched _ _, s.placeOrder_frame _ _ _ _⟩
  refine ⟨State.driveStage_rests active stages, fun run still sound => ?_, fun more => ?_⟩
  · rw [State.driveStage_does active stages run still sound]
    refine ⟨fun park parked => ⟨_, State.doStage_ends (.inl ⟨park, parked⟩), rfl⟩,
      fun cap capped => ⟨_, State.doStage_ends (.inr (.inl ⟨cap, capped⟩)), rfl⟩,
      fun uncap opened => ⟨_, State.doStage_ends (.inr (.inr ⟨uncap, opened⟩)), rfl⟩,
      fun needs away free => ⟨_, State.doStage_parks needs away free, placed _ _ _⟩, fun needs opened parked uncapped => ?_,
      fun needs capped parked closed => ?_, ?_, ?_, ?_, ?_⟩
    · rw [State.doStage_caps needs opened, State.bringMove_moves parked, State.startCap_moves uncapped]
      exact ⟨_, rfl, rfl⟩
    · rw [State.doStage_uncaps needs capped, State.bringMove_moves parked, State.startUncap_moves closed]
      exact ⟨_, rfl, rfl⟩
    · rintro rfl opened parked
      rw [State.doStage_wipes opened, State.bringMove_moves parked]
      exact ⟨_, rfl, rfl⟩
    · rintro rfl capped idle h l o x n work
      rw [work, State.doStage_asks_suction capped idle]
      exact ⟨_, rfl, s.askSuction_record h l⟩
    · rintro rfl opened free
      exact ⟨_, State.doStage_orders_spit opened free, placed _ _ _⟩
    · rintro rfl opened free
      exact ⟨_, State.doStage_orders_check opened free, placed _ _ _⟩
  · obtain ⟨g', rest, rfl⟩ := List.exists_cons_of_ne_nil more
    exact State.endStage_hands_over active stages

end Sys2Proof.Machine
end

section
/-!
SUPPORT. CLEAN_ASK (R138): what its requests leave waiting, whatever they merge into (R136, R137). O28 is settled from it.
-/

namespace Sys2Proof.Machine

/-- What one member of the list brings about, and no member takes away, holds after the fold. -/
theorem foldl_brings {α : Type} {P : State → Prop} {f : State → α → State} {l : List α} {x : α} (mem : x ∈ l)
    (brings : ∀ t, P (f t x)) (keeps : ∀ t y, P t → P (f t y)) (s : State) : P (l.foldl f s) := by
  induction l generalizing s with
  | nil => cases mem
  | cons y l ih =>
    rcases List.mem_cons.1 mem with rfl | later
    · exact List.foldlRecOn l f (brings s) fun t h z _ => keeps t z h
    · exact ih later (f s y)

section
variable {s : State}

/-! ### A request and what waits -/

/-- An item that waits goes on waiting, merged with the request where the two merge. -/
theorem State.request_holds {i : Item} (waits : i ∈ s.service.queue) (w : Work) :
    { i with work := if i.work.mergesWith w then i.work.merge w else i.work } ∈ (s.request w).service.queue := by
  have image : { i with work := if i.work.mergesWith w then i.work.merge w else i.work } =
      if i.work.mergesWith w then { i with work := i.work.merge w } else i := by split <;> rfl
  rw [image]
  unfold State.request
  dsimp only
  split
  · exact List.mem_map_of_mem (f := fun i => if i.work.mergesWith w then { i with work := i.work.merge w } else i) waits
  · next none =>
    have apart : i.work.mergesWith w = false := by
      simpa using (List.any_eq_false.1 (Bool.eq_false_iff.2 none)) i waits
    rw [apart]
    exact List.mem_append_left _ waits

/-- A request changes neither the active item nor the FAILED marks, and a selection is due. -/
theorem State.request_rest (w : Work) : (s.request w).service.active = s.service.active ∧
    (s.request w).service.failed = s.service.failed ∧ (s.request w).due.arbiter = true := by
  unfold State.request
  dsimp only
  split <;> exact ⟨rfl, rfl, rfl⟩

/-- R137: a CHECK of the mask waits. -/
theorem State.requestCheck_waits (m : Three Bool) : ∃ i ∈ (s.requestCheck m).service.queue, ∃ m', i.work = .check m' ∧
    ∀ h, m.get h = true → m'.get h = true := by
  obtain ⟨i, hi, own | ⟨w', merges, merged⟩⟩ := s.request_waits (.check m)
  · exact ⟨i, hi, m, own, fun _ named => named⟩
  · cases w' with
    | spit x => cases merges
    | clean x l o u a => cases merges
    | check x => exact ⟨i, hi, _, merged, fun h named => by simp [maskOr, named]⟩

/-! ### The panel's cleanings -/

/-- A CLEAN of the head of origin PANEL waits, of at least the level, and NOW where that is asked for. -/
def State.PanelCleanWaits (s : State) (h : Head) (level : Nat) (u : Urgency) : Prop :=
  ∃ i ∈ s.service.queue, ∃ l x a, i.work = .clean h l .panel x a ∧ level ≤ l ∧ (u = .now → x = .now)

theorem Urgency.or_now_right (u : Urgency) : u.or .now = .now := by cases u <;> rfl

/-- R136: the panel's request is never dropped. -/
theorem State.requestClean_panel (h : Head) (level : Nat) (u : Urgency) (n : Nat) :
    s.requestClean h level .panel u n = s.request (.clean h level .panel u n) := rfl

theorem State.requestClean_panel_waits (h : Head) (level : Nat) (u : Urgency) (n : Nat) :
    (s.requestClean h level .panel u n).PanelCleanWaits h level u := by
  rw [State.requestClean_panel]
  obtain ⟨i, hi, own | ⟨w', merges, merged⟩⟩ := s.request_waits (.clean h level .panel u n)
  · exact ⟨i, hi, _, _, _, own, le_rfl, id⟩
  · cases w' with
    | spit m => cases merges
    | clean x l o u' a =>
      obtain rfl : x = h := by simpa [Work.mergesWith] using merges
      exact ⟨i, hi, _, _, _, merged, le_max_right _ _, by rintro rfl; exact u'.or_now_right⟩
    | check m => cases merges

/-- R136: what the panel's request merges into is not taken from what waits. -/
theorem State.PanelCleanWaits.requestClean {h : Head} {level : Nat} {u : Urgency} (waits : s.PanelCleanWaits h level u)
    (h' : Head) (level' : Nat) (u' : Urgency) (n : Nat) : (s.requestClean h' level' .panel u' n).PanelCleanWaits h level u := by
  obtain ⟨i, hi, l, x, a, work, deep, now⟩ := waits
  refine ⟨_, State.request_holds hi (.clean h' level' .panel u' n), ?_⟩
  dsimp only
  split
  · rw [work]
    exact ⟨_, _, _, rfl, le_max_of_le_left deep, fun e => by rw [now e]; rfl⟩
  · exact ⟨l, x, a, work, deep, now⟩

variable (s) in
theorem State.panelCleans_frame (m : Three Bool) (level : Nat) (u : Urgency) :
    Frame [.service, .due] s (s.panelCleans m level u) :=
  Frame.foldl _ _ (fun _ _ => Frame.when _ _ fun v => v.requestClean_frame _ _ _ _ _) s

variable (s) in
theorem State.panelCleans_rest (m : Three Bool) (level : Nat) (u : Urgency) :
    (s.panelCleans m level u).service.active = s.service.active ∧
      (s.panelCleans m level u).service.failed = s.service.failed := by
  refine List.foldlRecOn (motive := fun t : State => t.service.active = s.service.active ∧ t.service.failed = s.service.failed)
    Head.all _
    ⟨rfl, rfl⟩ fun t same h _ => ?_
  cases m.get h
  · exact same
  · obtain ⟨active, failed, -⟩ := t.request_rest (.clean h level .panel u 1)
    exact ⟨active.trans same.1, failed.trans same.2⟩

/-- R138: what each request for a head of the mask brings about, and no request takes away, holds after all of them. -/
theorem State.panelCleans_brings {P : State → Prop} {m : Three Bool} {level : Nat} {u : Urgency} {h : Head} (named : m.get h = true)
    (brings : ∀ t : State, P (t.requestClean h level .panel u 1))
    (keeps : ∀ (t : State) x, P t → P (t.requestClean x level .panel u 1)) : P (s.panelCleans m level u) := by
  refine foldl_brings h.mem_all (fun t => ?_) (fun t x held => ?_) s
  · rw [named]
    exact brings t
  · cases m.get x
    · exact held
    · exact keeps t x held

theorem State.panelCleans_due {m : Three Bool} {h : Head} (named : m.get h = true) (level : Nat) (u : Urgency) :
    (s.panelCleans m level u).due.arbiter = true :=
  State.panelCleans_brings (P := fun t => t.due.arbiter = true) named (fun t => (t.request_rest _).2.2)
    fun t _ _ => (t.request_rest _).2.2

theorem State.panelCleans_waits {m : Three Bool} {h : Head} (named : m.get h = true) (level : Nat) (u : Urgency) :
    (s.panelCleans m level u).PanelCleanWaits h level u :=
  State.panelCleans_brings (P := fun t => t.PanelCleanWaits h level u) named (fun _ => State.requestClean_panel_waits h level u 1)
    fun _ x waits => waits.requestClean x level u 1

/-! ### CLEAN_ASK -/

/-- A legal head mask names a head. -/
theorem headMask?_names {n : Nat} {m : Three Bool} (legal : headMask? n = some m) : ∃ h, m.get h = true := by
  unfold headMask? at legal
  split at legal
  · next small =>
    cases legal
    have bits : ∀ k < 8, 0 < k → k.testBit 0 = true ∨ k.testBit 1 = true ∨ k.testBit 2 = true := by decide
    rcases bits n small.2 small.1 with bit | bit | bit
    · exact ⟨.h0, bit⟩
    · exact ⟨.h1, bit⟩
    · exact ⟨.h2, bit⟩
  · cases legal

theorem urgency?_of_legal {n : Nat} (legal : n ≤ 1) : ∃ u, urgency? n = some u ∧ (n = 0 → u = .now) := by
  interval_cases n
  · exact ⟨.now, rfl, fun _ => rfl⟩
  · exact ⟨.gap, rfl, nofun⟩

theorem exec_cleanAsk {p : Port} {mask level urgency : Nat} {u : State} (takes : s.Takes p Cmd.cleanAsk)
    (accepts : decideCleanAsk mask level urgency s = Answer.accept u.settle) :
    exec (.cleanAsk p mask level urgency) s = .next (u.settle.replied s p 0x68 .accepted 0 3) := by
  refine congrArg Host.Outcome.next ((s.takeWrite_takes p takes 3 _).trans ?_)
  rw [accepts]
  rfl

theorem decideCleanAsk_check {mask : Nat} {m : Three Bool} (legal : headMask? mask = some m) (urgency : Nat) :
    decideCleanAsk mask 0 urgency s = Answer.accept (s.requestCheck m).settle := by
  simp [decideCleanAsk, legal]

theorem decideCleanAsk_cleans {mask level urgency : Nat} {m : Three Bool} {u : Urgency} (legal : headMask? mask = some m)
    (deep : 0 < level) (bound : level ≤ 3) (named : urgency? urgency = some u) :
    decideCleanAsk mask level urgency s = Answer.accept (s.panelCleans m level u).settle := by
  simp [decideCleanAsk, legal, named, Nat.not_lt.2 bound, Nat.ne_of_gt deep]

end

/-- Settles O28: at level 0 by the one CHECK requested, else by what each of the panel's requests leaves waiting. -/
theorem cleanAskQueues : Obligations.CleanAskQueues := by
  intro s p mask level urgency m takes legal bound legalUrgency
  rcases Nat.eq_zero_or_pos level with rfl | deep
  · obtain ⟨active, failed, due⟩ := s.request_rest (.check m)
    exact ⟨s.requestCheck m, exec_cleanAsk takes (decideCleanAsk_check legal urgency), due, s.requestCheck_frame m, active, failed,
      fun _ => State.requestCheck_waits m, fun deep => absurd deep (Nat.lt_irrefl 0)⟩
  · obtain ⟨u, named, now⟩ := urgency?_of_legal (legalUrgency.resolve_left (Nat.ne_of_gt deep))
    obtain ⟨h, names⟩ := headMask?_names legal
    obtain ⟨active, failed⟩ := s.panelCleans_rest m level u
    refine ⟨s.panelCleans m level u, exec_cleanAsk takes (decideCleanAsk_cleans legal deep bound named),
      State.panelCleans_due names level u, s.panelCleans_frame m level u, active, failed, fun zero => absurd zero (Nat.ne_of_gt deep),
      fun _ h names => ?_⟩
    obtain ⟨i, hi, l, x, a, work, atLeast, urgent⟩ := State.panelCleans_waits names level u (s := s)
    exact ⟨i, hi, l, x, a, work, atLeast, fun zero => urgent (now zero)⟩

end Sys2Proof.Machine
end

section
/-!
SUPPORT. The end of a cleaning (R143 to R147) and an item given back (R148, R29). O31 is settled from it.
-/

namespace Sys2Proof.Machine

section
variable (s : State)

/-! ### A head that leaves the waiting SPIT (R135) -/

theorem State.mem_dropFromSpit {h : Head} {i : Item} : i ∈ (s.dropFromSpit h).service.queue ↔
    ∃ j ∈ s.service.queue, { j with work := j.work.without h } = i ∧ i.work.isEmptySpit = false := by
  simp only [State.dropFromSpit, State.setQueue, State.setService_service, List.mem_filter, List.mem_map, Bool.not_eq_true']
  constructor
  · rintro ⟨⟨j, hj, e⟩, full⟩
    exact ⟨j, hj, e, full⟩
  · rintro ⟨j, hj, e, full⟩
    exact ⟨⟨j, hj, e⟩, full⟩

theorem State.dropFromSpit_spit {h : Head} {i : Item} {m : Three Bool} (waits : i ∈ (s.dropFromSpit h).service.queue)
    (spits : i.work = .spit m) : m.get h = false := by
  obtain ⟨j, -, rfl, -⟩ := s.mem_dropFromSpit.1 waits
  cases work : j.work with
  | spit m' =>
    simp only [work, Work.without, Work.spit.injEq] at spits
    rw [← spits, Three.get_set_same]
  | clean x l o u n => simp [work, Work.without] at spits
  | check m' => simp [work, Work.without] at spits

/-- What waits after it has waited before. -/
theorem State.dropFromSpit_born {h : Head} {i : Item} (waits : i ∈ (s.dropFromSpit h).service.queue) :
    ∃ j ∈ s.service.queue, j.born = i.born := by
  obtain ⟨j, hj, rfl, -⟩ := s.mem_dropFromSpit.1 waits
  exact ⟨j, hj, rfl⟩

/-- A head that leaves the SPIT leaves a CLEAN as it is. -/
theorem Item.without_clean {i : Item} {x : Head} {l n : Nat} {o : CleanOrigin} {u : Urgency} (cleans : i.work = .clean x l o u n)
    (h : Head) : { i with work := i.work.without h } = i := by
  obtain ⟨born, work, skip⟩ := i
  cases cleans
  rfl

/-- The CLEANs that wait are the same. -/
theorem State.mem_dropFromSpit_clean {h x : Head} {i : Item} {l n : Nat} {o : CleanOrigin} {u : Urgency}
    (cleans : i.work = .clean x l o u n) : i ∈ (s.dropFromSpit h).service.queue ↔ i ∈ s.service.queue := by
  rw [s.mem_dropFromSpit]
  constructor
  · rintro ⟨j, hj, rfl, -⟩
    cases work : j.work with
    | spit m => simp [work, Work.without] at cleans
    | clean y l' o' u' n' => rwa [← work, Item.without_clean work]
    | check m => simp [work, Work.without] at cleans
  · intro waits
    exact ⟨i, waits, Item.without_clean cleans h, by rw [cleans]; rfl⟩

/-! ### The result of a cleaning (R146, R147) -/

theorem State.headPoor_iff (h : Head) : s.headPoor h = true ↔ ∃ c, c.head = h ∧ (s.nozzles.chan.get c).grade = .poor := by
  have served (c : Channel) : c ∈ h.channels ↔ c.head = h := by cases h <;> cases c <;> decide
  simp [State.headPoor, served]

variable {s} {h : Head} {level n : Nat} {o : CleanOrigin}

theorem State.judgeCleaning_panel_poor (poor : s.headPoor h = true) : s.judgeCleaning h level .panel n = s := by
  simp [State.judgeCleaning, poor]

theorem State.judgeCleaning_panel_sound (sound : s.headPoor h = false) : s.judgeCleaning h level .panel n = s.unfailHead h := by
  simp [State.judgeCleaning, sound]

theorem State.judgeCleaning_sound (other : o ≠ .panel) (sound : s.headPoor h = false) : s.judgeCleaning h level o n = s := by
  simp [State.judgeCleaning, other, sound]

theorem State.judgeCleaning_again (other : o ≠ .panel) (poor : s.headPoor h = true) (few : n < 3) :
    s.judgeCleaning h level o n = s.requestClean h (min (level + 1) 3) o .now (n + 1) := by
  simp [State.judgeCleaning, other, poor, few]

theorem State.judgeCleaning_fails (other : o ≠ .panel) (poor : s.headPoor h = true) (third : 3 ≤ n) :
    s.judgeCleaning h level o n = s.failHead h := by
  simp [State.judgeCleaning, other, poor, Nat.not_lt.2 third]

/-- Where none is left POOR, or the cleaning was the panel's, nothing is asked for and nothing withdrawn. -/
theorem State.judgeCleaning_queue (quiet : s.headPoor h = false ∨ o = .panel) :
    (s.judgeCleaning h level o n).service.queue = s.service.queue := by
  by_cases panel : o = .panel
  · subst panel
    cases poor : s.headPoor h
    · rw [State.judgeCleaning_panel_sound poor]
      rfl
    · rw [State.judgeCleaning_panel_poor poor]
  · rw [State.judgeCleaning_sound panel (quiet.resolve_right panel)]

/-- R136: a request for a FAILED head that is not the panel's is dropped. -/
theorem State.requestClean_dropped {u : Urgency} (other : o ≠ .panel) (failed : s.service.failed.get h = true) :
    s.requestClean h level o u n = s := by
  simp [State.requestClean, other, failed]

theorem State.requestClean_sound {u : Urgency} (sound : s.service.failed.get h = false) :
    s.requestClean h level o u n = s.request (.clean h level o u n) := by
  simp [State.requestClean, sound]

theorem State.requestClean_failed (s : State) (h : Head) (level : Nat) (o : CleanOrigin) (u : Urgency) (n : Nat) :
    (s.requestClean h level o u n).service.failed = s.service.failed := by
  unfold State.requestClean
  split
  · rfl
  · exact (s.request_rest _).2.1

/-- R136: a CLEAN of the head waits, NOW, of at least the level and the attempt. -/
theorem State.requestClean_attempts (s : State) (h : Head) (level : Nat) (o : CleanOrigin) (n : Nat)
    (sound : s.service.failed.get h = false) : ∃ i ∈ (s.requestClean h level o .now n).service.queue,
      ∃ l' o' n', i.work = .clean h l' o' .now n' ∧ level ≤ l' ∧ n ≤ n' := by
  rw [State.requestClean_sound sound]
  obtain ⟨i, hi, own | ⟨w', merges, merged⟩⟩ := s.request_waits (.clean h level o .now n)
  · exact ⟨i, hi, _, _, _, own, le_rfl, le_rfl⟩
  · cases w' with
    | spit m => cases merges
    | clean x l o' u a =>
      obtain rfl : x = h := by simpa [Work.mergesWith] using merges
      rw [Work.merge, u.or_now_right] at merged
      exact ⟨i, hi, _, _, _, merged, le_max_right _ _, le_max_right _ _⟩
    | check m => cases merges

theorem State.failHead_failed (s : State) (h : Head) : (s.failHead h).service.failed = s.service.failed.set h true := by
  have kept : (s.raiseIf (!s.service.failed.get h) .headFailed).service = s.service := s.raiseIf_frame _ _ .service (by decide)
  show (s.raiseIf (!s.service.failed.get h) .headFailed).service.failed.set h true = _
  rw [kept]

/-- R147: no CLEAN of the head waits but the panel's. -/
theorem State.failHead_waits {i : Item} (waits : i ∈ (s.failHead h).service.queue) : i.work.failedBy h = false := by
  simpa using (List.mem_filter.1 waits).2

theorem State.failHead_latched (sound : s.service.failed.get h = false) : (s.failHead h).Latched .headFailed :=
  (State.raiseIf_latched (s := s) (e := .headFailed) (b := !s.service.failed.get h) (by simp [sound])).of_ports rfl

/-- A judgement leaves the mark of every other head. -/
theorem State.judgeCleaning_failed_other (s : State) (level : Nat) (o : CleanOrigin) (n : Nat) {h' : Head} (other : h' ≠ h) :
    (s.judgeCleaning h level o n).service.failed.get h' = s.service.failed.get h' := by
  unfold State.judgeCleaning
  split
  · split
    · rfl
    · exact Three.get_set_other _ _ _ _ other
  · split
    · split
      · rw [State.requestClean_failed]
      · rw [State.failHead_failed, Three.get_set_other _ _ _ _ other]
    · rfl

/-! ### The end of an item (R143 to R145) -/

theorem State.endStage_ends {a : ActiveItem} {g : Stage} (active : s.service.active = some a) (last : a.stages = [g]) :
    s.endStage = s.finishItem a.item := by
  simp only [State.endStage, active, last, List.tail_cons]

/-- The item is over, and a selection is due. -/
def State.itemOver (s : State) : State := (s.setService { s.service with active := none }).dueArbiter

theorem State.finishItem_other {i : Item} (other : ∀ h l o x n, i.work ≠ .clean h l o x n) : s.finishItem i = s.itemOver := by
  unfold State.finishItem
  cases work : i.work with
  | spit m => rfl
  | clean h l o x n => exact absurd work (other h l o x n)
  | check m => rfl

theorem State.finishItem_clean {i : Item} {x : Urgency} (cleans : i.work = .clean h level o x n) :
    s.finishItem i = ((s.judgeCleaning h level o n).resetExposure h).itemOver := by
  simp only [State.finishItem, cleans]
  rfl

/-- What the end of a cleaning leaves, once it is judged: the head's exposure reset (R125), and the head out of the waiting SPIT. -/
theorem State.cleaningOver_record (s : State) (h : Head) : let u := (s.resetExposure h).itemOver
    u.service.active = none ∧ u.due.arbiter = true ∧ u.service.queue = (s.dropFromSpit h).service.queue ∧
      u.service.failed = s.service.failed ∧ u.ports = s.ports ∧ u.station = { s.station with
        exposure := s.station.exposure.set h 0, spitSent := s.station.spitSent.set h false
        cleanSent := s.station.cleanSent.set h false } := ⟨rfl, rfl, rfl, rfl, rfl, rfl⟩

/-! ### An item given back (R148) -/

/-- R148: a returned CLEAN that a FAILED mark forbids goes nowhere. -/
theorem State.returnItem_forbidden {i : Item} (failed : s.service.failed.get h = true) (forbids : i.work.failedBy h = true) :
    s.returnItem i = s.dueArbiter := by
  have condition : (s.service.failed.h0 && i.work.failedBy .h0 || s.service.failed.h1 && i.work.failedBy .h1 ||
      s.service.failed.h2 && i.work.failedBy .h2) = true := by
    cases h with
    | h0 => rw [show s.service.failed.h0 = true from failed, forbids]; rfl
    | h1 => rw [show s.service.failed.h1 = true from failed, forbids]; simp
    | h2 => rw [show s.service.failed.h2 = true from failed, forbids]; simp
  rw [State.returnItem, if_pos condition]

theorem State.returnItem_returns {i : Item} (allowed : ∀ h, s.service.failed.get h = true → i.work.failedBy h = false)
    (apart : ∀ j ∈ s.service.queue, j.work.mergesWith i.work = false) :
    s.returnItem i = (s.setQueue (insertByBorn i s.service.queue)).dueArbiter := by
  have passes (h : Head) : (s.service.failed.get h && i.work.failedBy h) = false := by
    cases failed : s.service.failed.get h
    · rfl
    · exact allowed h failed
  have none : s.service.queue.find? (fun j => j.work.mergesWith i.work) = none :=
    List.find?_eq_none.2 fun j hj => by simp [apart j hj]
  have condition : (s.service.failed.h0 && i.work.failedBy .h0 || s.service.failed.h1 && i.work.failedBy .h1 ||
      s.service.failed.h2 && i.work.failedBy .h2) = false := by
    simp only [Bool.or_eq_false_iff]
    exact ⟨⟨passes .h0, passes .h1⟩, passes .h2⟩
  rw [State.returnItem, condition, if_neg Bool.false_ne_true, none]

theorem State.returnItem_rest (s : State) (i : Item) :
    (s.returnItem i).due.arbiter = true ∧ (s.returnItem i).service.failed = s.service.failed := by
  unfold State.returnItem
  split
  · exact ⟨rfl, rfl⟩
  · split <;> exact ⟨rfl, rfl⟩

/-- An item enters after all that were first queued no later. -/
theorem insertByBorn_split (i : Item) (l : List Item) : ∃ pre post, l = pre ++ post ∧ insertByBorn i l = pre ++ i :: post ∧
    (∀ j ∈ pre, j.born ≤ i.born) ∧ ∀ j, post.head? = some j → i.born < j.born := by
  induction l with
  | nil => exact ⟨[], [], rfl, rfl, nofun, nofun⟩
  | cons x l ih =>
    unfold insertByBorn
    split
    · next older => exact ⟨[], x :: l, rfl, rfl, nofun, fun j e => by cases e; exact older⟩
    · next younger =>
      obtain ⟨pre, post, split, inserted, before, after⟩ := ih
      refine ⟨x :: pre, post, by rw [split]; rfl, by rw [inserted]; rfl, ?_, after⟩
      exact List.forall_mem_cons.2 ⟨Nat.not_lt.1 younger, before⟩

variable (s) in
/-- The parts released and no item active, with the item yet to return. -/
def State.handedBack : State := s.releaseParts.setService { s.releaseParts.service with active := none }

variable (s) in
theorem State.handedBack_service : s.handedBack.service = { s.service with active := none } := by
  have kept : s.releaseParts.service = s.service := s.releaseParts_frame .service (by decide)
  rw [State.handedBack, State.setService_service, kept]

theorem State.giveBack_returns {a : ActiveItem} (active : s.service.active = some a) :
    s.giveBack = s.handedBack.returnItem a.item := by
  simp only [State.giveBack, active]
  rfl

theorem State.giveBack_ledger {a : ActiveItem} (active : s.service.active = some a) : s.giveBack.ledger = s.releaseParts.ledger := by
  rw [State.giveBack_returns active]
  exact State.returnItem_frame _ _ .ledger (by decide)

variable (s) in
/-- R29: a release debits nothing, and no part is left. -/
theorem State.releaseParts_ledger : s.releaseParts.ledger.wa = s.ledger.wa ∧
    s.releaseParts.ledger.spitPart = Six.const 0 ∧ s.releaseParts.ledger.suctionPart = Six.const 0 ∧
    ∀ c, ∃ x, s.releaseParts.ledger.chan.get c = { s.ledger.chan.get c with
      rv := (s.ledger.chan.get c).rv - s.ledger.spitPart.get c - s.ledger.suctionPart.get c, levelState := x } := by
  refine ⟨?_, ?_, ?_, fun c => ?_⟩
  · simp [State.releaseParts]
  · simp [State.releaseParts]
  · simp [State.releaseParts]
  · obtain ⟨x, record⟩ := s.ledgerOp_record
      (fun c r => { r with rv := r.rv - s.ledger.spitPart.get c - s.ledger.suctionPart.get c }) c
    refine ⟨x, Eq.trans ?_ record⟩
    simp only [State.releaseParts, State.refreshUncovered_ledger, State.setLedger_ledger]

/-- R147: a CLEAN of the head that is not the panel's is what its FAILED mark forbids. -/
theorem Work.failedBy_clean {w : Work} {l n : Nat} {o : CleanOrigin} {x : Urgency} (cleans : w = .clean h l o x n)
    (other : o ≠ .panel) : w.failedBy h = true := by
  simp [cleans, Work.failedBy, other]

theorem Work.failedBy_eq_false {w : Work} (panel : ∀ l o x n, w = .clean h l o x n → o = .panel) : w.failedBy h = false := by
  cases w with
  | spit m => rfl
  | clean h' l o x n =>
    by_cases own : h' = h
    · subst own
      simp [Work.failedBy, panel l o x n rfl]
    · simp [Work.failedBy, own]
  | check m => rfl

end

/-- Settles O31: an ended cleaning by its judgement, whose queue the head then leaves; a returned item by its place. -/
theorem itemsEndOrAreGivenBack : Obligations.ItemsEndOrAreGivenBack := by
  intro s a g active
  refine ⟨fun last other => ?_, fun h l o x n last cleans => ?_, ?_⟩
  · rw [State.endStage_ends active last, State.finishItem_other other]
    rfl
  · intro u poor
    have frame : Frame [.ports, .station, .service, .due] s u := s.endStage_frame
    have ends : u = ((s.judgeCleaning h l o n).resetExposure h).itemOver :=
      (State.endStage_ends active last).trans (State.finishItem_clean cleans)
    have judged : poor ↔ s.headPoor h = true := (s.headPoor_iff h).symm
    have kept : (s.judgeCleaning h l o n).station = s.station := s.judgeCleaning_frame h l o n .station (by decide)
    obtain ⟨idle, due, queue, failed, ports, station⟩ := (s.judgeCleaning h l o n).cleaningOver_record h
    rw [← ends] at idle due queue failed ports station
    rw [kept] at station
    have sound_of (sound : ¬poor) : s.headPoor h = false := Bool.eq_false_iff.2 fun isPoor => sound (judged.2 isPoor)
    clear_value u poor
    rw [queue, failed]
    refine ⟨idle, due, frame, station, fun i hi m spits => State.dropFromSpit_spit _ hi spits,
      fun h' other => s.judgeCleaning_failed_other l o n other, fun other isPoor few sound => ?_, fun other isPoor few marked => ?_,
      fun other isPoor third => ?_, fun sound => ?_, fun panel isPoor => ?_, fun quiet => ?_⟩
    · rw [State.judgeCleaning_again other (judged.1 isPoor) few, State.requestClean_failed]
      obtain ⟨i, hi, l', o', n', work, deep, next⟩ := s.requestClean_attempts h (min (l + 1) 3) o (n + 1) sound
      exact ⟨sound, i, (State.mem_dropFromSpit_clean _ work).2 hi, l', o', n', work, deep, next⟩
    · rw [State.judgeCleaning_again other (judged.1 isPoor) few, State.requestClean_dropped other marked]
      exact ⟨marked, fun i hi => s.dropFromSpit_born hi⟩
    · rw [State.judgeCleaning_fails other (judged.1 isPoor) third] at ports ⊢
      refine ⟨?_, fun sound => (State.failHead_latched sound).of_ports ports, fun i hi l' o' x' n' work => ?_⟩
      · rw [State.failHead_failed, Three.get_set_same]
      · have kept := State.failHead_waits ((State.mem_dropFromSpit_clean _ work).1 hi)
        simpa [work, Work.failedBy] using kept
    · by_cases panel : o = .panel
      · subst panel
        rw [State.judgeCleaning_panel_sound (sound_of sound), if_pos rfl]
        exact Three.get_set_same _ h false
      · rw [State.judgeCleaning_sound panel (sound_of sound), if_neg panel]
    · subst panel
      rw [State.judgeCleaning_panel_poor (judged.1 isPoor)]
    · intro i hi
      rw [← s.judgeCleaning_queue (quiet.imp_left sound_of)]
      exact State.dropFromSpit_born _ hi
  · rintro u rfl
    have service := s.handedBack_service
    obtain ⟨due, failed⟩ := s.handedBack.returnItem_rest a.item
    obtain ⟨wa, spit, suction, records⟩ := s.releaseParts_ledger
    refine ⟨s.giveBack_active, ?_, s.giveBack_frame, ?_, ?_⟩
    · rw [State.giveBack_returns active, due]
    · rw [State.giveBack_returns active, failed, service]
    rw [State.giveBack_ledger active, State.giveBack_returns active]
    refine ⟨wa, spit, suction, fun c => ?_, fun h l o x n cleans other marked => ?_, fun allowed apart => ?_⟩
    · obtain ⟨x, record⟩ := records c
      rw [record]
      exact ⟨rfl, rfl, rfl, rfl⟩
    · rw [State.returnItem_forbidden (h := h) (by rw [service]; exact marked) (Work.failedBy_clean cleans other)]
      show s.handedBack.service.queue = s.service.queue
      rw [service]
    · have forbidsNot (h : Head) (marked : s.service.failed.get h = true) : a.item.work.failedBy h = false :=
        Work.failedBy_eq_false fun l o x n cleans => (allowed h l o x n cleans).resolve_right (by simp [marked])
      obtain ⟨pre, post, split, inserted, before, after⟩ := insertByBorn_split a.item s.service.queue
      refine ⟨pre, post, split, ?_, before, after⟩
      rw [State.returnItem_returns (by rw [service]; exact forbidsNot) (by rw [service]; exact apart), service, ← inserted]
      rfl

end Sys2Proof.Machine
end

section
/-!
SUPPORT. The service arbiter (R139, R140, R142): when it may select, what each candidate that is passed over leaves, and the start of the
first that fits. O29 is settled from it.
-/

namespace Sys2Proof.Machine

section
variable {s t u : State} {i j : Item} {w : Work} {c : Channel}

/-! ### What the tests read (R26 to R28) -/

/-- The service tests read the same in both states. -/
structure State.TestsAs (s t : State) : Prop where
  ledger : t.ledger = s.ledger
  mode : t.mode = s.mode
  waste : t.supply.waste = s.supply.waste

theorem State.TestsAs.refl (s : State) : s.TestsAs s := ⟨rfl, rfl, rfl⟩

theorem State.TestsAs.trans (h : s.TestsAs t) (k : t.TestsAs u) : s.TestsAs u :=
  ⟨k.ledger.trans h.ledger, k.mode.trans h.mode, k.waste.trans h.waste⟩

namespace State.TestsAs
variable (same : s.TestsAs t)
include same

theorem serviceNeed : t.serviceNeed = s.serviceNeed := by
  funext w c
  simp only [State.serviceNeed, State.spitParts, State.params, same.ledger, same.mode]

theorem wasteNeed : t.wasteNeed = s.wasteNeed := by
  funext w
  simp only [State.wasteNeed, same.serviceNeed]

theorem serviceFails : t.serviceFails = s.serviceFails := by
  funext w c
  unfold State.serviceFails State.params
  rw [same.serviceNeed, same.ledger, same.mode]

theorem wasteFits : t.wasteFits = s.wasteFits := by
  funext w
  simp only [State.wasteFits, same.wasteNeed, same.ledger, same.waste]

theorem serviceFits : t.serviceFits = s.serviceFits := by
  funext w
  simp only [State.serviceFits, same.serviceFails, same.wasteFits]

theorem skipCode : t.skipCode = s.skipCode := by
  funext w
  simp only [State.skipCode, same.serviceFails, same.wasteFits, same.wasteNeed]

end State.TestsAs

/-! ### The code of a skip (R140) -/

theorem Channel.all_split (c : Channel) : ∃ pre post, Channel.all = pre ++ c :: post ∧ ∀ x ∈ pre, x.toNat < c.toNat :=
  ⟨Channel.all.take c.toNat, Channel.all.drop (c.toNat + 1), by cases c <;> rfl, by cases c <;> decide⟩

/-- The lowest channel of which it holds is the first. -/
theorem Channel.find?_lowest {p : Channel → Bool} (this : p c = true) (lower : ∀ x : Channel, x.toNat < c.toNat → p x = false) :
    Channel.all.find? p = some c := by
  obtain ⟨pre, post, split, before⟩ := Channel.all_split c
  exact List.find?_eq_some_iff_append.2 ⟨this, pre, post, split, fun x hx => by simp [lower x (before x hx)]⟩

theorem State.skipCode_waste (passes : ∀ c, s.serviceFails w c = false) : s.skipCode w = .waste := by
  have none : Channel.all.find? (s.serviceFails w) = none := List.find?_eq_none.2 fun c _ => by simp [passes c]
  simp only [State.skipCode, none]

theorem State.skipCode_ink (fits : s.wasteFits w = true) (fails : s.serviceFails w c = true)
    (lower : ∀ x : Channel, x.toNat < c.toNat → s.serviceFails w x = false) : s.skipCode w = .ink c := by
  simp [State.skipCode, Channel.find?_lowest fails lower, fits]

/-! ### A candidate that is passed over (R140) -/

variable (s) in
theorem State.passOver_frame (i : Item) : Frame [.manifold, .supply, .service] s (s.passOver i) :=
  ((s.setQueue_frame _).join (State.setDemands_frame _ _) (cs := [.manifold, .service]) (by decide) (by decide)).join
    (State.askCoverage_frame _ _) (by decide) (by decide)

variable (s) in
theorem State.passOver_service (i : Item) : (s.passOver i).service = { s.service with
    queue := s.service.queue.map fun j => if j.born = i.born then { j with skip := s.skipCode i.work } else j } := by
  have later := ((State.setDemands_frame (s.setQueue (s.service.queue.map fun j =>
      if j.born == i.born then { j with skip := s.skipCode i.work } else j)) (Channel.all.filter (s.serviceFails i.work))).join
    (State.askCoverage_frame _ i.work) (cs := [.manifold, .supply]) (by decide) (by decide)) .service (by decide)
  refine Eq.trans later ?_
  simp only [beq_iff_eq]
  rfl

variable (s) in
theorem State.askCoverage_waste (w : Work) : (s.askCoverage w).supply.waste = s.supply.waste :=
  State.when_keeps _ (fun t => t.supply.waste) _ rfl

variable (s) in
theorem State.passOver_tests (i : Item) : s.TestsAs (s.passOver i) where
  ledger := s.passOver_frame i .ledger (by decide)
  mode := s.passOver_frame i .mode (by decide)
  waste := (State.askCoverage_waste _ _).trans (congrArg Supply.waste (State.setDemands_frame _ _ .supply (by decide)))

/-- R8: the demands of the channels that fail are set, and none is withdrawn. -/
theorem State.passOver_demand (h : s.serviceFails i.work c = true ∨ (s.session c).demand = true) :
    ((s.passOver i).session c).demand = true := by
  have asked : (s.passOver i).manifold = _ := State.askCoverage_frame _ i.work .manifold (by decide)
  rw [State.session, asked]
  exact State.setDemands_demand _ (h.imp_left fun fails => List.mem_filter.2 ⟨c.mem_all, fails⟩)

/-- The item waits with its last skip recorded, and the channels that fail it have their demands set. -/
def State.PassedOver (s : State) (j : Item) (u : State) : Prop :=
  { j with skip := s.skipCode j.work } ∈ u.service.queue ∧ ∀ c, s.serviceFails j.work c = true → (u.session c).demand = true

theorem State.PassedOver.of_tests (same : s.TestsAs t) (passed : t.PassedOver j u) : s.PassedOver j u := by
  unfold State.PassedOver at passed ⊢
  rwa [same.skipCode, same.serviceFails] at passed

theorem State.passOver_passes (waits : j ∈ s.service.queue) : s.PassedOver j (s.passOver j) := by
  refine ⟨?_, fun c fails => State.passOver_demand (.inl fails)⟩
  rw [s.passOver_service j]
  exact List.mem_map.2 ⟨j, waits, if_pos rfl⟩

/-- An item stays as it is while another is passed over. -/
theorem State.passOver_holds (waits : j ∈ s.service.queue) (other : j.born ≠ i.born) : j ∈ (s.passOver i).service.queue := by
  rw [s.passOver_service i]
  exact List.mem_map.2 ⟨j, waits, if_neg other⟩

theorem State.PassedOver.passOver (passed : s.PassedOver j u) (other : j.born ≠ i.born) : s.PassedOver j (u.passOver i) :=
  ⟨State.passOver_holds passed.1 other, fun c fails => State.passOver_demand (.inr (passed.2 c fails))⟩

/-! ### Candidates passed over one after another -/

/-- The candidates passed over, in their order. -/
def State.passAll (s : State) (l : List Item) : State := l.foldl State.passOver s

variable (s) in
theorem State.passAll_frame (l : List Item) : Frame [.manifold, .supply, .service] s (s.passAll l) :=
  Frame.foldl l _ State.passOver_frame s

variable (s) in
theorem State.passAll_tests (l : List Item) : s.TestsAs (s.passAll l) :=
  List.foldlRecOn (motive := s.TestsAs) l _ (.refl s) fun t same i _ => same.trans (t.passOver_tests i)

/-- When the items of the queue were first queued and what they ask for, in their places. -/
def State.places (s : State) : List (Nat × Work) := s.service.queue.map fun j => (j.born, j.work)

variable (s) in
/-- R140: who is passed over keeps its place, and no item becomes active. -/
theorem State.passOver_places (i : Item) :
    (s.passOver i).places = s.places ∧ (s.passOver i).service.active = s.service.active := by
  rw [State.places, s.passOver_service i]
  refine ⟨?_, rfl⟩
  rw [List.map_map]
  exact List.map_congr_left fun j _ => by dsimp only [Function.comp]; split <;> rfl

variable (s) in
theorem State.passAll_places (l : List Item) :
    (s.passAll l).places = s.places ∧ (s.passAll l).service.active = s.service.active :=
  List.foldlRecOn (motive := fun t : State => t.places = s.places ∧ t.service.active = s.service.active) l _ ⟨rfl, rfl⟩
    fun t same i _ => ⟨(t.passOver_places i).1.trans same.1, (t.passOver_places i).2.trans same.2⟩

theorem State.passAll_passes {l : List Item} (apart : (l.map Item.born).Nodup) (waits : ∀ j ∈ l, j ∈ s.service.queue) :
    ∀ j ∈ l, s.PassedOver j (s.passAll l) := by
  induction l generalizing s with
  | nil => nofun
  | cons i l ih =>
    obtain ⟨first, rest⟩ := List.nodup_cons.1 apart
    have other (j : Item) (hj : j ∈ l) : j.born ≠ i.born := fun e => first (List.mem_map.2 ⟨j, hj, e⟩)
    obtain ⟨here, later⟩ := List.forall_mem_cons.1 waits
    refine List.forall_mem_cons.2 ⟨?_, fun j hj => ?_⟩
    · exact List.foldlRecOn (motive := s.PassedOver i) l _ (State.passOver_passes here) fun t passed x hx =>
        passed.passOver (other x hx).symm
    · exact .of_tests (s.passOver_tests i) (ih rest (fun j hj => State.passOver_holds (later j hj) (other j hj)) j hj)

/-- The candidates that do not fit are passed over. -/
theorem tryItems_passes {pre : List Item} (fail : ∀ j ∈ pre, j.work.reservesInk = true ∧ s.serviceFits j.work = false)
    (rest : List Item) : tryItems (pre ++ rest) s = tryItems rest (s.passAll pre) := by
  induction pre generalizing s with
  | nil => rfl
  | cons i pre ih =>
    obtain ⟨⟨reserves, fits⟩, later⟩ := List.forall_mem_cons.1 fail
    have passes : tryItems (i :: (pre ++ rest)) s = tryItems (pre ++ rest) (s.passOver i) := by
      rw [tryItems, reserves, fits]
      rfl
    rw [← (s.passOver_tests i).serviceFits] at later
    exact passes.trans (ih later)

/-! ### The start of an item (R27, R142) -/

/-- The needs of an item reserved, where it has any. -/
def State.reservedFor (s : State) (w : Work) : State := s.when w.reservesInk fun t => t.reserveService w

theorem tryItems_starts (fits : i.work.reservesInk = false ∨ s.serviceFits i.work = true) (post : List Item) :
    tryItems (i :: post) s = (s.reservedFor i.work).startItem i := by
  unfold tryItems State.reservedFor
  cases reserves : i.work.reservesInk
  · rfl
  · rw [fits.resolve_left (by simp [reserves])]
    rfl

variable (s) in
theorem State.reservedFor_frame (w : Work) : Frame [.ports, .ledger, .supply, .due] s (s.reservedFor w) :=
  .when _ _ fun t => t.reserveService_frame w

/-- R26: an item that reserves nothing needs nothing. -/
theorem State.serviceNeed_eq_zero (none : w.reservesInk = false) : s.serviceNeed w c = 0 := by
  simp [State.serviceNeed, State.spitParts, suctionParts, Work.onChannel, none]

theorem State.wasteNeed_eq_zero (none : w.reservesInk = false) : s.wasteNeed w = 0 := by
  have nothing : s.serviceNeed w = fun _ => 0 := funext fun _ => State.serviceNeed_eq_zero none
  rw [State.wasteNeed, nothing]
  rfl

variable (s) in
/-- R27: what a reservation makes of the ledger. -/
theorem State.reserveService_ledger (w : Work) : (s.reserveService w).ledger.wr = s.ledger.wr + s.wasteNeed w ∧
    ∀ c, ∃ x, (s.reserveService w).ledger.chan.get c =
      { s.ledger.chan.get c with rv := (s.ledger.chan.get c).rv + s.serviceNeed w c, levelState := x } := by
  refine ⟨by simp [State.reserveService], fun c => ?_⟩
  obtain ⟨x, record⟩ := s.ledgerOp_record (fun c r => { r with rv := r.rv + (s.spitParts w).get c + (suctionParts w).get c }) c
  refine ⟨x, Eq.trans ?_ (record.trans ?_)⟩
  · simp only [State.reserveService, State.refreshUncovered_ledger, State.setLedger_ledger]
  · rw [State.serviceNeed, ← Nat.add_assoc]

variable (s) in
theorem State.reservedFor_ledger (w : Work) : (s.reservedFor w).ledger.wr = s.ledger.wr + s.wasteNeed w ∧
    ∀ c, ∃ x, (s.reservedFor w).ledger.chan.get c =
      { s.ledger.chan.get c with rv := (s.ledger.chan.get c).rv + s.serviceNeed w c, levelState := x } := by
  unfold State.reservedFor
  cases reserves : w.reservesInk
  · exact ⟨by rw [State.wasteNeed_eq_zero reserves]; rfl, fun c => ⟨_, by rw [State.serviceNeed_eq_zero reserves]; rfl⟩⟩
  · exact s.reserveService_ledger w

variable (s) in
theorem State.startItem_frame (i : Item) : Frame [.station, .service] s (s.startItem i) :=
  (s.setService_frame _).join (State.clearCapDue_frame _) (by decide) (by decide)

/-- R142: the item that starts leaves the queue to the others. -/
theorem State.PassedOver.startItem (passed : s.PassedOver j u) (other : j.born ≠ i.born) : s.PassedOver j (u.startItem i) :=
  ⟨List.mem_filter.2 ⟨passed.1, by simpa using other⟩, passed.2⟩

theorem State.PassedOver.reservedFor (passed : s.PassedOver j u) (w : Work) : s.PassedOver j (u.reservedFor w) := by
  unfold State.PassedOver State.session at passed ⊢
  rwa [u.reservedFor_frame w .service (by decide), u.reservedFor_frame w .manifold (by decide)]

variable (s) in
theorem State.startItem_places (i : Item) : (s.startItem i).places = s.places.filter fun x => x.1 ≠ i.born := by
  rw [State.places, State.places, List.filter_map]
  show (s.service.queue.filter _).map _ = _
  congr 2
  funext j
  simp [bne, Bool.beq_eq_decide_eq]

/-- The state after a selection that passes over some candidates and starts the next. -/
def State.selected (s : State) (pre : List Item) (i : Item) : State := ((s.passAll pre).reservedFor i.work).startItem i

theorem tryItems_selects {pre : List Item} (fail : ∀ j ∈ pre, j.work.reservesInk = true ∧ s.serviceFits j.work = false)
    (fits : i.work.reservesInk = false ∨ s.serviceFits i.work = true) (post : List Item) :
    tryItems (pre ++ i :: post) s = s.selected pre i := by
  rw [← (s.passAll_tests pre).serviceFits] at fits
  rw [tryItems_passes fail, tryItems_starts fits]
  rfl

variable (s) in
theorem State.selected_frame (pre : List Item) (i : Item) :
    Frame [.ports, .ledger, .manifold, .supply, .station, .service, .due] s (s.selected pre i) :=
  ((s.passAll_frame pre).join (State.reservedFor_frame _ _) (cs := [.ports, .ledger, .manifold, .supply, .service, .due])
    (by decide) (by decide)).join (State.startItem_frame _ _) (by decide) (by decide)

variable (s) in
theorem State.selected_places (pre : List Item) (i : Item) :
    (s.selected pre i).places = s.places.filter fun x => x.1 ≠ i.born := by
  have kept : ((s.passAll pre).reservedFor i.work).places = (s.passAll pre).places :=
    congrArg (fun v => v.queue.map fun j => (j.born, j.work)) ((s.passAll pre).reservedFor_frame i.work .service (by decide))
  rw [State.selected, State.startItem_places, kept, (s.passAll_places pre).1]

variable (s) in
theorem State.selected_ledger (pre : List Item) (i : Item) :
    (s.selected pre i).ledger.wr = s.ledger.wr + s.wasteNeed i.work ∧ ∀ c, ∃ x, (s.selected pre i).ledger.chan.get c =
      { s.ledger.chan.get c with rv := (s.ledger.chan.get c).rv + s.serviceNeed i.work c, levelState := x } := by
  have tests := s.passAll_tests pre
  have starts : (s.selected pre i).ledger = ((s.passAll pre).reservedFor i.work).ledger := rfl
  rw [starts, ← tests.wasteNeed, ← tests.serviceNeed, ← tests.ledger]
  exact (s.passAll pre).reservedFor_ledger i.work

theorem State.selected_passes {pre post : List Item} (apart : ((pre ++ i :: post).map Item.born).Nodup)
    (waits : ∀ j ∈ pre, j ∈ s.service.queue) : ∀ j ∈ pre, s.PassedOver j (s.selected pre i) := by
  rw [List.map_append, List.map_cons] at apart
  obtain ⟨distinct, -, others⟩ := List.nodup_append.1 apart
  intro j hj
  exact ((State.passAll_passes distinct waits j hj).reservedFor i.work).startItem
    (others j.born (List.mem_map_of_mem hj) i.born List.mem_cons_self)

/-! ### The candidates (R139) -/

/-- The place in the ranking that an item's work gives it. -/
def Work.rank : Work → Fin 4
  | .spit _ => 0
  | .clean _ _ _ .now _ => 1
  | .check _ => 2
  | .clean _ _ _ .gap _ => 3

/-- The waiting items of one rank, the oldest first. -/
def State.ranked (s : State) (k : Fin 4) : List Item := s.service.queue.filter fun i => i.work.rank == k

theorem State.ranked_of {p : Item → Bool} {k : Fin 4} (tells : ∀ i, p i = (i.work.rank == k)) :
    s.service.queue.filter p = s.ranked k := List.filter_congr fun i _ => tells i

variable (s) in
theorem State.candidates_eq : s.candidates =
    s.ranked 0 ++ s.ranked 1 ++ if s.activeSheet = none then s.ranked 2 ++ s.ranked 3 else [] := by
  have clean (u : Urgency) (w : Work) : w.isCleanOf u = (w.rank == if u = .now then 1 else 3) := by
    rcases w with m | ⟨h, l, o, _ | _, n⟩ | m <;> cases u <;> rfl
  have spit (w : Work) : w.isSpit = (w.rank == 0) := by
    rcases w with m | ⟨h, l, o, _ | _, n⟩ | m <;> rfl
  have check (w : Work) : w.isCheck = (w.rank == 2) := by
    rcases w with m | ⟨h, l, o, _ | _, n⟩ | m <;> rfl
  simp only [State.candidates, State.sheetGap, Option.isNone_iff_eq_none, State.ranked_of fun i => spit i.work,
    State.ranked_of fun i => clean .now i.work, State.ranked_of fun i => check i.work, State.ranked_of fun i => clean .gap i.work]
  rfl

theorem State.waits_of_candidate (h : j ∈ s.candidates) : j ∈ s.service.queue := by
  have ranked {k : Fin 4} (h : j ∈ s.ranked k) : j ∈ s.service.queue := (List.mem_filter.1 h).1
  rw [s.candidates_eq, List.mem_append, List.mem_append] at h
  rcases h with (h | h) | h
  · exact ranked h
  · exact ranked h
  · split at h
    · exact (List.mem_append.1 h).elim ranked ranked
    · cases h

theorem State.ranked_disjoint {k k' : Fin 4} (other : k ≠ k') : (s.ranked k).Disjoint (s.ranked k') := fun i a b => by
  have one := (List.mem_filter.1 a).2
  have two := (List.mem_filter.1 b).2
  simp only [beq_iff_eq] at one two
  exact other (one.symm.trans two)

/-- R139: no item has two places in the ranking. -/
theorem State.candidates_born_nodup (apart : (s.service.queue.map Item.born).Nodup) : (s.candidates.map Item.born).Nodup := by
  have each (k : Fin 4) : (s.ranked k).Nodup := (apart.of_map _).filter _
  have items : s.candidates.Nodup := by
    rw [s.candidates_eq]
    refine ((each 0).append (each 1) (State.ranked_disjoint (by decide))).append ?_ ?_
    · split
      · exact (each 2).append (each 3) (State.ranked_disjoint (by decide))
      · exact .nil
    · split
      · simp only [List.disjoint_append_left, List.disjoint_append_right]
        refine ⟨⟨?_, ?_⟩, ?_, ?_⟩
        all_goals exact State.ranked_disjoint (by decide)
      · exact List.disjoint_nil_right _
  exact items.map_on fun x hx y hy same =>
    List.inj_on_of_nodup_map apart (State.waits_of_candidate hx) (State.waits_of_candidate hy) same

/-! ### The selection (R139) -/

/-- The selection that is due taken up. -/
def State.arbiterTaken (s : State) : State := s.setDue { s.due with arbiter := false }

theorem State.serviceArbiter_rests (due : s.due.arbiter = true)
    (stopped : s.inRun = false ∨ s.service.active ≠ none ∨ s.carriageHolds = true ∨ s.station.state = .fault) :
    s.serviceArbiter = some s.arbiterTaken := by
  have mayNot : s.arbiterTaken.arbiterMay = false := by
    show (s.inRun && s.service.active.isNone && !s.carriageHolds && s.station.state != .fault) = false
    rcases stopped with run | active | holds | fault
    · simp [run]
    · simp [Option.isNone_eq_false_iff.2 (Option.isSome_iff_ne_none.2 active)]
    · simp [holds]
    · simp [fault]
  rw [State.serviceArbiter, if_pos due]
  exact congrArg some (if_neg (by rw [← State.arbiterTaken, mayNot]; exact Bool.false_ne_true))

theorem State.serviceArbiter_selects (due : s.due.arbiter = true) (run : s.inRun = true) (idle : s.service.active = none)
    (waits : ∀ t ∈ s.tickets.queue, t.state = .queued ∨ t.state = .reserved) (sound : s.station.state ≠ .fault) :
    s.serviceArbiter = some (tryItems s.candidates s.arbiterTaken) := by
  have free : s.carriageHolds = false := List.any_eq_false.2 fun t ht => by rcases waits t ht with e | e <;> simp [e]
  have may : s.arbiterTaken.arbiterMay = true := by
    show (s.inRun && s.service.active.isNone && !s.carriageHolds && s.station.state != .fault) = true
    simp [run, idle, free, sound]
  rw [State.serviceArbiter, if_pos due]
  exact congrArg some (if_pos may)

end

/-- Settles O29: the ranking as the statement has it is the model's, and a selection passes over its first part and starts the next. -/
theorem serviceArbiterSelects : Obligations.ServiceArbiterSelects := by
  intro s due
  refine ⟨State.serviceArbiter_rests due, fun run idle tickets sound apart => ?_⟩
  intro q now gap spit check candidates passedOver
  have ranking : candidates = s.candidates := by
    have spits : spit = s.ranked 0 := State.ranked_of fun i => by
      rcases i.work with m | ⟨h, l, o, _ | _, n⟩ | m <;> rfl
    have nows : now = s.ranked 1 := State.ranked_of fun i => by
      rcases i.work with m | ⟨h, l, o, _ | _, n⟩ | m <;> rfl
    have checks : check = s.ranked 2 := State.ranked_of fun i => by
      rcases i.work with m | ⟨h, l, o, _ | _, n⟩ | m <;> rfl
    have gaps : gap = s.ranked 3 := State.ranked_of fun i => by
      rcases i.work with m | ⟨h, l, o, _ | _, n⟩ | m <;> rfl
    rw [s.candidates_eq, ← spits, ← nows, ← checks, ← gaps]
  have records (l : List Item) (u : State) (passed : ∀ j ∈ l, s.arbiterTaken.PassedOver j u) : passedOver l u := fun j hj =>
    ⟨_, (passed j hj).1, State.skipCode_waste, fun c fails => ⟨(passed j hj).2 c fails, fun fits lower =>
      State.skipCode_ink fits fails lower⟩⟩
  clear_value candidates passedOver
  subst ranking
  have distinct := State.candidates_born_nodup apart
  have waits (j : Item) (hj : j ∈ s.candidates) : j ∈ s.arbiterTaken.service.queue := State.waits_of_candidate hj
  rw [State.serviceArbiter_selects due run idle tickets sound]
  refine ⟨fun pre i post split fail fits => ?_, fun fail => ?_⟩
  · rw [split] at distinct waits ⊢
    obtain ⟨wr, entries⟩ := s.arbiterTaken.selected_ledger pre i
    refine ⟨_, congrArg some (tryItems_selects (s := s.arbiterTaken) fail fits post), rfl,
      (s.arbiterTaken.selected_places pre i).trans List.filter_map,
      records _ _ (State.selected_passes distinct fun j hj => waits j (List.mem_append_left _ hj)), rfl, wr, fun c => ?_,
      (s.setDue_frame _).join (State.selected_frame _ pre i) (by decide) (by decide)⟩
    obtain ⟨x, entry⟩ := entries c
    rw [entry]
    exact ⟨rfl, rfl, rfl, rfl⟩
  · have passes : tryItems s.candidates s.arbiterTaken = s.arbiterTaken.passAll s.candidates := by
      have all := tryItems_passes (s := s.arbiterTaken) fail []
      rwa [List.append_nil] at all
    obtain ⟨places, active⟩ := s.arbiterTaken.passAll_places s.candidates
    have frame := s.arbiterTaken.passAll_frame s.candidates
    exact ⟨_, congrArg some passes, active.trans idle, places, records _ _ (State.passAll_passes distinct waits),
      congrArg Due.arbiter (frame .due (by decide)), (s.setDue_frame _).join frame (by decide) (by decide)⟩

end Sys2Proof.Machine
end

section
/-!
SUPPORT. The lists of the nozzle health tables: what enters a list sorted ascending, a channel's dead list after a report (R154 to
R156), and its lists after retirement (R157). O32 is settled from it.
-/

namespace Sys2Proof.Machine

/-! ### Indices sorted ascending -/

@[simp] theorem mem_insertIndex {m n : Nat} {l : List Nat} : m ∈ insertIndex n l ↔ m = n ∨ m ∈ l := by
  induction l with
  | nil => simp [insertIndex]
  | cons x l ih =>
    simp only [insertIndex]
    split
    · simp
    · split
      · simp_all
      · simp only [List.mem_cons, ih]
        tauto

theorem insertIndex_sorted (n : Nat) {l : List Nat} (sorted : l.Pairwise (· < ·)) : (insertIndex n l).Pairwise (· < ·) := by
  induction l with
  | nil => simp [insertIndex]
  | cons x l ih =>
    obtain ⟨least, rest⟩ := List.pairwise_cons.1 sorted
    simp only [insertIndex]
    split
    next below => exact List.pairwise_cons.2 ⟨fun y hy => (List.mem_cons.1 hy).elim (· ▸ below) (below.trans <| least y ·), sorted⟩
    next notBelow =>
      split
      next => exact sorted
      next other =>
        refine List.pairwise_cons.2 ⟨fun y hy => ?_, ih rest⟩
        rcases mem_insertIndex.1 hy with rfl | hy
        · omega
        · exact least y hy

theorem insertIndex_length {n : Nat} {l : List Nat} (new : n ∉ l) : (insertIndex n l).length = l.length + 1 := by
  induction l with
  | nil => rfl
  | cons x l ih =>
    obtain ⟨other, new⟩ := not_or.1 (mt List.mem_cons.2 new)
    simp only [insertIndex, other, if_false]
    split
    · rfl
    · exact congrArg (· + 1) (ih new)

@[simp] theorem mem_insertIndices {n : Nat} {new l : List Nat} : n ∈ new.foldr insertIndex l ↔ n ∈ new ∨ n ∈ l := by
  induction new with
  | nil => simp
  | cons x new ih => simp [ih, or_assoc]

theorem insertIndices_sorted (new : List Nat) {l : List Nat} (sorted : l.Pairwise (· < ·)) :
    (new.foldr insertIndex l).Pairwise (· < ·) := by
  induction new with
  | nil => exact sorted
  | cons x new ih => exact insertIndex_sorted x ih

theorem insertIndices_length {new l : List Nat} (nodup : new.Nodup) (apart : ∀ n ∈ new, n ∉ l) :
    (new.foldr insertIndex l).length = new.length + l.length := by
  induction new with
  | nil => simp
  | cons x new ih =>
    obtain ⟨once, nodup⟩ := List.nodup_cons.1 nodup
    obtain ⟨absent, apart⟩ := List.forall_mem_cons.1 apart
    rw [List.foldr_cons, insertIndex_length (by simp [once, absent]), ih nodup apart, List.length_cons]
    omega

@[simp] theorem mem_sortIndices {n : Nat} {l : List Nat} : n ∈ sortIndices l ↔ n ∈ l := by simp [sortIndices]

theorem sortIndices_sorted (l : List Nat) : (sortIndices l).Pairwise (· < ·) := insertIndices_sorted l .nil

/-- What a bound on its length leaves out of a list without repetitions. -/
theorem lt_length_iff_exists_not_mem_take {α : Type} {l : List α} (nodup : l.Nodup) (k : Nat) :
    k < l.length ↔ ∃ x ∈ l, x ∉ l.take k := by
  constructor
  · intro more
    have left : l[k] ∈ l.drop k := List.mem_drop_iff_getElem.2 ⟨0, by omega, rfl⟩
    exact ⟨l[k], List.getElem_mem more, fun taken => List.disjoint_take_drop nodup le_rfl taken left⟩
  · rintro ⟨x, present, cut⟩
    by_contra all
    exact cut (by rwa [List.take_of_length_le (Nat.le_of_not_lt all)])

/-! ### The dead list -/

/-- A nozzle enters a dead list with its first miss (R154). -/
def enterDead (n : Nat) (l : List DeadEntry) : List DeadEntry := insertDead { nozzle := n, misses := 1 } l

@[simp] theorem mem_insertDead {d e : DeadEntry} {l : List DeadEntry} : d ∈ insertDead e l ↔ d = e ∨ d ∈ l := by
  induction l with
  | nil => simp [insertDead]
  | cons x l ih =>
    simp only [insertDead]
    split
    · simp
    · simp only [List.mem_cons, ih]
      tauto

@[simp] theorem mem_enterDeads {d : DeadEntry} {fresh : List Nat} {l : List DeadEntry} :
    d ∈ fresh.foldr enterDead l ↔ (∃ n ∈ fresh, d = ⟨n, 1⟩) ∨ d ∈ l := by
  induction fresh with
  | nil => simp
  | cons n fresh ih => simp [enterDead, ih, or_assoc]

/-- An entry enters a dead list at the place that its nozzle has among the nozzles. -/
theorem insertDead_nozzles {e : DeadEntry} {l : List DeadEntry} (new : e.nozzle ∉ l.map DeadEntry.nozzle) :
    (insertDead e l).map DeadEntry.nozzle = insertIndex e.nozzle (l.map DeadEntry.nozzle) := by
  induction l with
  | nil => rfl
  | cons d l ih =>
    obtain ⟨other, new⟩ := not_or.1 (mt List.mem_cons.2 new)
    simp only [insertDead, List.map_cons, insertIndex, other, if_false]
    split
    · rfl
    · rw [List.map_cons, ih new]

theorem enterDeads_nozzles {fresh : List Nat} {l : List DeadEntry} (nodup : fresh.Nodup)
    (apart : ∀ n ∈ fresh, n ∉ l.map DeadEntry.nozzle) :
    (fresh.foldr enterDead l).map DeadEntry.nozzle = fresh.foldr insertIndex (l.map DeadEntry.nozzle) := by
  induction fresh with
  | nil => rfl
  | cons n fresh ih =>
    obtain ⟨once, nodup⟩ := List.nodup_cons.1 nodup
    obtain ⟨absent, apart⟩ := List.forall_mem_cons.1 apart
    have entered := ih nodup apart
    rw [List.foldr_cons, enterDead, insertDead_nozzles (by simp [entered, once, absent]), entered, List.foldr_cons]

/-! ### What a report names (R154) -/

@[simp] theorem mem_missingSet {n : Nat} {retired reported : List Nat} :
    n ∈ missingSet retired reported ↔ n ∈ reported ∧ n ∉ retired := by simp [missingSet]

theorem mem_keptEntries {d : DeadEntry} {dead : List DeadEntry} {missing : List Nat} : d ∈ keptEntries dead missing ↔
    ∃ e ∈ dead, e.nozzle ∈ missing ∧ { e with misses := min 3 (e.misses + 1) } = d := by
  simp [keptEntries, and_assoc]

theorem keptEntries_nozzles (dead : List DeadEntry) (missing : List Nat) :
    (keptEntries dead missing).map DeadEntry.nozzle = (dead.map DeadEntry.nozzle).filter (missing.contains ·) := by
  rw [keptEntries, List.map_map, List.filter_map]
  rfl

theorem mem_newNozzles {n : Nat} {dead : List DeadEntry} {missing : List Nat} :
    n ∈ newNozzles dead missing ↔ n ∈ missing ∧ n ∉ dead.map DeadEntry.nozzle := by
  simp [newNozzles]

/-! ### A channel's report (R154 to R156) -/

section
variable (r : NozzleRec) (reported : List Nat)

/-- The old entries that are missing again. -/
def NozzleRec.kept : List DeadEntry := keptEntries r.dead (missingSet r.retired reported)

/-- The nozzles that are missing with no old entry. -/
def NozzleRec.fresh : List Nat := newNozzles r.dead (missingSet r.retired reported)

/-- The room that the old entries leave. -/
def NozzleRec.room : Nat := Config.deadMax - (r.kept reported).length

theorem NozzleRec.applyReport_eq (flag : Bool) : r.applyReport reported flag =
    { r with
      dead := ((r.fresh reported).take (r.room reported)).foldr enterDead (r.kept reported)
      overflow := flag || decide (r.room reported < (r.fresh reported).length) } := rfl

theorem NozzleRec.mem_fresh {n : Nat} :
    n ∈ r.fresh reported ↔ (n ∈ reported ∧ n ∉ r.retired) ∧ n ∉ r.dead.map DeadEntry.nozzle := by
  rw [NozzleRec.fresh, mem_newNozzles, mem_missingSet]

theorem NozzleRec.mem_kept_nozzles {n : Nat} :
    n ∈ (r.kept reported).map DeadEntry.nozzle ↔ n ∈ r.dead.map DeadEntry.nozzle ∧ n ∈ reported ∧ n ∉ r.retired := by
  rw [NozzleRec.kept, keptEntries_nozzles, List.mem_filter, List.contains_iff_mem, mem_missingSet]

theorem NozzleRec.fresh_nodup : (r.fresh reported).Nodup :=
  ((sortIndices_sorted _).imp Nat.ne_of_lt).filter _

/-- R154, R156: an entry after a report is an old one with a miss more, or a new one that found room. -/
theorem NozzleRec.mem_applyReport_dead {flag : Bool} {d : DeadEntry} : d ∈ (r.applyReport reported flag).dead ↔
    (∃ n ∈ (r.fresh reported).take (r.room reported), d = ⟨n, 1⟩) ∨ d ∈ r.kept reported := by
  rw [r.applyReport_eq, mem_enterDeads]

variable {r} in
/-- R154: a dead entry that is missing again is kept. -/
theorem NozzleRec.Legal.mem_kept (legal : r.Legal) {d : DeadEntry} : d ∈ r.kept reported ↔
    ∃ e ∈ r.dead, e.nozzle ∈ reported ∧ { e with misses := min 3 (e.misses + 1) } = d := by
  obtain ⟨-, -, -, -, -, -, apart⟩ := legal
  rw [NozzleRec.kept, mem_keptEntries]
  refine exists_congr fun e => and_congr_right fun he => and_congr_left fun _ => ?_
  rw [mem_missingSet, and_iff_left (apart e he)]

/-- A nozzle that enters has no old entry that is kept. -/
theorem NozzleRec.fresh_not_kept {n : Nat} (fresh : n ∈ (r.fresh reported).take (r.room reported)) :
    n ∉ (r.kept reported).map DeadEntry.nozzle := fun kept =>
  ((r.mem_fresh reported).1 (List.mem_of_mem_take fresh)).2 ((r.mem_kept_nozzles reported).1 kept).1

/-- The nozzles of the dead list after a report. -/
theorem NozzleRec.applyReport_nozzles (flag : Bool) : (r.applyReport reported flag).dead.map DeadEntry.nozzle =
    ((r.fresh reported).take (r.room reported)).foldr insertIndex ((r.kept reported).map DeadEntry.nozzle) :=
  enterDeads_nozzles ((r.fresh_nodup reported).sublist (List.take_sublist _ _)) fun _ => r.fresh_not_kept reported

theorem NozzleRec.applyReport_length (flag : Bool) : (r.applyReport reported flag).dead.length =
    min (r.room reported) (r.fresh reported).length + (r.kept reported).length := by
  rw [← List.length_map, r.applyReport_nozzles, insertIndices_length
    ((r.fresh_nodup reported).sublist (List.take_sublist _ _)) fun _ => r.fresh_not_kept reported, List.length_take,
    List.length_map]

variable {r reported}

/-- R152: a report leaves a channel's tables legal. -/
theorem NozzleRec.Legal.applyReport (legal : r.Legal) (named : ∀ n ∈ reported, n < 512) (flag : Bool) :
    (r.applyReport reported flag).Legal := by
  have entry (d : DeadEntry) (hd : d ∈ (r.applyReport reported flag).dead) :
      (d.nozzle ∈ reported ∧ d.nozzle ∉ r.retired) ∧ 1 ≤ d.misses ∧ d.misses ≤ 3 := by
    rcases (r.mem_applyReport_dead reported).1 hd with ⟨n, fresh, rfl⟩ | kept
    · exact ⟨((r.mem_fresh reported).1 (List.mem_of_mem_take fresh)).1, by simp⟩
    · refine ⟨((r.mem_kept_nozzles reported).1 (List.mem_map_of_mem kept)).2, ?_⟩
      obtain ⟨e, -, -, rfl⟩ := (legal.mem_kept reported).1 kept
      dsimp only
      omega
  obtain ⟨sorted, short, -, retiredSorted, retiredShort, retiredFits, -⟩ := legal
  refine ⟨?_, ?_, fun d hd => ⟨named _ (entry d hd).1.1, (entry d hd).2⟩, retiredSorted, retiredShort, retiredFits,
    fun d hd => (entry d hd).1.2⟩
  · rw [r.applyReport_nozzles, NozzleRec.kept, keptEntries_nozzles]
    exact insertIndices_sorted _ (sorted.filter _)
  · have fewer : (r.kept reported).length ≤ r.dead.length := by
      rw [NozzleRec.kept, keptEntries, List.length_map]
      exact List.length_filter_le _ _
    have bound : r.room reported + (r.kept reported).length ≤ Config.deadMax := by
      rw [NozzleRec.room, Nat.sub_add_cancel (fewer.trans short)]
    rw [r.applyReport_length]
    omega

/-- R154, R155: the entries after a report. -/
theorem NozzleRec.Legal.of_mem_applyReport (legal : r.Legal) {flag : Bool} {d : DeadEntry}
    (listed : d ∈ (r.applyReport reported flag).dead) : d.nozzle ∈ reported ∧
      ((∃ e ∈ r.dead, e.nozzle = d.nozzle ∧ d.misses = min 3 (e.misses + 1)) ∨
        ((∀ e ∈ r.dead, e.nozzle ≠ d.nozzle) ∧ d.misses = 1)) := by
  rcases (r.mem_applyReport_dead reported).1 listed with ⟨n, fresh, rfl⟩ | kept
  · obtain ⟨⟨missing, -⟩, new⟩ := (r.mem_fresh reported).1 (List.mem_of_mem_take fresh)
    exact ⟨missing, .inr ⟨fun e he same => new (List.mem_map.2 ⟨e, he, same⟩), rfl⟩⟩
  · obtain ⟨e, old, missing, rfl⟩ := (legal.mem_kept reported).1 kept
    exact ⟨missing, .inl ⟨e, old, rfl, rfl⟩⟩

/-- R156: what the dead list has no room for is a missing nozzle that it does not name. -/
theorem NozzleRec.room_lt_iff (flag : Bool) : r.room reported < (r.fresh reported).length ↔
    ∃ n ∈ reported, n ∉ r.retired ∧ ∀ d ∈ (r.applyReport reported flag).dead, d.nozzle ≠ n := by
  have unnamed (n : Nat) : (∀ d ∈ (r.applyReport reported flag).dead, d.nozzle ≠ n) ↔
      n ∉ (r.fresh reported).take (r.room reported) ∧ n ∉ (r.kept reported).map DeadEntry.nozzle := by
    rw [← not_or, ← mem_insertIndices, ← r.applyReport_nozzles reported flag]
    simp
  rw [lt_length_iff_exists_not_mem_take (r.fresh_nodup reported)]
  refine exists_congr fun n => ?_
  rw [unnamed, r.mem_kept_nozzles, r.mem_fresh]
  tauto

end

/-! ### Retirement (R157) -/

section
variable {r : NozzleRec}

theorem NozzleRec.mem_retire_dead {d : DeadEntry} : d ∈ r.retire.dead ↔ d ∈ r.dead ∧ d.nozzle ∉ r.retiring := by
  simp [NozzleRec.retire]

theorem NozzleRec.mem_retire_retired {n : Nat} : n ∈ r.retire.retired ↔ n ∈ r.retiring ∨ n ∈ r.retired := mem_insertIndices

theorem NozzleRec.retiring_sublist : r.retiring.Sublist (r.dead.map DeadEntry.nozzle) :=
  (List.take_sublist _ _).trans (List.filter_sublist.map _)

theorem NozzleRec.retiring_length :
    r.retiring.length = min (Config.retiredMax - r.retired.length) r.retirable.length := List.length_take

/-- R157: a dead entry is a candidate by its three misses. -/
theorem NozzleRec.Legal.mem_retirable (legal : r.Legal) {d : DeadEntry} (dead : d ∈ r.dead) :
    d.nozzle ∈ r.retirable ↔ d.misses = 3 := by
  obtain ⟨sorted, -⟩ := legal
  have distinct : (r.dead.map DeadEntry.nozzle).Nodup := sorted.imp Nat.ne_of_lt
  rw [NozzleRec.retirable, List.mem_map]
  constructor
  · rintro ⟨e, candidate, same⟩
    obtain ⟨listed, three⟩ := List.mem_filter.1 candidate
    rw [← List.inj_on_of_nodup_map distinct listed dead same]
    simpa using three
  · exact fun three => ⟨d, List.mem_filter.2 ⟨dead, by simpa using three⟩, rfl⟩

theorem NozzleRec.Legal.retiring_apart (legal : r.Legal) : ∀ n ∈ r.retiring, n ∉ r.retired := by
  obtain ⟨-, -, -, -, -, -, apart⟩ := legal
  intro n retiring
  obtain ⟨d, dead, rfl⟩ := List.mem_map.1 (NozzleRec.retiring_sublist.subset retiring)
  exact apart d dead

theorem NozzleRec.Legal.retire_length (legal : r.Legal) : r.retire.retired.length = r.retiring.length + r.retired.length := by
  have apart := legal.retiring_apart
  obtain ⟨sorted, -⟩ := legal
  exact insertIndices_length ((sorted.imp Nat.ne_of_lt).sublist NozzleRec.retiring_sublist) apart

/-- R152: retirement leaves a channel's tables legal. -/
theorem NozzleRec.Legal.retire (legal : r.Legal) : r.retire.Legal := by
  have length := legal.retire_length
  obtain ⟨sorted, short, fits, retiredSorted, retiredShort, retiredFits, apart⟩ := legal
  refine ⟨sorted.sublist (List.filter_sublist.map _), (List.length_filter_le _ _).trans short,
    fun d hd => fits d (NozzleRec.mem_retire_dead.1 hd).1, insertIndices_sorted _ retiredSorted, ?_, fun n hn => ?_,
    fun d hd retired => ?_⟩
  · rw [length, NozzleRec.retiring_length]
    omega
  · rcases NozzleRec.mem_retire_retired.1 hn with retiring | retired
    · obtain ⟨d, dead, rfl⟩ := List.mem_map.1 (NozzleRec.retiring_sublist.subset retiring)
      exact (fits d dead).1
    · exact retiredFits n retired
  · obtain ⟨dead, stays⟩ := NozzleRec.mem_retire_dead.1 hd
    exact (NozzleRec.mem_retire_retired.1 retired).elim stays (apart d dead)

/-- R157: a candidate leaves the dead list for the retired list, where it finds room. -/
theorem NozzleRec.Legal.retired_iff (legal : r.Legal) {d : DeadEntry} (dead : d ∈ r.dead) :
    d.nozzle ∈ r.retire.retired ↔ d ∉ r.retire.dead := by
  obtain ⟨-, -, -, -, -, -, apart⟩ := legal
  rw [NozzleRec.mem_retire_retired, NozzleRec.mem_retire_dead, or_iff_left (apart d dead), not_and_not_right]
  exact ⟨fun retiring _ => retiring, fun leaves => leaves dead⟩

/-- R157: with room for all the candidates none stays. -/
theorem NozzleRec.Legal.retire_dead_misses (legal : r.Legal) (room : r.exhausted = false) :
    ∀ d ∈ r.retire.dead, d.misses ≠ 3 := by
  intro d hd three
  obtain ⟨dead, stays⟩ := NozzleRec.mem_retire_dead.1 hd
  have all : r.retiring = r.retirable := List.take_of_length_le (Nat.le_of_not_lt (of_decide_eq_false room))
  exact stays (all ▸ (legal.mem_retirable dead).2 three)

/-- R157: a retired list without room for all the candidates is filled. -/
theorem NozzleRec.Legal.retire_fills (legal : r.Legal) (full : r.exhausted = true) : r.retire.retired.length = 16 := by
  have more := of_decide_eq_true full
  rw [legal.retire_length, NozzleRec.retiring_length, Nat.min_eq_left more.le]
  obtain ⟨-, -, -, -, short, -⟩ := legal
  exact Nat.sub_add_cancel short

end

/-- Settles O32: the lists after a report and after retirement, entry by entry. -/
theorem checkReportsAndRetirement : Obligations.CheckReportsAndRetirement := by
  refine ⟨fun r reported flag legal named => ?_, fun r legal => ?_⟩
  · refine ⟨legal.applyReport named flag, rfl, fun d dead missing => ?_, fun d => legal.of_mem_applyReport, ?_⟩
    · exact (r.mem_applyReport_dead reported).2 (.inr ((legal.mem_kept reported).2 ⟨d, dead, missing, rfl⟩))
    · rw [← NozzleRec.room_lt_iff flag, r.applyReport_eq]
      simp
  · refine ⟨legal.retire, rfl, fun n retired => NozzleRec.mem_retire_retired.2 (.inr retired), fun d dead few => ?_,
      fun d dead _ => legal.retired_iff dead, legal.retire_dead_misses, legal.retire_fills⟩
    exact NozzleRec.mem_retire_dead.2 ⟨dead, fun retiring => few ((legal.mem_retirable dead).1 (List.mem_of_mem_take retiring))⟩

end Sys2Proof.Machine
end

section
/-!
SUPPORT. The channel's tables that RETIRED_RESTORE leaves (R161), the one change of the tables that it makes (R160), and its refusals.
O33 is settled from it.
-/

namespace Sys2Proof.Machine

/-! ### A restored list -/

section
variable (r : NozzleRec) (indices : List Nat)

theorem NozzleRec.restore_retired : (r.restore indices).retired = sortIndices indices := rfl

theorem NozzleRec.restore_overflow : (r.restore indices).overflow = r.overflow := rfl

theorem NozzleRec.restore_dead :
    (r.restore indices).dead = r.dead.filter fun d => !indices.contains d.nozzle := by
  have same (n : Nat) : (sortIndices indices).contains n = indices.contains n := by
    rw [Bool.eq_iff_iff, List.contains_iff_mem, List.contains_iff_mem, mem_sortIndices]
  simp only [NozzleRec.restore, NozzleRec.regrade, same]

/-- R158: the restored channel is graded by what its dead list has become. -/
theorem NozzleRec.restore_grade :
    (r.restore indices).grade = gradeOf (r.restore indices).dead.length (r.restore indices).overflow := rfl

end

/-- R160: where one channel's table is replaced, its lists and flag tell whether the tables changed. -/
theorem nozzlesChanged_set (old : Six NozzleRec) (c : Channel) (x : NozzleRec) : nozzlesChanged old (old.set c x) = true ↔
    ¬(x.dead = (old.get c).dead ∧ x.retired = (old.get c).retired ∧ x.overflow = (old.get c).overflow) := by
  have differs : nozzlesChanged old (old.set c x) = true ↔ ∃ c' : Channel, (old.get c').dead ≠ ((old.set c x).get c').dead ∨
      (old.get c').retired ≠ ((old.set c x).get c').retired ∨ (old.get c').overflow ≠ ((old.set c x).get c').overflow := by
    simp [nozzlesChanged, Channel.mem_all, or_assoc]
  rw [differs]
  constructor
  · rintro ⟨c', other⟩
    by_cases named : c' = c
    · subst named
      rw [Six.get_set_same] at other
      tauto
    · simp [named] at other
  · intro changed
    refine ⟨c, ?_⟩
    rw [Six.get_set_same]
    tauto

/-! ### RETIRED_RESTORE by mode and operands -/

section
variable {s : State} {channel count : Nat} {indices : List Nat}

theorem decideRetiredRestore_wrongState (mode : s.inStart = false) :
    decideRetiredRestore channel count indices s = Answer.refuse s .wrongState := by
  simp [decideRetiredRestore, mode]

theorem decideRetiredRestore_badOperand (mode : s.inStart = true)
    (bad : 5 < channel ∨ 16 < count ∨ ∃ n ∈ indices, 512 ≤ n) :
    decideRetiredRestore channel count indices s = Answer.refuse s .badOperand := by
  simp only [decideRetiredRestore, mode, Bool.not_true, Bool.false_eq_true, if_false]
  cases named : Channel.ofNat? channel with
  | none => rfl
  | some c =>
    have inside : ¬5 < channel := fun above => by rw [Channel.ofNat?_none above] at named; cases named
    refine if_pos ?_
    rcases bad with above | many | ⟨n, listed, above⟩
    · exact absurd above inside
    · exact .inl many
    · exact .inr (.inr (List.any_eq_true.2 ⟨n, listed, decide_eq_true above⟩))

/-- The tables with the channel's retired list replaced. -/
def State.restored (s : State) (c : Channel) (indices : List Nat) : Six NozzleRec :=
  s.nozzles.chan.set c ((s.nozzles.chan.get c).restore indices)

theorem decideRetiredRestore_accepts {c : Channel} (mode : s.inStart = true) (named : Channel.ofNat? channel = some c)
    (few : count ≤ 16) (counted : indices.length = count) (inside : ∀ n ∈ indices, n < 512) :
    decideRetiredRestore channel count indices s = Answer.accept (s.putNozzles (s.restored c indices)) := by
  simp only [decideRetiredRestore, mode, named, Bool.not_true, Bool.false_eq_true, if_false]
  refine if_neg ?_
  rw [List.any_eq_true]
  rintro (many | many | ⟨n, listed, above⟩)
  · exact absurd many (Nat.not_lt.2 few)
  · exact absurd many (Nat.not_lt.2 (counted ▸ few))
  · exact absurd (of_decide_eq_true above) (Nat.not_le.2 (inside n listed))

theorem State.restored_same (s : State) (c : Channel) (indices : List Nat) :
    (s.restored c indices).get c = (s.nozzles.chan.get c).restore indices := Six.get_set_same _ _ _

/-- R160: the tables change where a list of the restored channel does. -/
theorem State.nozzlesChanged_restored (s : State) (c : Channel) (indices : List Nat) :
    nozzlesChanged s.nozzles.chan (s.restored c indices) = true ↔
      ¬(((s.restored c indices).get c).retired = (s.nozzles.chan.get c).retired ∧
        ((s.restored c indices).get c).dead = (s.nozzles.chan.get c).dead) := by
  rw [State.restored_same, State.restored, nozzlesChanged_set, NozzleRec.restore_overflow]
  tauto

theorem State.replied_nozzles (t s : State) (p : Port) (cmd : Nat) (code : ReplyCode) (v n : Nat) :
    (t.replied s p cmd code v n).nozzles = t.nozzles := t.modPort_nozzles p _

/-- A reply leaves what is latched. -/
theorem State.Latched.replied {t : State} {e : Event} (latched : t.Latched e) (s : State) (p : Port) (cmd : Nat) (code : ReplyCode)
    (v n : Nat) : (t.replied s p cmd code v n).Latched e := by
  intro q routed
  have events : ((t.replied s p cmd code v n).ports.get q).events = (t.ports.get q).events := by
    by_cases same : q = p
    · rw [same, State.replied_events]
    · rw [State.replied, State.modPort_get_other _ _ _ _ same]
  rw [events]
  exact latched q routed

/-- A wake leaves the nozzle tables. -/
theorem State.wake_nozzles (s : State) : s.wake.nozzles = s.nozzles := by
  unfold State.wake
  split
  · exact State.settle_nozzles _
  · rfl

end

/-- R161: a taken RETIRED_RESTORE is decided by its owning rule. -/
theorem exec_retiredRestore {s : State} {p : Port} {channel count : Nat} (takes : s.Takes p Cmd.retiredRestore)
    (indices : List Nat) : exec (.retiredRestore p channel count indices) s =
      .next ((decideRetiredRestore channel count indices s).after.replied s p 0x66
        (decideRetiredRestore channel count indices s).code (decideRetiredRestore channel count indices s).value
        (2 + 2 * indices.length)) :=
  congrArg Host.Outcome.next (s.takeWrite_takes p takes _ _)

/-- R161: in START an operand list in range replaces the channel's retired list. -/
theorem exec_retiredRestore_replaces {s : State} {p : Port} {channel count : Nat} {indices : List Nat} {c : Channel}
    (takes : s.Takes p Cmd.retiredRestore) (start : s.inStart = true) (named : Channel.ofNat? channel = some c)
    (few : count ≤ 16) (counted : indices.length = count) (inside : ∀ n ∈ indices, n < 512) :
    exec (.retiredRestore p channel count indices) s =
      .next ((s.putNozzles (s.restored c indices)).replied s p 0x66 .accepted 0 (2 + 2 * indices.length)) := by
  rw [exec_retiredRestore takes, decideRetiredRestore_accepts start named few counted inside]
  rfl

/-- Settles O33: by the mode; in START one change of the tables, with the restored channel's lists, flag and grade. -/
theorem retiredRestoreReplaces : Obligations.RetiredRestoreReplaces := by
  intro s p channel count indices
  have taken (takes : s.Takes p Cmd.retiredRestore) := exec_retiredRestore (channel := channel) (count := count) takes indices
  refine ⟨fun takes start c named few counted inside => ?_, fun takes run => ?_, fun takes start bad => ?_,
    fun line port sleep => ?_⟩
  · have frame : Frame [.ports, .nozzles] s ((s.putNozzles (s.restored c indices)).replied s p 0x66 .accepted 0
        (2 + 2 * indices.length)) :=
      (s.putNozzles_frame _).join (State.replied_frame _ _ _ _ _ _ _) (by decide) (by decide)
    refine ⟨_, exec_retiredRestore_replaces takes start named few counted inside, State.replied_reply _ _ _ _ _ _ _, ?_⟩
    have changed := s.nozzlesChanged_restored c indices
    have latched (h : nozzlesChanged s.nozzles.chan (s.restored c indices) = true) :=
      (State.putNozzles_latched h).replied s p 0x66 .accepted 0 (2 + 2 * indices.length)
    simp only [State.replied_nozzles, State.putNozzles_nozzles, changed]
    refine ⟨?_, fun n => ?_, ?_, ?_, ?_, fun c' other => Six.get_set_other _ _ _ _ other, ?_, frame⟩
    · rw [State.restored_same]
      exact sortIndices_sorted indices
    · rw [State.restored_same]
      exact mem_sortIndices
    · rw [State.restored_same, NozzleRec.restore_dead]
    · rw [State.restored_same, NozzleRec.restore_overflow]
    · rw [State.restored_same, NozzleRec.restore_grade, NozzleRec.restore_overflow]
      rfl
    · split
      next => rfl
      next different => exact ⟨rfl, latched (changed.2 different)⟩
  · rw [taken takes, decideRetiredRestore_wrongState (State.of_inRun run).1]
    rfl
  · rw [taken takes, decideRetiredRestore_badOperand start bad]
    rfl
  · subst port
    have asleep : exec (.retiredRestore .pp channel count indices) s =
        .next (s.replied s .pp 0x66 .asleep 0 (2 + 2 * indices.length)).wake :=
      congrArg Host.Outcome.next (s.takeWrite_asleep (p := .pp) (cmd := Cmd.retiredRestore) line rfl sleep _ _)
    refine ⟨_, asleep, ?_, ?_⟩
    · rw [State.wake_reply, State.replied_reply]
    · rw [State.wake_nozzles, State.replied_nozzles]

end Sys2Proof.Machine
end

section
/-!
SUPPORT. What data out carries for a table: the length of every entry (10.4), entries sent one after another (R162), and their bytes as
they are clocked out (R166).
-/

namespace Sys2Proof.Machine

/-! ### The length of an entry (10.4) -/

@[simp] theorem bytesBE_length (w n : Nat) : (bytesBE w n).length = w := by
  induction w generalizing n with
  | zero => rfl
  | succ w ih => rw [bytesBE, List.length_append, ih, List.length_singleton]

@[simp] theorem byte_length (n : Nat) : (byte n).length = 1 := bytesBE_length 1 n

@[simp] theorem sixBytes_length (w : Nat) (v : Six Nat) : (sixBytes w v).length = 6 * w := by
  simp [sixBytes, Six.toList]
  omega

theorem State.channelEntry_length (s : State) (c : Channel) : (s.channelEntry c).length = 24 := by
  cases pump : s.manifold.pump with
  | free => simp [State.channelEntry, pump]
  | suction q => simp [State.channelEntry, pump]
  | stroke q =>
    simp only [State.channelEntry, pump]
    split <;> simp

theorem identityBytes_length (i : Option Identity) : (identityBytes i).length = 12 := by
  cases i <;> simp [identityBytes]

theorem State.slotEntry_length (s : State) (k : SlotId) : (s.slotEntry k).length = 30 := by
  simp [State.slotEntry, identityBytes_length]

theorem jobBytes_length (j : LinkJob) : (jobBytes j).length = 5 := by simp [jobBytes]

theorem ticketEntry_length (t : Ticket) : (ticketEntry t).length = 27 := by simp [ticketEntry]

theorem sheetEntry_length (h : Sheet) : (sheetEntry h).length = 51 := by simp [sheetEntry]

theorem outcomeEntry_length (e : OutcomeEntry) : (outcomeEntry e).length = 29 := by simp [outcomeEntry]

theorem rollEntry_length (x : RollRec) : (rollEntry x).length = 9 := by simp [rollEntry]

theorem stationEntry_length (t : Station) : (stationEntry t).length = 30 := by
  cases suction : t.suction <;> simp [stationEntry, suction, Three.toList]

theorem itemEntry_length (i : Item) (last : Nat) : (itemEntry i last).length = 9 := by simp [itemEntry]

theorem nozzleEntry_length (r : NozzleRec) : (nozzleEntry r).length = 4 := by simp [nozzleEntry]

/-- The fields of a place fill its entry but for the tag. -/
theorem State.placeFields_length {s : State} {x : TableId} {n : Nat} {fields : List Byte}
    (holds : s.placeFields x n = some fields) : fields.length + 1 = x.entryLength := by
  cases x <;> simp only [State.placeFields, Option.map_eq_some_iff, Option.some.injEq] at holds
  case channel => obtain ⟨c, -, rfl⟩ := holds; rw [State.channelEntry_length]; rfl
  case slot => obtain ⟨k, -, rfl⟩ := holds; rw [State.slotEntry_length]; rfl
  case linkJob => obtain ⟨j, -, rfl⟩ := holds; rw [jobBytes_length]; rfl
  case ticket => obtain ⟨t, -, rfl⟩ := holds; rw [ticketEntry_length]; rfl
  case sheet => obtain ⟨h, -, rfl⟩ := holds; rw [sheetEntry_length]; rfl
  case outcome => obtain ⟨e, -, rfl⟩ := holds; rw [outcomeEntry_length]; rfl
  case roll => obtain ⟨r, -, rfl⟩ := holds; rw [rollEntry_length]; rfl
  case station => rw [← holds, stationEntry_length]; rfl
  case service =>
    split at holds
    next => obtain ⟨a, -, rfl⟩ := Option.map_eq_some_iff.1 holds; rw [itemEntry_length]; rfl
    next => obtain ⟨i, -, rfl⟩ := Option.map_eq_some_iff.1 holds; rw [itemEntry_length]; rfl
  case health =>
    split at holds
    next => obtain rfl := Option.some.inj holds; simp [TableId.entryLength]
    next => obtain ⟨c, -, rfl⟩ := Option.map_eq_some_iff.1 holds; rw [nozzleEntry_length]; rfl
  case dead =>
    split at holds
    next => cases holds
    next => obtain ⟨d, -, rfl⟩ := Option.map_eq_some_iff.1 holds; simp [TableId.entryLength]
  case retired =>
    split at holds
    next => cases holds
    next => obtain ⟨d, -, rfl⟩ := Option.map_eq_some_iff.1 holds; simp [TableId.entryLength]

section
variable (s : State) (x : TableId)

/-- R162: at the end place an entry is 0FFh bytes. -/
theorem State.tableEntry_end {n : Nat} (beyond : x.places ≤ n) : s.tableEntry x n = List.replicate x.entryLength 0xFF :=
  if_pos beyond

@[simp] theorem State.tableEntry_length (n : Nat) : (s.tableEntry x n).length = x.entryLength := by
  unfold State.tableEntry
  split
  · exact List.length_replicate
  · split
    next holds => exact State.placeFields_length holds
    next => exact List.length_replicate

/-! ### Entries one after another (R162) -/

/-- The entries of m places from a place on. -/
def State.entries (place m : Nat) : List Byte := ((List.range m).map fun i => s.tableEntry x (place + i)).flatten

theorem State.stream_some (cur : Cursor) (m : Nat) : s.stream (some cur) m = s.entries cur.table cur.place m := rfl

theorem State.entries_succ (place m : Nat) :
    s.entries x place (m + 1) = s.entries x place m ++ s.tableEntry x (place + m) := by
  simp [State.entries, List.range_succ]

@[simp] theorem State.entries_length (place m : Nat) : (s.entries x place m).length = x.entryLength * m := by
  induction m with
  | zero => rfl
  | succ m ih => rw [State.entries_succ, List.length_append, ih, State.tableEntry_length, Nat.mul_succ]

/-- Byte j of the entries stands in the entry that its place among them gives. -/
theorem State.entries_getElem? {place m j : Nat} (inside : j < x.entryLength * m) :
    (s.entries x place m)[j]? = (s.tableEntry x (place + j / x.entryLength))[j % x.entryLength]? := by
  induction m with
  | zero => exact absurd inside (Nat.not_lt_zero j)
  | succ m ih =>
    rw [State.entries_succ, List.getElem?_append, State.entries_length]
    split
    next earlier => exact ih earlier
    next last =>
      have parts : j = x.entryLength * m + (j - x.entryLength * m) := by omega
      have short : j - x.entryLength * m < x.entryLength := by rw [Nat.mul_succ] at inside; omega
      have quotient : j / x.entryLength = m := by
        rw [parts, Nat.mul_add_div (by omega), Nat.div_eq_of_lt short, Nat.add_zero]
      have remainder : j % x.entryLength = j - x.entryLength * m := by
        rw [Nat.mod_eq_sub, quotient]
      rw [quotient, remainder]

end

/-! ### Bytes clocked out (R166) -/

theorem clockOut_length (bits : Nat) (data : List Byte) : (clockOut bits data).length = (bits + 7) / 8 := by
  cases bits with
  | zero => rfl
  | succ bits =>
    simp only [clockOut]
    split <;> simp only [List.length_append, List.length_take, List.length_replicate, List.length_singleton] <;> omega

/-- The bytes sent whole are those of the data, where it does not end before. -/
theorem clockOut_take {bits : Nat} {data : List Byte} (enough : bits / 8 ≤ data.length) :
    (clockOut bits data).take (bits / 8) = data.take (bits / 8) := by
  cases bits with
  | zero => rfl
  | succ bits =>
    have whole : (data.take ((bits + 1) / 8)).length = (bits + 1) / 8 := List.length_take_of_le enough
    simp only [clockOut, Nat.sub_eq_zero_of_le enough, List.replicate_zero, List.append_nil]
    split
    · rw [List.take_take, min_self]
    · rw [List.take_left' whole]

theorem clockOut_bytes {n : Nat} {data : List Byte} (enough : n ≤ data.length) : clockOut (8 * n) data = data.take n := by
  have whole : 8 * n / 8 = n := by omega
  have length : (clockOut (8 * n) data).length = n := by rw [clockOut_length]; omega
  rw [← List.take_of_length_le length.le]
  simpa only [whole] using clockOut_take (bits := 8 * n) (data := data) (by rwa [whole])

end Sys2Proof.Machine
end

section
/-!
SUPPORT. TABLE_READ (R173), whole and in parts: what a part sends, where it leaves the cursor, and what it keeps of the entry that has
begun. O9 is settled from it.
-/

namespace Sys2Proof.Machine

/-! ### A part of a read -/

section
variable (s : State) (p : Port)

/-- What stands on data out before a part: the sequence number where the read begins, otherwise what the parts before have sent. -/
def State.outBefore : List Byte :=
  if (s.ports.get p).reading = none then [BitVec.ofNat 8 (s.ports.get p).reply.seq] else (s.ports.get p).out

def State.bitsBefore : Nat := if (s.ports.get p).reading = none then 8 else (s.ports.get p).outBits

/-- The parts before have left these bytes of the entry that had begun, none where the read begins. -/
def State.PartLeft (rest : List Byte) : Prop :=
  (s.ports.get p).reading = none ∧ rest = [] ∨ (s.ports.get p).reading = some (.table rest)

/-- The data of a part with so many clocks. -/
def State.partData (rest : List Byte) (c : Clocks) : List Byte :=
  s.entriesFrom (s.ports.get p).cursor rest (c.bits / (8 * entryLength (s.ports.get p).cursor) + 1)

/-- The port's record after a part. -/
def State.partRead (rest : List Byte) (c : Clocks) : PortRec :=
  { s.ports.get p with
    out := s.outBefore p ++ clockOut c.bits (s.partData p rest c)
    outBits := s.bitsBefore p + c.bits }.readTable (s.ports.get p).cursor rest (s.partData p rest c) c

variable {s p} {rest : List Byte}

theorem State.PartLeft.entryLeft (left : s.PartLeft p rest) : (s.ports.get p).entryLeft = rest := by
  rcases left with ⟨begins, rfl⟩ | goesOn
  · rw [PortRec.entryLeft, begins]
  · rw [PortRec.entryLeft, goesOn]

/-- R173: a part of a read sends its data after what was sent before, and changes its port's record alone. -/
theorem exec_tableRead (takes : s.Takes p Cmd.tableRead) (left : s.PartLeft p rest) (c : Clocks) :
    exec (.tableRead p c) s = .next (s.modPort p fun _ => s.partRead p rest c) := by
  have part : exec (.tableRead p c) s = .next (s.takePart p Cmd.tableRead c (s.partData p rest c) fun x =>
      x.readTable (s.ports.get p).cursor rest (s.partData p rest c) c) := by
    rw [← left.entryLeft]
    rfl
  rw [part]
  rcases left with ⟨begins, -⟩ | goesOn
  · rw [s.takePart_begins p takes begins]
    simp only [State.modPort, State.partRead, State.outBefore, State.bitsBefore, begins, if_true]
    rfl
  · rw [s.takePart_goesOn p takes _ goesOn (by simp)]
    simp only [State.modPort, State.partRead, State.outBefore, State.bitsBefore, goesOn, reduceCtorEq, if_false]

end

/-! ### The bytes of a part -/

section
variable (s : State) (cur : Cursor) (rest : List Byte)

/-- The place of the first entry that begins in a part. -/
def Cursor.beginsAt : Nat := if rest = [] then cur.place else cur.place + 1

/-- How many bytes of the entry that had begun were sent before a part. -/
def Cursor.sentOf : Nat := if rest = [] then 0 else cur.table.entryLength - rest.length

/-- R173: a byte of a part is one of what is left of the entry that had begun, or one of an entry as it stands. -/
def State.partByte (i : Nat) : Option Byte :=
  if i < rest.length then rest[i]?
  else (s.tableEntry cur.table (cur.beginsAt rest + (i - rest.length) / cur.table.entryLength))[(i - rest.length) %
    cur.table.entryLength]?

theorem State.entriesFrom_some (m : Nat) :
    s.entriesFrom (some cur) rest m = rest ++ s.entries cur.table (cur.beginsAt rest) m := by
  cases rest <;> rfl

theorem entrySent_some : entrySent (some cur) rest = cur.sentOf rest := by
  cases rest <;> rfl

/-- The data of a part of n bytes. -/
def State.partBytes (n : Nat) : List Byte := s.entriesFrom (some cur) rest (n / cur.table.entryLength + 1)

variable {s cur rest} in
theorem State.entriesFrom_getElem? {m i : Nat} (inside : i < rest.length + cur.table.entryLength * m) :
    (s.entriesFrom (some cur) rest m)[i]? = s.partByte cur rest i := by
  rw [s.entriesFrom_some, List.getElem?_append, State.partByte]
  split
  · rfl
  · exact s.entries_getElem? _ (by omega)

/-- R173: the cursor moves a place for each entry sent whole. -/
theorem Cursor.advance_bytes (n : Nat) : cur.advance (8 * cur.sentOf rest + 8 * n) =
    { cur with
      place := if cur.table.places ≤ cur.place then cur.place
        else min cur.table.places (cur.place + (cur.sentOf rest + n) / cur.table.entryLength) } := by
  rw [Cursor.advance, ← Nat.mul_add, Nat.mul_div_mul_left _ _ (by omega)]

end

/-! ### What a part keeps of the entry that has begun -/

section
variable (cur : Cursor) (rest : List Byte) (n : Nat)

/-- The bytes left of the entry that has begun, after a part of n bytes. -/
def Cursor.leftAfter : Nat :=
  (cur.table.entryLength - (cur.sentOf rest + n) % cur.table.entryLength) % cur.table.entryLength

variable {cur rest} in
/-- The data of a part reaches to the end of the last entry that begins in it. -/
theorem Cursor.leftAfter_le (short : rest.length < cur.table.entryLength) :
    n + cur.leftAfter rest n ≤ rest.length + cur.table.entryLength * (n / cur.table.entryLength + 1) := by
  have division : cur.table.entryLength * (n / cur.table.entryLength) + n % cur.table.entryLength = n := Nat.div_add_mod n _
  have below : (cur.sentOf rest + n) % cur.table.entryLength < cur.table.entryLength := Nat.mod_lt _ (by omega)
  have left : cur.leftAfter rest n ≤ cur.table.entryLength - (cur.sentOf rest + n) % cur.table.entryLength := Nat.mod_le _ _
  have whole : cur.table.entryLength ∣ cur.sentOf rest + rest.length := by
    unfold Cursor.sentOf
    split
    next begins => simp [begins]
    next => rw [Nat.sub_add_cancel short.le]
  have sent : n % cur.table.entryLength ≤ (cur.sentOf rest + n) % cur.table.entryLength + rest.length :=
    calc n % cur.table.entryLength
      _ = (cur.sentOf rest + rest.length + n) % cur.table.entryLength := by
        obtain ⟨k, hk⟩ := whole
        rw [hk, Nat.mul_add_mod]
      _ = ((cur.sentOf rest + n) % cur.table.entryLength + rest.length) % cur.table.entryLength := by
        rw [Nat.mod_add_mod, Nat.add_right_comm]
      _ ≤ _ := Nat.mod_le _ _
  rw [Nat.mul_succ]
  omega

end

/-! ### A part of whole bytes -/

section
variable {s : State} {p : Port} {cur : Cursor} {rest : List Byte} {n i : Nat} {c : Clocks}

theorem Clocks.bits_of_bytes (bytes : c = .rise (8 * n) ∨ c = .hold n) : c.bits = 8 * n := by
  rcases bytes with rfl | rfl <;> rfl

theorem State.partData_bytes (selected : (s.ports.get p).cursor = some cur) (clocks : c.bits = 8 * n) :
    s.partData p rest c = s.partBytes cur rest n := by
  have counted : c.bits / (8 * entryLength (some cur)) = n / cur.table.entryLength := by
    rw [clocks]
    exact Nat.mul_div_mul_left _ _ (by omega)
  rw [State.partData, selected, counted, State.partBytes]

theorem State.partBytes_length (short : rest.length < cur.table.entryLength) :
    n + cur.leftAfter rest n ≤ (s.partBytes cur rest n).length := by
  rw [State.partBytes, s.entriesFrom_some, List.length_append, s.entries_length]
  exact Cursor.leftAfter_le n short

theorem State.partBytes_getElem? (short : rest.length < cur.table.entryLength) (inside : i < n + cur.leftAfter rest n) :
    (s.partBytes cur rest n)[i]? = s.partByte cur rest i :=
  State.entriesFrom_getElem? (inside.trans_le (Cursor.leftAfter_le n short))

section
variable (selected : (s.ports.get p).cursor = some cur) (short : rest.length < cur.table.entryLength) (clocks : c.bits = 8 * n)
include selected short clocks

theorem State.partRead_out : (s.partRead p rest c).out = s.outBefore p ++ (s.partBytes cur rest n).take n := by
  have out : (s.partRead p rest c).out = s.outBefore p ++ clockOut c.bits (s.partData p rest c) := rfl
  rw [out, State.partData_bytes selected clocks, clocks,
    clockOut_bytes ((Nat.le_add_right _ _).trans (State.partBytes_length short))]

theorem State.partRead_out_length : (s.partRead p rest c).out.length = (s.outBefore p).length + n := by
  rw [State.partRead_out selected short clocks, List.length_append,
    List.length_take_of_le ((Nat.le_add_right _ _).trans (State.partBytes_length short))]

theorem State.partRead_out_before : (s.partRead p rest c).out.take (s.outBefore p).length = s.outBefore p := by
  rw [State.partRead_out selected short clocks, List.take_left]

theorem State.partRead_out_byte (sent : i < n) :
    (s.partRead p rest c).out[(s.outBefore p).length + i]? = s.partByte cur rest i := by
  rw [State.partRead_out selected short clocks, List.getElem?_append_right (Nat.le_add_right _ _), Nat.add_sub_cancel_left,
    List.getElem?_take_of_lt sent]
  exact State.partBytes_getElem? short (Nat.lt_add_right _ sent)

end

theorem State.partRead_cursor (selected : (s.ports.get p).cursor = some cur) (rest : List Byte) (c : Clocks) :
    (s.partRead p rest c).cursor = some (cur.advance (8 * cur.sentOf rest + c.bits)) := by
  have moved : (s.partRead p rest c).cursor =
      (s.ports.get p).cursor.map fun x => x.advance (8 * entrySent (s.ports.get p).cursor rest + c.bits) := rfl
  rw [moved, selected, Option.map_some, entrySent_some]

/-- R173: the cursor counts the entries that the parts have sent whole. -/
theorem State.partRead_cursor_bytes (selected : (s.ports.get p).cursor = some cur) (clocks : c.bits = 8 * n) :
    (s.partRead p rest c).cursor = some { cur with
      place := if cur.table.places ≤ cur.place then cur.place
        else min cur.table.places (cur.place + (cur.sentOf rest + n) / cur.table.entryLength) } := by
  rw [State.partRead_cursor selected, clocks, Cursor.advance_bytes]

theorem State.partRead_reading_rise (s : State) (p : Port) (rest : List Byte) (bits : Nat) :
    (s.partRead p rest (.rise bits)).reading = none := rfl

theorem State.partRead_reading_hold (selected : (s.ports.get p).cursor = some cur) :
    (s.partRead p rest (.hold n)).reading =
      some (.table (((s.partBytes cur rest n).drop n).take (cur.leftAfter rest n))) := by
  have reading : (s.partRead p rest (.hold n)).reading = some (.table (((s.partData p rest (.hold n)).drop n).take
      ((entryLength (s.ports.get p).cursor - (entrySent (s.ports.get p).cursor rest + n) % entryLength (s.ports.get p).cursor) %
        entryLength (s.ports.get p).cursor))) := rfl
  rw [reading, State.partData_bytes selected rfl, selected, entrySent_some]
  rfl

/-- R173: while select stays low the rest of the entry that has begun is kept. -/
theorem State.partRead_keeps (selected : (s.ports.get p).cursor = some cur) (short : rest.length < cur.table.entryLength) :
    ∃ left, (s.partRead p rest (.hold n)).reading = some (.table left) ∧ left.length = cur.leftAfter rest n ∧
      ∀ i, i < left.length → left[i]? = s.partByte cur rest (n + i) := by
  have kept : (((s.partBytes cur rest n).drop n).take (cur.leftAfter rest n)).length = cur.leftAfter rest n := by
    refine List.length_take_of_le ?_
    rw [List.length_drop]
    exact Nat.le_sub_of_add_le' (State.partBytes_length short)
  refine ⟨_, State.partRead_reading_hold selected, kept, fun i inside => ?_⟩
  rw [kept] at inside
  rw [List.getElem?_take_of_lt inside, List.getElem?_drop]
  exact State.partBytes_getElem? short (Nat.add_lt_add_left inside n)

end

/-! ### A read that is given whole -/

section
variable {s : State} {p : Port} {cur : Cursor} {k r : Nat}

/-- A read of k whole entries and less than one more. -/
theorem div_entryLength_of_cut (cut : r < 8 * cur.table.entryLength) :
    (8 * (cur.table.entryLength * k) + r) / (8 * cur.table.entryLength) = k := by
  rw [← Nat.mul_assoc, Nat.mul_add_div (by omega), Nat.div_eq_of_lt cut, Nat.add_zero]

/-- R173: such a read sends from k + 1 entries. -/
theorem State.partRead_out_whole (begins : (s.ports.get p).reading = none) (selected : (s.ports.get p).cursor = some cur)
    (cut : r < 8 * cur.table.entryLength) :
    (s.partRead p [] (.rise (8 * (cur.table.entryLength * k) + r))).out = BitVec.ofNat 8 (s.ports.get p).reply.seq ::
      clockOut (8 * (cur.table.entryLength * k) + r) (s.entries cur.table cur.place (k + 1)) := by
  have data : s.partData p [] (.rise (8 * (cur.table.entryLength * k) + r)) = s.entries cur.table cur.place (k + 1) := by
    rw [State.partData, selected]
    exact congrArg (fun m => s.entries cur.table cur.place (m + 1)) (div_entryLength_of_cut cut)
  have out : (s.partRead p [] (.rise (8 * (cur.table.entryLength * k) + r))).out = s.outBefore p ++
      clockOut (8 * (cur.table.entryLength * k) + r) (s.partData p [] (.rise (8 * (cur.table.entryLength * k) + r))) := rfl
  rw [out, data, State.outBefore, if_pos begins]
  rfl

/-- R173: an entry cut short does not move the cursor. -/
theorem State.partRead_cursor_whole (selected : (s.ports.get p).cursor = some cur) (cut : r < 8 * cur.table.entryLength) :
    (s.partRead p [] (.rise (8 * (cur.table.entryLength * k) + r))).cursor = some { cur with
      place := if cur.table.places ≤ cur.place then cur.place else min cur.table.places (cur.place + k) } := by
  have unsent : 8 * cur.sentOf [] + (8 * (cur.table.entryLength * k) + r) = 8 * (cur.table.entryLength * k) + r :=
    Nat.zero_add _
  rw [State.partRead_cursor selected, Clocks.bits, unsent, Cursor.advance, div_entryLength_of_cut cut]

/-- R166: the bytes of a read that is cut r bits into an entry are those of the entries before and the first of that one. -/
theorem State.clockOut_entries (s : State) (cut : r < 8 * cur.table.entryLength) :
    (clockOut (8 * (cur.table.entryLength * k) + r) (s.entries cur.table cur.place (k + 1))).take
      (cur.table.entryLength * k + r / 8) =
    s.entries cur.table cur.place k ++ (s.tableEntry cur.table (cur.place + k)).take (r / 8) := by
  have whole : (8 * (cur.table.entryLength * k) + r) / 8 = cur.table.entryLength * k + r / 8 := by omega
  have enough : (8 * (cur.table.entryLength * k) + r) / 8 ≤ (s.entries cur.table cur.place (k + 1)).length := by
    rw [whole, s.entries_length, Nat.mul_succ]
    omega
  have sent := clockOut_take enough
  rw [whole] at sent
  rw [sent, s.entries_succ, ← s.entries_length cur.table cur.place k, List.take_length_add_append]

end

/-- R173: with no table selected the bytes are 0FFh. -/
theorem exec_tableRead_unselected {s : State} {p : Port} (takes : s.Takes p Cmd.tableRead)
    (begins : (s.ports.get p).reading = none) (unselected : (s.ports.get p).cursor = none) (k : Nat) :
    exec (.tableRead p (.rise (8 * k))) s = .next { s with ports := s.ports.set p { s.ports.get p with
      out := BitVec.ofNat 8 (s.ports.get p).reply.seq :: List.replicate k 0xFF, outBits := 8 + 8 * k } } := by
  have data : s.partData p [] (.rise (8 * k)) = List.replicate (k + 1) 0xFF := by
    have counted : 8 * k / (8 * 1) + 1 = k + 1 := by omega
    rw [State.partData, unselected]
    exact congrArg (List.replicate · 0xFF) counted
  have sent : clockOut (8 * k) (List.replicate (k + 1) (0xFF : Byte)) = List.replicate k 0xFF := by
    rw [clockOut_bytes (by simp), List.take_replicate, min_eq_left (Nat.le_succ k)]
  rw [exec_tableRead takes (.inl ⟨begins, rfl⟩)]
  simp only [State.modPort, State.partRead, PortRec.readTable, data, State.outBefore, State.bitsBefore, begins, unselected,
    Clocks.bits, sent, if_true, Option.map_none, List.singleton_append]
  rfl

/-- Settles O9: a read given whole is a part with nothing left of an entry, and each part sends the bytes of `State.partByte`. -/
theorem tableReadStreamsEntries : Obligations.TableReadStreamsEntries := by
  refine ⟨fun s p k r takes begins => ⟨fun cur selected cut => ?_, fun unselected => ?_⟩,
    fun s p cur rest n c takes selected short left bytes => ?_, fun s x n beyond => s.tableEntry_end x beyond⟩
  · refine ⟨_, exec_tableRead takes (.inl ⟨begins, rfl⟩) _, ?_⟩
    have sent := s.clockOut_entries (cur := cur) (k := k) cut
    have length := s.entries_length cur.table cur.place k
    rw [State.modPort_get_same, State.partRead_out_whole begins selected cut]
    refine ⟨State.partRead_cursor_whole selected cut, congrArg (· + _) (if_pos begins), ?_, ?_, ?_, rfl, rfl, rfl, rfl,
      s.modPort_frame p _, s.modPort_others p _⟩
    · rw [List.length_cons, clockOut_length]
      omega
    · have entries := congrArg (List.take (cur.table.entryLength * k)) sent
      rw [List.take_take, min_eq_left (Nat.le_add_right _ _), List.take_left' length] at entries
      rw [Nat.add_comm 1, List.take_succ_cons, entries]
      rfl
    · have begun := congrArg (List.drop (cur.table.entryLength * k)) sent
      rw [List.drop_left' length, List.drop_take, Nat.add_sub_cancel_left] at begun
      rw [Nat.add_comm 1, List.drop_succ_cons, begun]
  · exact exec_tableRead_unselected takes begins unselected k
  · have clocks := Clocks.bits_of_bytes bytes
    refine ⟨_, exec_tableRead takes left c, ?_⟩
    rw [State.modPort_get_same]
    exact ⟨State.partRead_out_length selected short clocks, State.partRead_out_before selected short clocks,
      fun i => State.partRead_out_byte selected short clocks, State.partRead_cursor_bytes selected clocks,
      fun rises => rises ▸ s.partRead_reading_rise p rest _, fun holds => holds ▸ State.partRead_keeps selected short,
      rfl, rfl, rfl, s.modPort_frame p _, s.modPort_others p _⟩

end Sys2Proof.Machine
end

section
/-!
SUPPORT. Transactions of other ports: an operation spares the ports it does not belong to (`Spares`), and what an owning rule can decide
(`Answer.Decided`): a refusal with value 0, or a command that is taken (R168). One lemma per command; `exec_write` puts them together.
-/

namespace Sys2Proof.Machine

/-! ### What an operation spares -/

/-- Every port but the one given, if any, holds what it held but for its latched events. -/
def Spares (p : Option Port) (s t : State) : Prop := ∀ q, p ≠ some q → (s.ports.get q).SameRecord (t.ports.get q)

namespace Spares

variable {p : Option Port} {s t u : State}

theorem of_base (same : t.base = s.base) : Spares p s t := fun q _ =>
  ⟨congrFun (congrArg Base.reply same) q, congrFun (congrArg Base.mask same) q, congrFun (congrArg Base.cursor same) q,
    congrFun (congrArg Base.out same) q, congrFun (congrArg Base.outBits same) q, congrFun (congrArg Base.reading same) q⟩

@[refl] theorem refl (s : State) : Spares p s s := of_base rfl

theorem of_ports (same : t.ports = s.ports) : Spares p s t := fun _ _ => same ▸ ⟨rfl, rfl, rfl, rfl, rfl, rfl⟩

theorem trans (first : Spares p s t) (second : Spares p t u) : Spares p s u := fun q other =>
  let ⟨reply, mask, cursor, out, outBits, reading⟩ := first q other
  let ⟨reply', mask', cursor', out', outBits', reading'⟩ := second q other
  ⟨reply'.trans reply, mask'.trans mask, cursor'.trans cursor, out'.trans out, outBits'.trans outBits, reading'.trans reading⟩

theorem settle (effect : Spares p s t) : Spares p s t.settle := effect.trans (.of_base t.settle_base)

theorem wake (effect : Spares p s t) : Spares p s t.wake := by
  unfold State.wake
  split
  · exact (effect.trans (of_ports (t := t.enterRun) rfl)).settle
  · exact effect

/-- A transaction's update of its own port. -/
theorem modPort {p : Port} (effect : Spares (some p) s t) (f : PortRec → PortRec) : Spares (some p) s (t.modPort p f) :=
  effect.trans fun q other => by
    rw [t.modPort_get_other p f q fun same => other (congrArg some same.symm)]
    exact ⟨rfl, rfl, rfl, rfl, rfl, rfl⟩

end Spares

/-! ### What an owning rule decides (R168) -/

/-- What the owning rule of a write command of the port decides: it refuses the command and leaves a state of which `left` holds, or it
takes the command, with CLAMPED where an operand was out of its range. Both spare the other ports. -/
inductive Answer.Decided (s : State) (p : Port) (left : State → Prop) : Answer → Prop
  | refused {u : State} {code : ReplyCode} (refuses : code.refuses = true) (leaves : left u) (spares : Spares (some p) s u) :
      Decided s p left (Answer.refuse u code)
  | taken {a : Answer} (takes : a.code = .accepted ∨ a.code = .clamped) (spares : Spares (some p) s a.after) :
      Decided s p left a

namespace Answer.Decided

variable {s t : State} {p : Port}

/-- A refusal changes nothing. -/
theorem refuse {code : ReplyCode} (refuses : code.refuses = true) : (Answer.refuse s code).Decided s p (· = s) :=
  .refused refuses rfl (.refl s)

theorem accept {left : State → Prop} (spares : Spares (some p) s t) : (Answer.accept t).Decided s p left := .taken (.inl rfl) spares

/-- An operation of the blocks, with its reactions. -/
theorem accept_settle {left : State → Prop} (same : t.base = s.base) : (Answer.accept t.settle).Decided s p left :=
  .accept (Spares.of_base same).settle

theorem mono {left left' : State → Prop} {a : Answer} (decided : a.Decided s p left) (weaker : ∀ u, left u → left' u) :
    a.Decided s p left' := by
  cases decided with
  | refused refuses leaves spares => exact .refused refuses (weaker _ leaves) spares
  | taken takes spares => exact .taken takes spares

theorem spares {left : State → Prop} {a : Answer} (decided : a.Decided s p left) : Spares (some p) s a.after := by
  cases decided <;> assumption

/-- The outcomes of an owning rule, and the value of a refusal. -/
theorem outcome {left : State → Prop} {a : Answer} (decided : a.Decided s p left) :
    (a.code = .accepted ∨ a.code = .clamped ∨ a.code.refuses = true) ∧ (a.code.refuses = true → a.value = 0) := by
  cases decided with
  | refused refuses => exact ⟨.inr (.inr refuses), fun _ => rfl⟩
  | taken takes =>
    refine ⟨takes.imp_right .inl, fun refuses => ?_⟩
    rcases takes with code | code <;> rw [code] at refuses <;> cases refuses

/-- A refusal leaves what the rule lets it leave. -/
theorem left_of_refuses {left : State → Prop} {a : Answer} (decided : a.Decided s p left) (refuses : a.code.refuses = true) :
    left a.after := by
  cases decided with
  | refused _ leaves => exact leaves
  | taken takes => rcases takes with code | code <;> rw [code] at refuses <;> cases refuses

end Answer.Decided

section
variable (s : State) (p : Port)

/-! ### The commands of all ports, and the Raster Port's -/

theorem decideSetEventMask_decided (m : BitVec 24) : (decideSetEventMask p m s).Decided s p (· = s) :=
  .taken (.inl rfl) ((Spares.refl s).modPort _)

theorem decideTableSel_decided (table place : Nat) : (decideTableSel p table place s).Decided s p (· = s) := by
  unfold decideTableSel
  repeat' split
  case h_2.isFalse.isFalse => exact .taken (.inl rfl) ((Spares.refl s).modPort _)
  all_goals exact .refuse rfl

theorem decideSheetOpen_decided (pref media width planned top bottom dry mode : Nat) :
    (decideSheetOpen pref media width planned top bottom dry mode s).Decided s p (· = s) := by
  unfold decideSheetOpen
  repeat' split
  case h_1.isFalse.isFalse.isTrue => exact .taken (.inr rfl) (.of_base (by simp))
  case h_1.isFalse.isFalse.isFalse => exact .taken (.inl rfl) (.of_base (by simp))
  all_goals exact .refuse rfl

theorem decideSheetClose_decided (id final : Nat) : (decideSheetClose id final s).Decided s p (· = s) := by
  unfold decideSheetClose
  repeat' split
  case h_2.isFalse.isFalse => exact .accept_settle (by simp)
  all_goals exact .refuse rfl

theorem decideSheetCancel_decided (id : Nat) : (decideSheetCancel id s).Decided s p (· = s) := by
  unfold decideSheetCancel
  repeat' split
  case h_4 | h_5 | h_6 | h_7 | h_8 => exact .accept_settle (by simp)
  all_goals exact .refuse rfl

theorem decideSwathAsk_decided (sheet index advance count : Nat) (pairs : List (Nat × Nat)) :
    (decideSwathAsk sheet index advance count pairs s).Decided s p (· = s) := by
  unfold decideSwathAsk
  dsimp only
  repeat' split
  case h_2.isFalse.isFalse.isFalse.isFalse => exact .taken (.inl rfl) (.of_base (by simp))
  all_goals exact .refuse rfl

theorem decideSwathWithdraw_decided (n : Nat) : (decideSwathWithdraw n s).Decided s p (· = s) := by
  unfold decideSwathWithdraw
  repeat' split
  case h_2.isFalse => exact .accept_settle (by simp)
  all_goals exact .refuse rfl

/-! ### The Carriage Port's -/

theorem decideSwathTake_decided (n : Nat) : (decideSwathTake n s).Decided s p (· = s) := by
  unfold decideSwathTake
  repeat' split
  case h_2.isFalse.isTrue => exact .accept_settle (by simp [State.takeTicket])
  all_goals exact .refuse rfl

theorem decideSwathDone_decided (n count : Nat) (pairs : List (Nat × Nat)) :
    (decideSwathDone n count pairs s).Decided s p (· = s) := by
  unfold decideSwathDone
  repeat' split
  case h_2.isFalse.isTrue => exact .accept_settle (by simp)
  all_goals exact .refuse rfl

theorem State.reportParked_base : s.reportParked.base = s.base := by simp [State.reportParked]

theorem State.reportAway_base : s.reportAway.base = s.base := by
  unfold State.reportAway
  dsimp only
  split <;> simp

theorem decideParkState_decided (code : Nat) : (decideParkState code s).Decided s p (· = s) := by
  unfold decideParkState
  split
  · exact .refuse rfl
  · exact .accept_settle s.reportParked_base
  · exact .accept_settle s.reportAway_base

theorem decideSpitDone_decided (count : Nat) (pairs : List (Nat × Nat)) :
    (decideSpitDone count pairs s).Decided s p (· = s) := by
  unfold decideSpitDone
  repeat' split
  case isFalse.isFalse.isFalse => exact .accept_settle (by simp [State.spitDone])
  all_goals exact .refuse rfl

theorem decideCheckDone_decided (count : Nat) (reports : List CheckReport) :
    (decideCheckDone count reports s).Decided s p (· = s) := by
  unfold decideCheckDone
  repeat' split
  case isFalse.isFalse.isFalse.isFalse => exact .accept_settle (by simp [State.checkDone])
  all_goals exact .refuse rfl

theorem decideOrderDone_decided (kind count : Nat) (pairs : List (Nat × Nat)) (reports : List CheckReport) :
    (decideOrderDone kind count pairs reports s).Decided s p (· = s) := by
  unfold decideOrderDone
  repeat' split
  case isFalse.isTrue => exact decideSpitDone_decided s p count pairs
  case isFalse.isFalse.isTrue => exact decideCheckDone_decided s p count reports
  all_goals exact .refuse rfl

/-! ### The Panel Port's: modes and configuration -/

theorem State.goRun_spares : Spares (some p) s s.goRun :=
  (Spares.of_ports (t := s.enterRun) rfl).trans (.of_base (by simp [State.goRun, State.cleanAll]))

theorem decideGo_decided : (decideGo s).Decided s p (· = s) := by
  unfold decideGo
  split
  · exact .accept (s.goRun_spares p).settle
  · exact .refuse rfl

theorem decideSleepNow_decided : (decideSleepNow s).Decided s p (· = s) := by
  unfold decideSleepNow
  split
  · exact .accept (.of_ports rfl)
  · exact .refuse rfl

theorem State.loadIdleSleep_base : s.loadIdleSleep.base = s.base := State.base_of_still s.loadIdleSleep_still

theorem State.paramActs_base (n : Nat) : (s.paramActs n).base = s.base := by
  unfold State.paramActs
  split
  all_goals simp [State.loadIdleSleep_base]

theorem State.applyParam_spares (n v : Nat) : Spares (some p) s (s.applyParam n v) := by
  unfold State.applyParam
  split
  · exact .refl s
  · exact (Spares.of_ports (t := s.setParams (s.params.put n v)) rfl).trans (.of_base (State.paramActs_base _ n))

/-- R182: a value that was clamped is told so. -/
theorem clampCode_cases (n v : Nat) : clampCode n v = .accepted ∨ clampCode n v = .clamped := by
  unfold clampCode
  split
  · exact .inl rfl
  · exact .inr rfl

theorem decideConfigSet_decided (n mask v : Nat) : (decideConfigSet n mask v s).Decided s p (· = s) := by
  unfold decideConfigSet decideDv
  repeat' split
  case h_2.isFalse => exact .taken (clampCode_cases 1 v) (.of_ports rfl)
  case isFalse.isFalse.isFalse.isFalse.isFalse => exact .taken (clampCode_cases n v) (s.applyParam_spares p n _)
  all_goals exact .refuse rfl

theorem decideConfigLock_decided : (decideConfigLock s).Decided s p (· = s) := .accept (.of_ports rfl)

/-! ### The Panel Port's: slots, levels, rolls -/

theorem decideSlotMapSet_decided (entries : Eight Nat) : (decideSlotMapSet entries s).Decided s p (· = s) := by
  unfold decideSlotMapSet
  repeat' split
  case h_2.isFalse.isFalse.isTrue => exact .accept (.refl s)
  case h_2.isFalse.isFalse.isFalse => exact .accept_settle (by simp)
  all_goals exact .refuse rfl

theorem decideTankAccept_decided (slot ml : Nat) : (decideTankAccept slot ml s).Decided s p (· = s) := by
  unfold decideTankAccept
  split
  · exact .refuse rfl
  split
  · exact .refuse rfl
  split
  · exact .accept_settle (by simp)
  · exact .refuse rfl

theorem decideLevelRestore_decided (channel level : Nat) : (decideLevelRestore channel level s).Decided s p (· = s) := by
  unfold decideLevelRestore
  repeat' split
  case h_2.isTrue => exact .taken (.inr rfl) (.of_base (by simp))
  case h_2.isFalse => exact .taken (.inl rfl) (.of_base (by simp))
  all_goals exact .refuse rfl

theorem decideRetiredRestore_decided (channel count : Nat) (indices : List Nat) :
    (decideRetiredRestore channel count indices s).Decided s p (· = s) := by
  unfold decideRetiredRestore
  repeat' split
  case h_2.isFalse => exact .accept (.of_base (by simp))
  all_goals exact .refuse rfl

theorem decideRollLoad_decided (roll media width length : Nat) :
    (decideRollLoad roll media width length s).Decided s p (· = s) := by
  unfold decideRollLoad
  repeat' split
  case h_2.isFalse.isFalse => exact .accept_settle (by simp [State.describeRoll])
  all_goals exact .refuse rfl

/-! ### The Panel Port's: cleanings and clears -/

theorem decideCleanAsk_decided (mask level urgency : Nat) : (decideCleanAsk mask level urgency s).Decided s p (· = s) := by
  unfold decideCleanAsk
  split
  · exact .refuse rfl
  split
  · exact .refuse rfl
  split
  · exact .accept_settle (by simp)
  split
  · exact .refuse rfl
  · exact .accept_settle (by simp [State.panelCleans])

/-- R94: a refused FEED_CLEAR records the cause. -/
theorem decideFeedClear_decided : (decideFeedClear s).Decided s p fun _ => True := by
  unfold decideFeedClear
  dsimp only
  repeat' split
  · exact .refused rfl trivial (.refl s)
  · exact .refused rfl trivial (.of_base (by simp))
  · exact .accept_settle (by simp)

/-- R131: a refused STATION_CLEAR records the park switch and the cause. -/
theorem decideStationClear_decided (park : ParkState) : (decideStationClear park s).Decided s p fun _ => True := by
  unfold decideStationClear
  dsimp only
  repeat' split
  · exact .refused rfl trivial (.refl s)
  · next x _ =>
    exact .accept ((Spares.of_ports (t := s.setPins { s.pins with parkSwitch := park }) rfl).trans
      (.of_base (by simp [State.stationCleared]))).settle
  · exact .refused rfl trivial (.of_ports rfl)

end

/-! ### Write commands -/

/-- A refusal of the command leaves the state s: every refusal but those of the two clears (R168, R94, R131). -/
def RefusalLeaves (c : Instr) (p : Port) (s u : State) : Prop := c ≠ .feedClear p → (∀ park, c ≠ .stationClear p park) → u = s

theorem Answer.Decided.leaves {s : State} {p : Port} {a : Answer} (decided : a.Decided s p (· = s)) (c : Instr) :
    a.Decided s p (RefusalLeaves c p s) :=
  decided.mono fun _ same _ _ => same

/-- A HUB_RESET that does not reset is refused (R185). -/
theorem exec_hubReset_refuses {s : State} {p : Port} (no : s.softResets p = false) (park : ParkState) :
    exec (.hubReset p park) s = .next (s.takeWrite p Cmd.hubReset 0 fun t => Answer.refuse t .wrongState) := by
  show Host.Outcome.next (if s.softResets p = true then _ else _) = _
  rw [no]
  rfl

/-- A write command but for a HUB_RESET that resets is taken in the frame of R164 to R168, by its owning rule. -/
theorem exec_write {c : Instr} {p : Port} {cmd : Command} (write : c.write? = some (p, cmd)) {s : State}
    (noReset : (∃ park, c = .hubReset p park) → s.softResets p = false) :
    ∃ n d, exec c s = .next (s.takeWrite p cmd n d) ∧ (d s).Decided s p (RefusalLeaves c p s) := by
  cases c <;> simp only [Instr.write?, Option.some.injEq, Prod.mk.injEq, reduceCtorEq] at write
  all_goals obtain ⟨rfl, rfl⟩ := write
  case setEventMask => exact ⟨_, _, rfl, (decideSetEventMask_decided s _ _).leaves _⟩
  case tableSel => exact ⟨_, _, rfl, (decideTableSel_decided s _ _ _).leaves _⟩
  case sheetOpen => exact ⟨_, _, rfl, (decideSheetOpen_decided s _ _ _ _ _ _ _ _ _).leaves _⟩
  case sheetClose => exact ⟨_, _, rfl, (decideSheetClose_decided s _ _ _).leaves _⟩
  case sheetCancel => exact ⟨_, _, rfl, (decideSheetCancel_decided s _ _).leaves _⟩
  case swathAsk => exact ⟨_, _, rfl, (decideSwathAsk_decided s _ _ _ _ _ _).leaves _⟩
  case swathWithdraw => exact ⟨_, _, rfl, (decideSwathWithdraw_decided s _ _).leaves _⟩
  case swathTake => exact ⟨_, _, rfl, (decideSwathTake_decided s _ _).leaves _⟩
  case swathDone => exact ⟨_, _, rfl, (decideSwathDone_decided s _ _ _ _).leaves _⟩
  case parkState => exact ⟨_, _, rfl, (decideParkState_decided s _ _).leaves _⟩
  case orderDone => exact ⟨_, _, rfl, (decideOrderDone_decided s _ _ _ _ _).leaves _⟩
  case go => exact ⟨_, _, rfl, (decideGo_decided s _).leaves _⟩
  case configSet => exact ⟨_, _, rfl, (decideConfigSet_decided s _ _ _ _).leaves _⟩
  case configLock => exact ⟨_, _, rfl, (decideConfigLock_decided s _).leaves _⟩
  case slotMapSet => exact ⟨_, _, rfl, (decideSlotMapSet_decided s _ _).leaves _⟩
  case tankAccept => exact ⟨_, _, rfl, (decideTankAccept_decided s _ _ _).leaves _⟩
  case levelRestore => exact ⟨_, _, rfl, (decideLevelRestore_decided s _ _ _).leaves _⟩
  case retiredRestore => exact ⟨_, _, rfl, (decideRetiredRestore_decided s _ _ _ _).leaves _⟩
  case rollLoad => exact ⟨_, _, rfl, (decideRollLoad_decided s _ _ _ _ _).leaves _⟩
  case cleanAsk => exact ⟨_, _, rfl, (decideCleanAsk_decided s _ _ _ _).leaves _⟩
  case feedClear => exact ⟨_, _, rfl, (decideFeedClear_decided s _).mono fun _ _ other => absurd rfl other⟩
  case stationClear park =>
    exact ⟨_, _, rfl, (decideStationClear_decided s _ park).mono fun _ _ _ other => absurd rfl (other park)⟩
  case sleepNow => exact ⟨_, _, rfl, (decideSleepNow_decided s _).leaves _⟩
  case hubReset park => exact ⟨_, _, exec_hubReset_refuses (noReset ⟨park, rfl⟩) park, (Answer.Decided.refuse rfl).leaves _⟩

end Sys2Proof.Machine
end

section
/-!
SUPPORT. Every command but a reset spares the ports that it does not come in on (`exec_spares`). O10 is settled from it.
-/

namespace Sys2Proof.Machine

/-! ### The frames of the transactions (R164 to R167) -/

section
variable (s : State) (p : Port) (cmd : Command)

theorem Spares.replied {p : Port} {s t : State} (effect : Spares (some p) s t) (r : State) (command : Nat) (code : ReplyCode)
    (value n : Nat) : Spares (some p) s (t.replied r p command code value n) := effect.modPort _

theorem State.takeWrite_spares (n : Nat) {d : State → Answer} (decided : Spares (some p) s (d s).after) :
    Spares (some p) s (s.takeWrite p cmd n d) := by
  unfold State.takeWrite
  split
  · exact .refl s
  split
  · exact ((Spares.refl s).replied _ _ _ _ _).wake
  split
  · exact ((Spares.refl s).replied _ _ _ _ _).wake
  · exact decided.replied _ _ _ _ _

theorem State.takeRead_spares (bits : Nat) (data : List Byte) : Spares (some p) s (s.takeRead p cmd bits data id) := by
  unfold State.takeRead
  split
  · exact .refl s
  split
  · exact ((Spares.refl s).modPort _).wake
  split
  · exact ((Spares.refl s).modPort _).wake
  · exact (Spares.refl s).modPort _

/-- A wake at the rise spares what the part has spared. -/
theorem Spares.wakeWhen {p : Option Port} {s t : State} (effect : Spares p s t) (rises : Bool) :
    Spares p s (t.when rises State.wake) := by
  cases rises
  · exact effect
  · exact effect.wake

theorem State.takePart_spares (c : Clocks) (data : List Byte) (act : PortRec → PortRec) :
    Spares (some p) s (s.takePart p cmd c data act) := by
  unfold State.takePart
  dsimp only
  split
  · exact .refl s
  split
  · exact ((Spares.refl s).modPort _).wakeWhen _
  · exact ((Spares.refl s).modPort _).wakeWhen _

theorem State.raiseOn_eq_modPort (e : Event) : s.raiseOn p e = s.modPort p fun r => r.latch e := rfl

theorem State.discard_spares (bits : Nat) : Spares (some p) s (s.discard p bits) := by
  unfold State.discard
  split
  · exact .refl s
  · rw [State.raiseOn_eq_modPort]
    exact (((Spares.refl s).modPort _).modPort _).wake

end

/-! ### Sensor changes and timers -/

section
variable {s t : State} {p : Option Port}

/-- A sensor change sets its pins, and acts unless the line is held. -/
theorem State.sensed_spares {act : State → State} (pins : t.ports = s.ports) (acts : Spares p t (act t)) :
    Spares p s (t.sensed act) := by
  unfold State.sensed
  split
  · exact .of_ports pins
  · exact (Spares.of_ports pins).trans acts

theorem State.sensedSome_spares {act : State → Option State} (pins : t.ports = s.ports)
    (acts : ∀ u, act t = some u → u.base = t.base) : Spares p s (t.sensedSome act) := by
  refine State.sensed_spares pins ?_
  cases reaction : act t with
  | none => exact .refl t
  | some u => exact (Spares.of_base (acts u reaction)).settle

theorem State.sensedAwake_spares {act : State → State} (pins : t.ports = s.ports) (acts : ∀ u, (act u).base = u.base) :
    Spares p s (t.sensedAwake act) :=
  State.sensed_spares pins ((Spares.refl t).wake.trans (.of_base (acts _))).settle

theorem State.strokeExpires_base (h : s.strokeExpires = some t) : t.base = s.base := by
  unfold State.strokeExpires at h
  split at h <;> cases h
  simp

theorem State.suctionExpires_base (h : s.suctionExpires = some t) : t.base = s.base := by
  unfold State.suctionExpires at h
  split at h <;> cases h
  simp

theorem State.actuatorReports_base (h : s.actuatorReports = some t) : t.base = s.base := by
  unfold State.actuatorReports at h
  split at h <;> cases h
  simp

theorem State.moveEnds_base (h : s.moveEnds = some t) : t.base = s.base := by
  unfold State.moveEnds at h
  split at h <;> cases h
  simp

theorem State.watchdogExpires_base (h : s.watchdogExpires = some t) : t.base = s.base := by
  unfold State.watchdogExpires at h
  split at h <;> cases h
  simp

theorem State.swapExpires_base (h : s.swapExpires = some t) : t.base = s.base := by
  unfold State.swapExpires at h
  split at h <;> cases h
  simp

theorem State.cutExpires_base (h : s.cutExpires = some t) : t.base = s.base := by
  unfold State.cutExpires at h
  split at h <;> cases h
  simp

theorem State.capReports_base {x : CapReading} (h : s.capReports x = some t) : t.base = s.base := by
  unfold State.capReports at h
  repeat' split at h
  all_goals cases h
  all_goals simp

theorem State.capMoveExpires_base (h : s.capMoveExpires = some t) : t.base = s.base := by
  unfold State.capMoveExpires at h
  repeat' split at h
  all_goals cases h
  simp

theorem State.wipeExpires_base (h : s.wipeExpires = some t) : t.base = s.base := by
  unfold State.wipeExpires at h
  repeat' split at h
  all_goals cases h
  simp

theorem State.capDelayExpires_base (h : s.capDelayExpires = some t) : t.base = s.base := by
  unfold State.capDelayExpires at h
  split at h <;> cases h
  rfl

theorem State.exposureReaches_base {x : Head} {n : Nat} (h : s.exposureReaches x n = some t) : t.base = s.base := by
  unfold State.exposureReaches at h
  split at h <;> cases h
  rfl

theorem State.orderExpires_base (h : s.orderExpires = some t) : t.base = s.base := by
  unfold State.orderExpires at h
  split at h <;> cases h
  simp

theorem State.swathExpires_base (h : s.swathExpires = some t) : t.base = s.base := by
  obtain ⟨x, -, rfl⟩ := Option.map_eq_some_iff.1 h
  simp

theorem State.dryExpires_base {id : Nat} (h : s.dryExpires id = some t) : t.base = s.base := by
  unfold State.dryExpires at h
  split at h <;> cases h
  rfl

end

/-! ### Commands -/

theorem Instr.port?_of_write? {c : Instr} {p : Port} {cmd : Command} (write : c.write? = some (p, cmd)) : c.port? = some p := by
  cases c <;> simp only [Instr.write?, Option.some.injEq, Prod.mk.injEq, reduceCtorEq] at write
  all_goals exact congrArg some write.1

/-- R168, R175, R176: every command but a reset spares the ports that it does not come in on. -/
theorem exec_spares {c : Instr} {s t : State} (h : exec c s = .next t) (noPower : ∀ park, c ≠ .powerOn park)
    (noRelease : ∀ park, c ≠ .resetLineRelease park) (noReset : ∀ p park, c ≠ .hubReset p park) : Spares c.port? s t := by
  cases write : c.write? with
  | some w =>
    obtain ⟨p, cmd⟩ := w
    obtain ⟨n, d, taken, decided⟩ := exec_write write (s := s) fun ⟨park, reset⟩ => absurd reset (noReset p park)
    rw [Instr.port?_of_write? write]
    obtain rfl := Host.Outcome.next.inj (taken.symm.trans h)
    exact s.takeWrite_spares p cmd n decided.spares
  | none =>
    cases c <;> simp only [Instr.write?, reduceCtorEq] at write
    all_goals obtain rfl := Host.Outcome.next.inj h
    case powerOn park => exact absurd rfl (noPower park)
    case resetLineRelease park => exact absurd rfl (noRelease park)
    case resetLineAssert => exact .of_ports rfl
    case frameError => exact s.discard_spares _ _
    case unknownCommand =>
      split
      · exact .refl s
      · exact ((Spares.refl s).replied _ _ _ _ _).wake
    case getStatus =>
      split
      · exact .refl s
      · exact (Spares.refl s).modPort _
    case getReply | getOrder => exact s.takeRead_spares _ _ _ _
    case getEvents | tableRead => exact s.takePart_spares _ _ _ _ _
    case probeTrip =>
      refine State.sensedSome_spares rfl fun u hu => ?_
      split at hu
      · obtain ⟨r, -, rfl⟩ := Option.map_eq_some_iff.1 hu
        simp
      · cases hu
    case strokeTimerExpiry => exact State.sensedSome_spares rfl fun _ => State.strokeExpires_base
    case suctionStageEnd => exact State.sensedSome_spares rfl fun _ => State.suctionExpires_base
    case slotTankArrival k chip =>
      split
      · exact .refl s
      · exact State.sensedAwake_spares rfl fun u => u.tankArrives_base k
    case slotTankRemoval k =>
      split
      · exact State.sensedAwake_spares rfl fun u => u.tankLeaves_base k
      · exact .refl s
    case wasteCartridgeArrival =>
      split
      · exact .refl s
      · exact State.sensedAwake_spares rfl State.wasteArrives_base
    case wasteCartridgeRemoval =>
      split
      · exact State.sensedAwake_spares rfl State.wasteLeaves_base
      · exact .refl s
    case linkAnswer d => exact State.sensedSome_spares rfl fun _ => State.linkAnswers_base d
    case linkAnswerTimeout => exact State.sensedSome_spares rfl fun _ => State.answerTimesOut_base
    case busyTimeout => exact State.sensedSome_spares rfl fun _ => State.waitTimesOut_base
    case rollArrival r =>
      split
      · exact .refl s
      · exact State.sensedAwake_spares rfl fun u => u.rollArrives_base r
    case rollRemoval r =>
      split
      · exact State.sensedAwake_spares rfl fun u => u.rollLeaves_base r
      · exact .refl s
    case paperEnd =>
      refine State.sensedSome_spares rfl fun u hu => ?_
      split at hu
      · cases hu
      · exact State.base_of_still (State.paperEnds_still hu)
    case threadSensorChange present =>
      exact State.sensedSome_spares rfl fun u hu => State.base_of_still (State.threadChanges_still present hu)
    case actuatorPositionReport => exact State.sensedSome_spares rfl fun _ => State.actuatorReports_base
    case cutterHomeSwitchChange home =>
      exact State.sensedSome_spares rfl fun u hu => State.base_of_still (State.cutterReports_still home hu)
    case endOfMove => exact State.sensedSome_spares rfl fun _ => State.moveEnds_base
    case advanceWatchdogExpiry => exact State.sensedSome_spares rfl fun _ => State.watchdogExpires_base
    case swapTimerExpiry => exact State.sensedSome_spares rfl fun _ => State.swapExpires_base
    case cutTimerExpiry => exact State.sensedSome_spares rfl fun _ => State.cutExpires_base
    case capSensorReport => exact State.sensedSome_spares rfl fun _ => State.capReports_base
    case capMoveTimerExpiry => exact State.sensedSome_spares rfl fun _ => State.capMoveExpires_base
    case wipeTimerExpiry => exact State.sensedSome_spares rfl fun _ => State.wipeExpires_base
    case capDelayExpiry => exact State.sensedSome_spares rfl fun _ => State.capDelayExpires_base
    case exposureSpitThreshold | exposureCleanThreshold =>
      exact State.sensedSome_spares rfl fun _ => State.exposureReaches_base
    case orderTimerExpiry => exact State.sensedSome_spares rfl fun _ => State.orderExpires_base
    case swathTimerExpiry => exact State.sensedSome_spares rfl fun _ => State.swathExpires_base
    case dryTimerExpiry => exact State.sensedSome_spares rfl fun _ => State.dryExpires_base
    case idleSleepExpiry =>
      refine State.sensed_spares rfl ?_
      split
      · exact .of_ports rfl
      · exact .refl s
    case idleServiceExpiry =>
      refine State.sensed_spares rfl ?_
      split
      · have asked : (s.cleanAll .idle).base = s.base := by simp [State.cleanAll]
        exact ((Spares.of_base asked).trans (.of_ports (t := (s.cleanAll .idle).enterRun) rfl)).settle
      · exact .refl s

/-- Settles O10: what each command's own effect spares, its reactions spare too. -/
theorem portRecordsArePrivate : Obligations.PortRecordsArePrivate :=
  fun _ _ _ q h other noPower noRelease noReset => exec_spares h noPower noRelease noReset q other

end Sys2Proof.Machine
end

section
/-!
SUPPORT. What a write command leaves on its port (R167, R168): the frame of `State.takeWrite` while the hub is awake, the record after a
soft reset (R177), and TABLE_SEL by its three tests (R172). O2, O3 and O8 are settled from it and from `exec_write`.
-/

namespace Sys2Proof.Machine

/-! ### Taken and refused -/

section
variable {s : State} {p : Port} {cmd : Command}

/-- While the hub is awake a write command of another port is answered, and one of the port's own decided. -/
theorem State.takeWrite_awake (awake : s.Awake) (n : Nat) (d : State → Answer) :
    s.takeWrite p cmd n d = s.replied s p cmd.code .notThisPort 0 n ∨
      s.takeWrite p cmd n d = (d s).after.replied s p cmd.code (d s).code (d s).value n := by
  obtain ⟨high, noSleep⟩ := awake
  cases own : cmd.ports p with
  | false =>
    have woken : (s.replied s p cmd.code .notThisPort 0 n).wake = s.replied s p cmd.code .notThisPort 0 n :=
      State.wake_of_not_asleep _ noSleep
    exact .inl (by simp [State.takeWrite, high, own, woken])
  | true => exact .inr (s.takeWrite_takes p ⟨high, own, noSleep⟩ n d)

theorem State.replied_others (t : State) (r : State) (p : Port) (code : Nat) (c : ReplyCode) (v n : Nat) :
    OtherPorts p t (t.replied r p code c v n) := t.modPort_others p _

/-- R185: a HUB_RESET resets in RUN alone. -/
theorem State.softResets_of_not_inRun (idle : s.inRun = false) : s.softResets p = false := by
  simp [State.softResets, idle]

theorem State.inRun_of_inStart (start : s.inStart = true) : s.inRun = false := by
  rw [State.inStart, beq_iff_eq] at start
  simp [State.inRun, start]

theorem State.inRun_of_inSleep (sleep : s.inSleep = true) : s.inRun = false := by
  rw [State.inSleep, beq_iff_eq] at sleep
  simp [State.inRun, sleep]

/-- Settles O2: the reply is that of the rule's decision. -/
theorem takenWriteReplies : Obligations.TakenWriteReplies := by
  intro c s p cmd write takes start
  obtain ⟨n, d, taken, decided⟩ := exec_write write (s := s) fun reset =>
    State.softResets_of_not_inRun (State.inRun_of_inStart (start reset))
  rw [s.takeWrite_takes p takes] at taken
  exact ⟨_, _, _, taken, State.replied_reply _ p s _ _ _ _, decided.outcome⟩

/-! ### The record after a soft reset (R177, R185) -/

theorem State.softLedger_base (s : State) : s.softLedger.base = s.base := by simp [State.softLedger]

/-- R177: a soft reset clears the ports, and nothing of it changes their records afterwards. -/
theorem State.softReset_spares (s : State) (park : ParkState) :
    Spares none (s.setPorts (PerPort.const PortRec.reset)) (s.softReset park) := by
  unfold State.softReset
  dsimp only
  generalize cleared : (s.setPorts (PerPort.const PortRec.reset)).setPins { s.pins with parkSwitch := park } = r
  have ports : r.ports = (s.setPorts (PerPort.const PortRec.reset)).ports := by rw [← cleared]; rfl
  refine (Spares.of_ports ports).trans ((Spares.of_base (State.softLedger_base r)).trans ?_)
  generalize r.softLedger = l
  refine Spares.trans (.of_base (t := State.raiseSurveys _ false) ?_) (.of_ports rfl)
  simp [State.raiseSurveys]

theorem exec_hubReset_resets (resets : s.softResets p = true) (park : ParkState) : exec (.hubReset p park) s =
    .next ((s.softReset park).settle.modPort p fun r =>
      { r with out := [BitVec.ofNat 8 (s.ports.get p).reply.seq], outBits := 8 }) := by
  show Host.Outcome.next (if s.softResets p = true then _ else _) = _
  rw [if_pos resets]

/-- R168, R177: a reset is no refusal. -/
theorem exec_hubReset_not_refused {t : State} {park : ParkState} (resets : s.softResets p = true)
    (h : exec (.hubReset p park) s = .next t) : (t.ports.get p).reply.outcome.refuses = false := by
  obtain rfl := Host.Outcome.next.inj ((exec_hubReset_resets resets park).symm.trans h)
  obtain ⟨cleared, -⟩ := s.softReset_spares park p nofun
  rw [State.modPort_get_same]
  show ((s.softReset park).settle.ports.get p).reply.outcome.refuses = false
  rw [State.settle_reply, cleared, State.setPorts_ports, PerPort.get_const]
  rfl

/-- Settles O3: a refusal leaves the state itself, and the reply is written on the port alone. -/
theorem refusedWriteChangesNothing : Obligations.RefusedWriteChangesNothing := by
  intro c s t p cmd write awake h refused noFeedClear noStationClear
  have noReset : (∃ park, c = .hubReset p park) → s.softResets p = false := by
    rintro ⟨park, rfl⟩
    cases resets : s.softResets p with
    | false => rfl
    | true => exact absurd refused (by rw [exec_hubReset_not_refused resets h]; decide)
  obtain ⟨n, d, taken, decided⟩ := exec_write write noReset
  obtain rfl := Host.Outcome.next.inj (taken.symm.trans h)
  have replied : ∃ code value, s.takeWrite p cmd n d = s.replied s p cmd.code code value n := by
    rcases State.takeWrite_awake (p := p) (cmd := cmd) awake n d with other | own
    · exact ⟨_, _, other⟩
    · rw [own, State.replied_reply] at refused
      exact ⟨_, _, own.trans (by rw [decided.left_of_refuses refused noFeedClear noStationClear])⟩
  obtain ⟨code, value, same⟩ := replied
  rw [same]
  exact ⟨s.replied_frame s p _ _ _ _, s.replied_others s p _ _ _ _, State.replied_events .., State.replied_mask ..,
    State.replied_cursor ..⟩

end

/-! ### TABLE_SEL (R172) -/

section
variable {s : State} {p : Port} {n place : Nat} {x : TableId}

theorem table?_eq_none (outside : n = 0 ∨ 12 < n) : table? n = none := by
  unfold table?
  split
  case h_13 => rfl
  all_goals omega

theorem decideTableSel_unnamed (unnamed : table? n = none) : decideTableSel p n place s = Answer.refuse s .badOperand := by
  simp [decideTableSel, unnamed]

theorem decideTableSel_elsewhere (named : table? n = some x) (off : x.on p = false) :
    decideTableSel p n place s = Answer.refuse s .notThisPort := by
  simp [decideTableSel, named, off]

theorem decideTableSel_beyond (named : table? n = some x) (on : x.on p = true) (beyond : x.places < place) :
    decideTableSel p n place s = Answer.refuse s .badOperand := by
  simp [decideTableSel, named, on, beyond]

/-- R172: the cursor stands at the place; the number of places selects the end. -/
theorem decideTableSel_selects (named : table? n = some x) (on : x.on p = true) (inside : place ≤ x.places) :
    decideTableSel p n place s =
      { after := s.modPort p fun r => { r with cursor := some { table := x, place := place } }, code := .accepted,
        value := x.places } := by
  simp [decideTableSel, named, on, Nat.not_lt.2 inside]

/-- TABLE_SEL changes its port's record alone. -/
theorem decideTableSel_frame (s : State) (p : Port) (n place : Nat) :
    Frame [.ports] s (decideTableSel p n place s).after ∧ OtherPorts p s (decideTableSel p n place s).after := by
  unfold decideTableSel
  repeat' split
  case h_2.isFalse.isFalse => exact ⟨s.modPort_frame p _, s.modPort_others p _⟩
  all_goals exact ⟨.refl _ s, fun _ _ => rfl⟩

theorem exec_tableSel (takes : s.Takes p Cmd.tableSel) (n place : Nat) : exec (.tableSel p n place) s =
    .next ((decideTableSel p n place s).after.replied s p 0x05 (decideTableSel p n place s).code
      (decideTableSel p n place s).value 3) :=
  congrArg _ (s.takeWrite_takes p takes 3 _)

/-- Settles O8: the decision by the table, its port and its places. -/
theorem tableSelSetsCursor : Obligations.TableSelSetsCursor := by
  intro s p n place takes
  obtain ⟨frame, others⟩ := decideTableSel_frame s p n place
  refine ⟨_, exec_tableSel takes n place, frame.trans (State.replied_frame _ s p _ _ _ _),
    fun q other => (State.replied_others _ s p _ _ _ _ q other).trans (others q other), ?_⟩
  rw [State.replied_reply, State.replied_cursor]
  refine ⟨fun outside => ?_, fun x named off => ?_, fun x named on beyond => ?_, fun x named on inside => ?_⟩
  · rw [decideTableSel_unnamed (table?_eq_none outside)]
    exact ⟨rfl, rfl⟩
  · rw [decideTableSel_elsewhere named off]
    exact ⟨rfl, fun _ => rfl, fun _ => .inl rfl⟩
  · rw [decideTableSel_beyond named on beyond]
    exact ⟨rfl, rfl⟩
  · rw [decideTableSel_selects named on inside]
    exact ⟨by simp, rfl⟩

end

end Sys2Proof.Machine
end

section
/-!
SUPPORT. What the read commands send (R169 to R171, R127, R175): their data as bytes, and GET_EVENTS whole and in parts. O5, O6 and O7
are settled from it.
-/

namespace Sys2Proof.Machine

/-! ### Data sent whole (R166) -/

/-- A read of as many bytes as there are sends them after the sequence number. -/
theorem PortRec.drove_whole (r : PortRec) {data : List Byte} {n : Nat} (length : data.length = n) :
    r.drove data (8 * n) = { r with out := BitVec.ofNat 8 r.reply.seq :: data, outBits := 8 + 8 * n } := by
  rw [PortRec.drove, clockOut_bytes length.ge, List.take_of_length_le length.le]

/-! ### The reply (R169) -/

theorem replyBytes_eq (r : Reply) : replyBytes r = [BitVec.ofNat 8 r.seq, BitVec.ofNat 8 r.command,
    BitVec.ofNat 8 r.outcome.code, BitVec.ofNat 8 (r.value / 256 / 256 / 256), BitVec.ofNat 8 (r.value / 256 / 256),
    BitVec.ofNat 8 (r.value / 256), BitVec.ofNat 8 r.value] := rfl

theorem exec_getReply {s : State} {p : Port} (takes : s.Takes p Cmd.getReply) (bits : Nat) : exec (.getReply p bits) s =
    .next (s.modPort p fun r => r.drove (replyBytes (s.ports.get p).reply) bits) :=
  congrArg _ (s.takeRead_takes p takes bits _ id)

/-- Settles O6: the seven bytes of the record are the data of seven bytes' clocks. -/
theorem getReplySendsRecord : Obligations.GetReplySendsRecord := by
  intro s p takes
  refine ⟨_, exec_getReply takes 56, ?_⟩
  rw [State.modPort_get_same, PortRec.drove_whole (n := 7) _ rfl, replyBytes_eq]
  exact ⟨rfl, rfl, rfl, rfl, rfl, rfl, s.modPort_frame p _, s.modPort_others p _⟩

/-! ### The status records and the order (R170, R171, R127) -/

section
variable (s : State)

theorem State.statusCommon_length (p : Port) : (s.statusCommon p).length = 9 := by simp [State.statusCommon]

theorem pumpBytes_length (x : Pump) : (pumpBytes x).length = 2 := by
  cases x <;> simp [pumpBytes]

theorem opBytes_length (o : Option FeedOp) : (opBytes o).length = 6 := by
  cases o <;> simp [opBytes]

theorem activeBytes_length (a : Option ActiveItem) : (activeBytes a).length = 2 := by
  cases a <;> simp [activeBytes]

theorem State.statusRP_length : s.statusRP.length = 9 := by simp [State.statusRP]

theorem State.statusCP_length : s.statusCP.length = 6 := by simp [State.statusCP]

theorem State.statusPP_length : s.statusPP.length = 75 := by
  unfold State.statusPP
  simp only [List.length_append, byte_length, bytesBE_length, pumpBytes_length, opBytes_length, activeBytes_length]
  cases s.supply.link.jobs.head? with
  | none => simp [Channel.all, Three.toList]
  | some j => simp [Channel.all, Three.toList, jobBytes_length]

theorem State.status_lengths : (s.status .rp).length = 18 ∧ (s.status .cp).length = 15 ∧ (s.status .pp).length = 84 := by
  simp [State.status, State.statusCommon_length, State.statusRP_length, State.statusCP_length, State.statusPP_length]

/-- R170: GET_STATUS is answered in every mode. -/
theorem exec_getStatus {p : Port} (high : s.pins.resetLow = false) (bits : Nat) : exec (.getStatus p bits) s =
    .next (s.modPort p fun r => r.drove (s.status p) bits) := by
  show Host.Outcome.next (if s.pins.resetLow = true then _ else _) = _
  rw [high]
  rfl

theorem exec_getOrder (takes : s.Takes .cp Cmd.getOrder) (bits : Nat) : exec (.getOrder .cp bits) s =
    .next (s.modPort .cp fun r => r.drove (orderBytes s.station.order) bits) :=
  congrArg _ (s.takeRead_takes .cp takes bits _ id)

end

/-- Settles O5: each record is the data of its own length. -/
theorem statusAndOrderAreSent : Obligations.StatusAndOrderAreSent := by
  refine ⟨fun s p high => ?_, fun s takes => ?_, State.status_lengths, fun s x n => s.tableEntry_length x n⟩
  · rw [exec_getStatus s high, State.modPort, PortRec.drove_whole _ rfl]
    rfl
  · rw [exec_getOrder s takes, State.modPort, PortRec.drove_whole (n := 3) _ rfl]
    rfl

/-! ### GET_EVENTS (R175) -/

/-- The event set as GET_EVENTS sends it, most significant byte first. -/
theorem bytesBE_events (m : BitVec 24) :
    bytesBE 3 m.toNat = [m.extractLsb' 16 8, m.extractLsb' 8 8, m.extractLsb' 0 8] := by
  have high : BitVec.ofNat 8 (m.toNat / 256 / 256) = m.extractLsb' 16 8 := by
    apply BitVec.eq_of_toNat_eq
    simp [BitVec.extractLsb'_toNat, Nat.shiftRight_eq_div_pow, Nat.div_div_eq_div_mul]
  have middle : BitVec.ofNat 8 (m.toNat / 256) = m.extractLsb' 8 8 := by
    apply BitVec.eq_of_toNat_eq
    simp [BitVec.extractLsb'_toNat, Nat.shiftRight_eq_div_pow]
  have low : BitVec.ofNat 8 m.toNat = m.extractLsb' 0 8 := by
    apply BitVec.eq_of_toNat_eq
    simp [BitVec.extractLsb'_toNat]
  rw [← high, ← middle, ← low]
  rfl

/-- The set that a GET_EVENTS returns, with the kinds latched since it was captured and the bytes sent of it (R175). -/
structure EventRead where
  returned : BitVec 24
  newer : BitVec 24
  sent : Nat

section
variable (x : EventRead) (r : PortRec)

/-- What a part of so many clocks sends. -/
def EventRead.sends (bits : Nat) : List Byte := clockOut bits ((bytesBE 3 x.returned.toNat).drop x.sent)

/-- The port's record after a part of the read, which begins the read or goes on with it. -/
def EventRead.part (goesOn : Bool) (c : Clocks) : PortRec :=
  (r.drives goesOn ((bytesBE 3 x.returned.toNat).drop x.sent) c.bits).readEvents x.returned x.newer x.sent c

theorem EventRead.sends_bytes {n : Nat} (inside : x.sent + n ≤ 3) :
    x.sends (8 * n) = ((bytesBE 3 x.returned.toNat).drop x.sent).take n :=
  clockOut_bytes (by rw [List.length_drop, bytesBE_length]; omega)

/-- R175: the kinds returned leave the set at the rise, where all three bytes have been sent. -/
theorem EventRead.part_rise (goesOn : Bool) (bits : Nat) : x.part r goesOn (.rise bits) = { r with
    events := if 24 ≤ 8 * x.sent + bits then r.events &&& ~~~(x.returned &&& ~~~x.newer) else r.events
    out := (if goesOn then r.out else [BitVec.ofNat 8 r.reply.seq]) ++ x.sends bits
    outBits := (if goesOn then r.outBits else 8) + bits
    reading := none } := by
  cases goesOn <;> rfl

/-- While select stays low the read goes on, and the set stays as it is. -/
theorem EventRead.part_hold (goesOn : Bool) (n : Nat) : x.part r goesOn (.hold n) = { r with
    out := (if goesOn then r.out else [BitVec.ofNat 8 r.reply.seq]) ++ x.sends (8 * n)
    outBits := (if goesOn then r.outBits else 8) + 8 * n
    reading := some (.events x.returned x.newer (x.sent + n)) } := by
  cases goesOn <;> rfl

end

section
variable {s : State} {p : Port}

theorem exec_getEvents_of_captured {x : EventRead} (captured : (s.ports.get p).captured = (x.returned, x.newer, x.sent))
    (c : Clocks) : exec (.getEvents p c) s = .next (s.takePart p Cmd.getEvents c ((bytesBE 3 x.returned.toNat).drop x.sent)
      fun r => r.readEvents x.returned x.newer x.sent c) := by
  show execGetEvents p c s = _
  simp only [execGetEvents, captured]

/-- A GET_EVENTS that begins captures the set. -/
theorem exec_getEvents_begins (takes : s.Takes p Cmd.getEvents) (begins : (s.ports.get p).reading = none) (c : Clocks) :
    exec (.getEvents p c) s = .next { s with
      ports := s.ports.set p (EventRead.part ⟨(s.ports.get p).events, 0, 0⟩ (s.ports.get p) false c) } := by
  rw [exec_getEvents_of_captured (x := ⟨(s.ports.get p).events, 0, 0⟩) (by rw [PortRec.captured, begins]),
    s.takePart_begins p takes begins]
  rfl

/-- One that is under way goes on with what it has captured. -/
theorem exec_getEvents_goesOn (takes : s.Takes p Cmd.getEvents) {x : EventRead}
    (underWay : (s.ports.get p).reading = some (.events x.returned x.newer x.sent)) (c : Clocks) :
    exec (.getEvents p c) s = .next { s with ports := s.ports.set p (x.part (s.ports.get p) true c) } := by
  rw [exec_getEvents_of_captured (x := x) (by rw [PortRec.captured, underWay]),
    s.takePart_goesOn p takes _ underWay (by simp)]
  rfl

/-- R175: where nothing has been latched since the capture, the set becomes empty. -/
theorem events_and_not_returned (m : BitVec 24) : m &&& ~~~(m &&& ~~~0) = 0 := by
  have all : ~~~(0 : BitVec 24) = BitVec.allOnes 24 := rfl
  rw [all, BitVec.and_allOnes, BitVec.and_not_self]

/-- R174, R175: a kind latched while a GET_EVENTS is under way joins the set and the newer kinds. -/
theorem State.raise_underWay {e : Event} (routed : e.routed p = true) {x : EventRead}
    (underWay : (s.ports.get p).reading = some (.events x.returned x.newer x.sent)) :
    ((s.raise e).ports.get p).reading = some (.events x.returned (x.newer ||| e.bit) x.sent) := by
  have latched : (s.raise e).ports.get p = if e.routed p then (s.ports.get p).latch e else s.ports.get p := by
    cases p <;> rfl
  rw [latched, if_pos routed, PortRec.latch, underWay]
  rfl

end

/-! ### SET_EVENT_MASK (R176) -/

/-- R176: position 23 is stored as 0. -/
theorem storedMask_getLsbD (m : BitVec 24) (i : Nat) : (storedMask m).getLsbD i = (m.getLsbD i && decide (i < 23)) := by
  have kept : (0x7FFFFF : BitVec 24).getLsbD i = decide (i < 23) := by
    rw [← Nat.testBit_two_pow_sub_one 23 i]
    simp [BitVec.getLsbD]
  rw [storedMask, BitVec.getLsbD_and, kept]

/-- A set of kinds is not empty where some kind stands in it. -/
theorem bitVec_ne_zero_iff {n : Nat} (m : BitVec n) : m ≠ 0 ↔ ∃ i, m.getLsbD i = true := by
  refine ⟨fun some => ?_, ?_⟩
  · by_contra no
    exact some (BitVec.eq_of_getLsbD_eq fun i _ => by simpa using fun h => no ⟨i, h⟩)
  · rintro ⟨i, h⟩ rfl
    simp at h

/-- R176: the attention line. -/
theorem State.attention_iff {s : State} {p : Port} (high : s.pins.resetLow = false) :
    s.attention p = true ↔ ∃ i, (s.ports.get p).events.getLsbD i = true ∧ (s.ports.get p).mask.getLsbD i = true := by
  simp only [State.attention, high, Bool.not_false, Bool.true_and, bne_iff_ne, bitVec_ne_zero_iff, BitVec.getLsbD_and,
    Bool.and_eq_true]

theorem exec_setEventMask {s : State} {p : Port} (takes : s.Takes p Cmd.setEventMask) (m : BitVec 24) :
    exec (.setEventMask p m) s = .next ((s.modPort p fun r => { r with mask := storedMask m }).replied s p 0x04 .accepted
      (storedMask m).toNat 3) :=
  congrArg _ (s.takeWrite_takes p takes 3 _)

/-- Settles O7: the parts of a read by what it has captured, and the mask by its bits. -/
theorem eventsAreReadAndMasked : Obligations.EventsAreReadAndMasked := by
  refine ⟨fun s p takes => ⟨fun begins => ?_, fun returned newer sent underWay => ?_⟩, fun s p m takes => ?_⟩
  · have rises (bits : Nat) := exec_getEvents_begins takes begins (.rise bits)
    have holds (n : Nat) := exec_getEvents_begins takes begins (.hold n)
    simp only [EventRead.part_rise, events_and_not_returned, Nat.mul_zero, Nat.zero_add] at rises
    simp only [EventRead.part_hold, Nat.zero_add] at holds
    refine ⟨?_, fun bits => ⟨_, rises bits⟩, fun n inside => ?_⟩
    · have whole := EventRead.sends_bytes ⟨(s.ports.get p).events, 0, 0⟩ (n := 3) (Nat.le_refl 3)
      rw [bytesBE_events] at whole
      exact (rises 24).trans (by rw [whole]; rfl)
    · have sent := EventRead.sends_bytes ⟨(s.ports.get p).events, 0, 0⟩ (n := n) (by simpa using inside)
      rw [bytesBE_events] at sent
      exact (holds n).trans (by rw [sent]; rfl)
  · let x : EventRead := ⟨returned, newer, sent⟩
    have rises (bits : Nat) := exec_getEvents_goesOn takes (x := x) underWay (.rise bits)
    have holds (n : Nat) := exec_getEvents_goesOn takes (x := x) underWay (.hold n)
    simp only [EventRead.part_rise] at rises
    simp only [EventRead.part_hold] at holds
    refine ⟨fun bits => ⟨x.sends bits, rises bits, ?_⟩, fun n inside => ?_,
      fun e routed => ⟨?_, State.raise_underWay routed (x := x) underWay⟩⟩
    · rintro inside rfl
      rw [EventRead.sends_bytes x (Nat.add_sub_cancel' inside).le, bytesBE_events]
      exact List.take_of_length_le List.length_drop.le
    · have sends := x.sends_bytes inside
      rw [bytesBE_events] at sends
      exact (holds n).trans (by rw [sends]; rfl)
    · rw [s.raise_events, if_pos routed]
  · have high : s.pins.resetLow = false := takes.1
    refine ⟨_, exec_setEventMask takes m, ?_⟩
    rw [State.attention_iff (by exact high), State.replied_mask, State.replied_events, State.replied_cursor, State.replied_reply,
      State.modPort_get_same]
    simp only [storedMask_getLsbD]
    refine ⟨fun i inside => by simp [inside], by simp, trivial, trivial, trivial, ?_, ?_, ?_⟩
    · simp only [Bool.and_eq_true, decide_eq_true_eq]
      exact ⟨fun ⟨i, e, h, inside⟩ => ⟨i, inside, e, h⟩, fun ⟨i, inside, e, h⟩ => ⟨i, e, h, inside⟩⟩
    · exact (s.modPort_frame p _).trans (State.replied_frame _ s p _ _ _ _)
    · exact fun q other => (State.replied_others _ s p _ _ _ _ q other).trans (s.modPort_others p _ q other)

end Sys2Proof.Machine
end

section
/-!
SUPPORT. The tests made before the owning rule (R165, R167): what a wake leaves on a port, a read that SLEEP answers, whole or in parts,
and a discarded transaction. O4 is settled from it.
-/

namespace Sys2Proof.Machine

/-! ### The wake (R181) -/

section
variable (s : State)

/-- A wake leaves what every port holds but for its latched events. -/
theorem State.wake_sameRecord (p : Port) : (s.ports.get p).SameRecord (s.wake.ports.get p) :=
  (Spares.refl (p := none) s).wake p nofun

theorem State.wake_out (p : Port) : (s.wake.ports.get p).out = (s.ports.get p).out := by
  obtain ⟨-, -, -, out, -⟩ := s.wake_sameRecord p
  exact out

theorem State.wake_cursor (p : Port) : (s.wake.ports.get p).cursor = (s.ports.get p).cursor := by
  obtain ⟨-, -, cursor, -⟩ := s.wake_sameRecord p
  exact cursor

/-- No read is under way after the wake where none was before. -/
theorem State.wake_reading_none {p : Port} (none : (s.ports.get p).reading = none) : (s.wake.ports.get p).reading = .none := by
  obtain ⟨-, -, -, -, -, reading⟩ := s.wake_sameRecord p
  rw [none] at reading
  exact Option.map_eq_none_iff.1 reading

variable {s}

/-- R181: a hub that slept runs, and the idle-service timer stops. -/
theorem State.wake_runs (sleep : s.inSleep = true) : s.wake.mode.mode = .run ∧ s.wake.mode.idleServiceLeft = none := by
  have woken : s.wake = s.enterRun.settle := if_pos sleep
  rw [woken, State.settle_mode]
  exact ⟨rfl, congrArg Still.idleServiceLeft (State.settle_still _)⟩

theorem State.wake_awake : s.wake.inSleep = false := by
  cases sleep : s.inSleep with
  | false => rw [s.wake_of_not_asleep sleep, sleep]
  | true => rw [State.inSleep, (State.wake_runs sleep).1]; rfl

/-- While the hub is awake a transaction that ends in a wake changes its port's record alone. -/
theorem State.modPort_wake_alone (awake : s.inSleep = false) (p : Port) (f : PortRec → PortRec) :
    (s.modPort p f).wake = s.modPort p f ∧ Frame [.ports] s (s.modPort p f).wake ∧ OtherPorts p s (s.modPort p f).wake := by
  have same : (s.modPort p f).wake = s.modPort p f := State.wake_of_not_asleep _ awake
  rw [same]
  exact ⟨rfl, s.modPort_frame p f, s.modPort_others p f⟩

end

/-! ### Codes and commands of another port (R167, tests 1 and 2) -/

section
variable {s : State} {p : Port}

theorem strangeCode_eq (code : Nat) :
    strangeCode code = if code ∈ commandCodes then .notThisPort else .unknownCommand := by
  simp [strangeCode]

theorem exec_unknownCommand (high : s.pins.resetLow = false) (code bytes : Nat) : exec (.unknownCommand p ⟨code, bytes⟩) s =
    .next (s.replied s p code (strangeCode code) 0 bytes).wake := by
  show Host.Outcome.next (if s.pins.resetLow = true then _ else _) = _
  rw [high]
  rfl

theorem State.takeWrite_elsewhere {cmd : Command} (high : s.pins.resetLow = false) (other : cmd.ports p = false) (n : Nat)
    (d : State → Answer) : s.takeWrite p cmd n d = (s.replied s p cmd.code .notThisPort 0 n).wake := by
  simp [State.takeWrite, high, other]

/-- R167: a write command of another port is answered NOT_THIS_PORT. -/
theorem exec_write_elsewhere {c : Instr} {cmd : Command} (write : c.write? = some (p, cmd)) (high : s.pins.resetLow = false)
    (other : cmd.ports p = false) : ∃ n, exec c s = .next (s.replied s p cmd.code .notThisPort 0 n).wake := by
  have noReset : (∃ park, c = .hubReset p park) → s.softResets p = false := by
    rintro ⟨park, rfl⟩
    obtain rfl : Cmd.hubReset = cmd := by cases write; rfl
    have notPanel : (p == .pp) = false := other
    simp [State.softResets, notPanel]
  obtain ⟨n, d, taken, -⟩ := exec_write write noReset
  exact ⟨n, taken.trans (by rw [State.takeWrite_elsewhere high other])⟩

/-- R167, test 3: in SLEEP a write command is answered ASLEEP. -/
theorem exec_write_asleep {c : Instr} {cmd : Command} (write : c.write? = some (p, cmd)) (high : s.pins.resetLow = false)
    (own : cmd.ports p = true) (sleep : s.inSleep = true) :
    ∃ n, exec c s = .next (s.replied s p cmd.code .asleep 0 n).wake := by
  obtain ⟨n, d, taken, -⟩ := exec_write write (s := s) fun _ => State.softResets_of_not_inRun (State.inRun_of_inSleep sleep)
  exact ⟨n, taken.trans (by rw [s.takeWrite_asleep high own sleep])⟩

/-! ### Reads that SLEEP answers (R167, test 3) -/

@[simp] theorem PortRec.drives_events (r : PortRec) (opened : Bool) (data : List Byte) (bits : Nat) :
    (r.drives opened data bits).events = r.events := by cases opened <;> rfl

@[simp] theorem PortRec.drives_cursor (r : PortRec) (opened : Bool) (data : List Byte) (bits : Nat) :
    (r.drives opened data bits).cursor = r.cursor := by cases opened <;> rfl

@[simp] theorem PortRec.drives_reply (r : PortRec) (opened : Bool) (data : List Byte) (bits : Nat) :
    (r.drives opened data bits).reply = r.reply := by cases opened <;> rfl

/-- The port's record after a read that began in SLEEP has risen. -/
def PortRec.sleptRead (r : PortRec) (cmd : Command) (bits : Nat) : PortRec :=
  { r.drives r.reading.isSome [] bits with reading := none, reply := r.reply.next cmd.code .asleep 0 }

theorem State.takeRead_asleep {cmd : Command} (high : s.pins.resetLow = false) (own : cmd.ports p = true)
    (sleep : s.inSleep = true) (bits : Nat) (data : List Byte) (act : State → State) :
    ((s.takeRead p cmd bits data act).ports.get p).reply = (s.ports.get p).reply.next cmd.code .asleep 0 ∧
      (s.takeRead p cmd bits data act).mode.mode = .run := by
  simp only [State.takeRead, high, own, sleep, Bool.not_true, Bool.false_eq_true, if_false, if_true, State.wake_reply,
    State.modPort_get_same, true_and]
  exact (State.wake_runs (s := s.modPort p _) sleep).1

theorem State.takePart_asleep_rise {cmd : Command} (high : s.pins.resetLow = false) (slept : s.readsAsleep p = true)
    (bits : Nat) (data : List Byte) (act : PortRec → PortRec) :
    s.takePart p cmd (.rise bits) data act = (s.modPort p fun r => r.sleptRead cmd bits).wake := by
  simp only [State.takePart, high, slept, Bool.false_eq_true, if_false, if_true, Clocks.rises, State.when_true]
  rfl

theorem State.takePart_asleep_hold {cmd : Command} (high : s.pins.resetLow = false) (slept : s.readsAsleep p = true)
    (n : Nat) (data : List Byte) (act : PortRec → PortRec) :
    s.takePart p cmd (.hold n) data act = s.modPort p fun r =>
      { r.drives r.reading.isSome [] (8 * n) with reading := some .asleep } := by
  simp only [State.takePart, high, slept, Bool.false_eq_true, if_false, if_true, Clocks.rises, State.when_false]
  rfl

/-- R167, test 3: the two reads that SLEEP answers whole. -/
theorem exec_read_asleep {c : Instr} {cmd : Command} {bits : Nat}
    (read : (c, cmd) ∈ [(Instr.getReply p bits, Cmd.getReply), (.getOrder .cp bits, Cmd.getOrder)])
    (high : s.pins.resetLow = false) (sleep : s.inSleep = true) :
    ∃ t, exec c s = .next t ∧ t.mode.mode = .run ∧
      (t.ports.get (c.port?.getD p)).reply = (s.ports.get (c.port?.getD p)).reply.next cmd.code .asleep 0 := by
  simp only [List.mem_cons, Prod.mk.injEq, List.not_mem_nil, or_false] at read
  rcases read with ⟨rfl, rfl⟩ | ⟨rfl, rfl⟩
  · obtain ⟨reply, runs⟩ := State.takeRead_asleep (p := p) (cmd := Cmd.getReply) high rfl sleep bits
      (replyBytes (s.ports.get p).reply) id
    exact ⟨_, rfl, runs, reply⟩
  · obtain ⟨reply, runs⟩ := State.takeRead_asleep (p := .cp) (cmd := Cmd.getOrder) high rfl sleep bits
      (orderBytes s.station.order) id
    exact ⟨_, rfl, runs, reply⟩

/-- The rise of a read that is given in parts and began in SLEEP. -/
theorem exec_rise_asleep {c : Instr} {cmd : Command} {bits : Nat}
    (read : (c, cmd) ∈ [(Instr.getEvents p (.rise bits), Cmd.getEvents), (.tableRead p (.rise bits), Cmd.tableRead)])
    (high : s.pins.resetLow = false) (slept : s.readsAsleep p = true) :
    c.port? = some p ∧ exec c s = .next (s.modPort p fun r => r.sleptRead cmd bits).wake := by
  simp only [List.mem_cons, Prod.mk.injEq, List.not_mem_nil, or_false] at read
  rcases read with ⟨rfl, rfl⟩ | ⟨rfl, rfl⟩
  · exact ⟨rfl, congrArg Host.Outcome.next (State.takePart_asleep_rise high slept bits _ _)⟩
  · exact ⟨rfl, congrArg Host.Outcome.next (State.takePart_asleep_rise high slept bits _ _)⟩

/-- A part of such a read with select still low. -/
theorem exec_hold_asleep {c : Instr} {n : Nat} (read : c ∈ [Instr.getEvents p (.hold n), .tableRead p (.hold n)])
    (high : s.pins.resetLow = false) (slept : s.readsAsleep p = true) : exec c s = .next (s.modPort p fun r =>
      { r.drives r.reading.isSome [] (8 * n) with reading := some .asleep }) := by
  simp only [List.mem_cons, List.not_mem_nil, or_false] at read
  rcases read with rfl | rfl
  · exact congrArg Host.Outcome.next (State.takePart_asleep_hold high slept n _ _)
  · exact congrArg Host.Outcome.next (State.takePart_asleep_hold high slept n _ _)

theorem State.readsAsleep_of_begins (begins : (s.ports.get p).reading = none) : s.readsAsleep p = s.inSleep := by
  rw [State.readsAsleep, begins]

theorem State.readsAsleep_of_asleep (slept : (s.ports.get p).reading = some .asleep) : s.readsAsleep p = true := by
  rw [State.readsAsleep, slept]
  rfl

/-! ### Discarded transactions (R165) -/

theorem State.modPort_modPort (s : State) (p : Port) (f g : PortRec → PortRec) :
    (s.modPort p f).modPort p g = s.modPort p fun r => g (f r) := by
  cases p <;> rfl

theorem State.discard_awake (awake : s.Awake) {bits : Nat} (clocked : 0 < bits) : s.discard p bits = s.modPort p fun r =>
    { r with out := clockOut bits [BitVec.ofNat 8 r.reply.seq], outBits := bits }.latch .frameError := by
  obtain ⟨high, noSleep⟩ := awake
  have clocks : (bits == 0) = false := by simpa using clocked.ne'
  simp only [State.discard, high, clocks, Bool.or_self, Bool.false_eq_true, if_false]
  rw [State.raiseOn_eq_modPort, State.modPort_modPort]
  exact State.wake_of_not_asleep _ noSleep

/-! ### O4 -/

/-- A transaction that is answered and then wakes the hub: the reply, and what else changes while the hub is awake. -/
theorem State.replied_wake (s : State) (p : Port) (code : Nat) (c : ReplyCode) (v n : Nat) :
    ((s.replied s p code c v n).wake.ports.get p).reply = (s.ports.get p).reply.next code c v ∧
      (s.inSleep = false → Frame [.ports] s (s.replied s p code c v n).wake ∧ OtherPorts p s (s.replied s p code c v n).wake) := by
  refine ⟨by rw [State.wake_reply, State.replied_reply]; rfl, fun awake => ?_⟩
  obtain ⟨-, frame, others⟩ := State.modPort_wake_alone awake p fun r => r.answered (s.ports.get p) code c v n
  exact ⟨frame, others⟩

/-- R167: a code outside the table or a command of another port, cut short or not. -/
theorem exec_unknownCommand_answers (high : s.pins.resetLow = false) (code bytes : Nat) :
    ∃ t, exec (.unknownCommand p ⟨code, bytes⟩) s = .next t ∧
      (t.ports.get p).reply = { seq := nextByte (s.ports.get p).reply.seq, command := code,
                                outcome := if code ∈ commandCodes then .notThisPort else .unknownCommand, value := 0 } ∧
      (t.ports.get p).out = BitVec.ofNat 8 (s.ports.get p).reply.seq :: List.replicate bytes 0 ∧
      (s.inSleep = false → Frame [.ports] s t ∧ OtherPorts p s t) := by
  obtain ⟨reply, alone⟩ := s.replied_wake p code (strangeCode code) 0 bytes
  refine ⟨_, exec_unknownCommand high code bytes, ?_, ?_, alone⟩
  · rw [reply, strangeCode_eq]
    rfl
  · rw [State.wake_out, State.replied, State.modPort_get_same]
    rfl

/-- R172: a table not given to the port. -/
theorem exec_tableSel_elsewhere (high : s.pins.resetLow = false) (awake : s.inSleep = false) {n : Nat} {x : TableId}
    (named : table? n = some x) (off : x.on p = false) (place : Nat) :
    exec (.tableSel p n place) s = .next (s.replied s p 0x05 .notThisPort 0 3) := by
  rw [exec_tableSel ⟨high, rfl, awake⟩, decideTableSel_elsewhere named off]
  rfl

/-- R167, test 3: what the rise of a read that began in SLEEP leaves. -/
theorem State.sleptRead_wake (s : State) (p : Port) (cmd : Command) (bits : Nat) :
    let t := (s.modPort p fun r => r.sleptRead cmd bits).wake
    (t.ports.get p).reply = (s.ports.get p).reply.next cmd.code .asleep 0 ∧ (t.ports.get p).reading = none ∧
      (t.ports.get p).cursor = (s.ports.get p).cursor ∧
      (s.inSleep = false → (t.ports.get p).events = (s.ports.get p).events ∧ Frame [.ports] s t ∧ OtherPorts p s t) := by
  refine ⟨?_, State.wake_reading_none _ ?_, ?_, fun awake => ?_⟩
  · rw [State.wake_reply, State.modPort_get_same]
    rfl
  · rw [State.modPort_get_same]
    rfl
  · rw [State.wake_cursor, State.modPort_get_same]
    exact PortRec.drives_cursor ..
  · obtain ⟨same, frame, others⟩ := State.modPort_wake_alone awake p fun r => r.sleptRead cmd bits
    refine ⟨?_, frame, others⟩
    rw [same, State.modPort_get_same]
    exact PortRec.drives_events ..

/-- Settles O4, each test by the frame in which the transaction is taken. -/
theorem testsBeforeTheOwningRule : Obligations.TestsBeforeTheOwningRule := by
  refine ⟨fun s p high => ⟨exec_unknownCommand_answers high, fun c cmd write other => ?_, fun c cmd write own sleep => ?_,
    fun awake n place x named off => ?_⟩, fun s p bits high sleep => ⟨fun c cmd read => ?_, fun begins c read => ?_, ?_⟩,
    fun s p bits high slept c cmd read => ?_, fun s p bits awake clocked => ?_⟩
  · obtain ⟨n, taken⟩ := exec_write_elsewhere write high other
    exact ⟨_, taken, s.replied_wake p cmd.code .notThisPort 0 n⟩
  · obtain ⟨n, taken⟩ := exec_write_asleep write high own sleep
    exact ⟨_, taken, (s.replied_wake p cmd.code .asleep 0 n).1, State.wake_runs (s := s.replied s p cmd.code .asleep 0 n) sleep⟩
  · refine ⟨_, exec_tableSel_elsewhere high awake named off place, State.replied_reply .., State.replied_cursor ..,
      s.replied_frame s p _ _ _ _, s.replied_others s p _ _ _ _⟩
  · rcases read with whole | ⟨begins, part⟩
    · exact exec_read_asleep whole high sleep
    · obtain ⟨port, taken⟩ := exec_rise_asleep part high ((State.readsAsleep_of_begins begins).trans sleep)
      rw [port]
      exact ⟨_, taken, (State.wake_runs (s := s.modPort p _) sleep).1, (s.sleptRead_wake p cmd bits).1⟩
  · refine ⟨_, exec_hold_asleep read high ((State.readsAsleep_of_begins begins).trans sleep), ?_⟩
    rw [State.modPort_get_same]
    exact ⟨rfl, PortRec.drives_reply .., PortRec.drives_events .., s.modPort_frame p _, s.modPort_others p _⟩
  · exact ⟨_, exec_getStatus s high bits, rfl, s.modPort_frame p _⟩
  · exact ⟨_, (exec_rise_asleep read high (State.readsAsleep_of_asleep slept)).2, State.wake_awake, s.sleptRead_wake p cmd bits⟩
  · refine ⟨_, congrArg Host.Outcome.next (State.discard_awake awake clocked), ?_⟩
    rw [State.modPort_get_same]
    exact ⟨rfl, rfl, rfl, rfl, s.modPort_frame p _, s.modPort_others p _⟩

end

end Sys2Proof.Machine
end

section
/-!
SUPPORT. The charter: what the hub is set to, which is all that O53 and O54 speak of (the mode, the cause of the last reset, the parameters
and the lock, the drop volumes, the slot map, the nozzle tables). It is a part of the view of Laws/Frame.lean; here are the operations
that leave it though they change the rest of that view (their `_charter` lemmas).
-/

namespace Sys2Proof.Machine

/-! ### The charter -/

/-- What the hub is set to (chapter 11, R20, R39, R152). -/
@[ext] structure Charter where
  mode : Mode
  cause : ResetCause
  params : Params
  lock : Bool
  dv : Channel → Nat
  map : Eight (Option Channel)
  nozzles : Nozzles

def Still.charter (x : Still) : Charter :=
  { mode := x.base.mode, cause := x.base.cause, params := x.base.params, lock := x.base.lock, dv := x.base.dv, map := x.map
    nozzles := x.nozzles }

/-- An operation that leaves what no operation of a block changes, and neither the supply nor the nozzle tables, leaves the charter. -/
theorem Frame.charter {bs : List Block} {s t : State} (frame : Frame bs s t) (same : t.base = s.base)
    (hb : decide (Block.supply ∉ bs ∧ Block.nozzles ∉ bs) = true) : t.still.charter = s.still.charter := by
  obtain ⟨h1, h2⟩ := of_decide_eq_true hb
  have supply : t.supply = s.supply := frame .supply h1
  have nozzles : t.nozzles = s.nozzles := frame .nozzles h2
  show Charter.mk t.base.mode t.base.cause t.base.params t.base.lock t.base.dv t.supply.map t.nozzles =
    Charter.mk s.base.mode s.base.cause s.base.params s.base.lock s.base.dv s.supply.map s.nozzles
  rw [same, supply, nozzles]

section
variable (s : State)

/-! ### The updates -/

@[simp] theorem State.setPending_charter (x : List Instr) : (s.setPending x).still.charter = s.still.charter := by rfl
@[simp] theorem State.setPins_charter (x : Pins) : (s.setPins x).still.charter = s.still.charter := by rfl
@[simp] theorem State.setChips_charter (x : Chips) : (s.setChips x).still.charter = s.still.charter := by rfl
@[simp] theorem State.setTickets_charter (x : Admission) : (s.setTickets x).still.charter = s.still.charter := by rfl
@[simp] theorem State.setSheets_charter (x : Sheets) : (s.setSheets x).still.charter = s.still.charter := by rfl
@[simp] theorem State.setStation_charter (x : Station) : (s.setStation x).still.charter = s.still.charter := by rfl
@[simp] theorem State.setPorts_charter (x : PerPort PortRec) : (s.setPorts x).still.charter = s.still.charter := by rfl
@[simp] theorem State.modPort_charter (p : Port) (f : PortRec → PortRec) : (s.modPort p f).still.charter = s.still.charter := by rfl
@[simp] theorem State.replied_charter (r : State) (p : Port) (c : Nat) (k : ReplyCode) (v n : Nat) :
    (s.replied r p c k v n).still.charter = s.still.charter := by rfl

/-- A supply with the same map. -/
theorem State.setSupply_charter {x : Supply} (h : x.map = s.supply.map) : (s.setSupply x).still.charter = s.still.charter := by
  simp [State.still, Still.charter, State.base, h]

/-- A ledger with the same drop volumes. -/
theorem State.setLedger_charter {x : Ledger} (h : ∀ c, (x.chan.get c).dv = (s.ledger.chan.get c).dv) :
    (s.setLedger x).still.charter = s.still.charter := by
  simp [State.still, Still.charter, State.base, h]

/-- Another mode unit. -/
theorem State.setMode_charter (x : ModeUnit) : (s.setMode x).still.charter =
    { s.still.charter with mode := x.mode, cause := x.cause, params := x.params, lock := x.lock } := by rfl

@[simp] theorem State.when_charter (b : Bool) {f : State → State} (h : ∀ t, (f t).still.charter = t.still.charter) :
    (s.when b f).still.charter = s.still.charter := by
  cases b
  · rfl
  · exact h s

@[simp] theorem State.foldl_charter {α : Type} (l : List α) {f : State → α → State}
    (h : ∀ t x, (f t x).still.charter = t.still.charter) : (l.foldl f s).still.charter = s.still.charter := by
  induction l generalizing s with
  | nil => rfl
  | cons x l ih => exact (ih (f s x)).trans (h s x)

/-! ### Waste and ink -/

@[simp] theorem State.setWaste_charter (w : WasteRec) : (s.setWaste w).still.charter = s.still.charter := by rfl

@[simp] theorem State.setWa_charter (n : Nat) : (s.setWa n).still.charter = s.still.charter := by rfl

@[simp] theorem State.refreshFull_charter : s.refreshFull.still.charter = s.still.charter := by simp [State.refreshFull]

@[simp] theorem State.refreshWaste_charter : s.refreshWaste.still.charter = s.still.charter := by simp [State.refreshWaste]

/-- An operation of the ledger that leaves the drop volumes, with the waste and the parts that it sets. -/
theorem State.ledgerOp_charter (f : Channel → ChannelRec → ChannelRec) (hf : ∀ c r, (f c r).dv = r.dv) :
    (s.ledgerOp f).still.charter = s.still.charter :=
  (s.ledgerOp_frame f).charter (s.ledgerOp_base f hf) rfl

@[simp] theorem State.settleSpit_charter (m : Three Bool) (pairs : List (Nat × Nat)) :
    (s.settleSpit m pairs).still.charter = s.still.charter := by
  unfold State.settleSpit
  dsimp only
  rw [State.refreshWaste_charter]
  exact (State.setLedger_charter _ fun _ => rfl).trans (s.ledgerOp_charter _ fun c r => by split <;> rfl)

@[simp] theorem State.settleSuction_charter (h : Head) (level : Nat) (b : Bool) :
    (s.settleSuction h level b).still.charter = s.still.charter := by
  unfold State.settleSuction
  dsimp only
  rw [State.refreshWaste_charter]
  exact (State.setLedger_charter _ fun _ => rfl).trans (s.ledgerOp_charter _ fun c r => by split <;> rfl)

/-! ### Slots and the cartridge -/

@[simp] theorem State.putSlot_charter (k : SlotId) (r : SlotRec) : (s.putSlot k r).still.charter = s.still.charter := by
  unfold State.putSlot
  simp only [State.still_raiseIf]
  exact s.setSupply_charter rfl

@[simp] theorem State.promote_charter (c : Channel) : (s.promote c).still.charter = s.still.charter := by
  unfold State.promote
  repeat' split
  all_goals simp

@[simp] theorem State.promoteFor_charter (k : SlotId) : (s.promoteFor k).still.charter = s.still.charter := by
  unfold State.promoteFor
  split <;> simp

@[simp] theorem State.placeSlot_charter (k : SlotId) (c : Channel) (r : SlotRec) :
    (s.placeSlot k c r).still.charter = s.still.charter := by
  obtain ⟨x, -, placed | ⟨j, q, -, placed⟩⟩ := s.placeSlot_cases k c r
  · rw [placed, State.putSlot_charter]
  · rw [placed, State.putSlot_charter, State.putSlot_charter]

@[simp] theorem State.applyTank_charter (k : SlotId) (i : Identity) (m : BitVec 128) :
    (s.applyTank k i m).still.charter = s.still.charter := by
  unfold State.applyTank
  repeat' split
  all_goals simp

@[simp] theorem State.applyWaste_charter (i : Identity) (m : BitVec 128) :
    (s.applyWaste i m).still.charter = s.still.charter := by
  unfold State.applyWaste
  repeat' split
  all_goals simp

@[simp] theorem State.applyIdentity_charter (p : LinkPos) (i : Identity) (m : BitVec 128) :
    (s.applyIdentity p i m).still.charter = s.still.charter := by
  cases p <;> simp [State.applyIdentity]

@[simp] theorem State.tankArrives_charter (k : SlotId) : (s.tankArrives k).still.charter = s.still.charter := by
  simp [State.tankArrives]

@[simp] theorem State.tankLeaves_charter (k : SlotId) : (s.tankLeaves k).still.charter = s.still.charter := by
  simp [State.tankLeaves]

@[simp] theorem State.wasteArrives_charter : s.wasteArrives.still.charter = s.still.charter := by simp [State.wasteArrives]

@[simp] theorem State.wasteLeaves_charter : s.wasteLeaves.still.charter = s.still.charter := by simp [State.wasteLeaves]

@[simp] theorem State.faultPosition_charter (p : LinkPos) : (s.faultPosition p).still.charter = s.still.charter := by
  cases p <;> simp [State.faultPosition]

@[simp] theorem State.addDrawn_charter (k : SlotId) (v : Nat) : (s.addDrawn k v).still.charter = s.still.charter := by
  unfold State.addDrawn
  dsimp only
  split <;> simp

@[simp] theorem State.recomputeLow_charter : s.recomputeLow.still.charter = s.still.charter := by simp [State.recomputeLow]

/-- R48: a new map is all that is set. -/
theorem State.takeMap_charter (m : Eight (Option Channel)) : (s.takeMap m).still.charter = { s.still.charter with map := m } := by
  have same : (s.takeMap m).base = s.base := s.takeMap_base m
  have map : (s.takeMap m).supply.map = m := s.takeMap_map m
  have nozzles : (s.takeMap m).nozzles = s.nozzles := s.takeMap_frame m .nozzles (by decide)
  simp only [State.still, Still.charter, same, map, nozzles]

/-! ### The link and the pump -/

@[simp] theorem State.confirmMarks_charter (p : LinkPos) (n : Nat) : (s.confirmMarks p n).still.charter = s.still.charter := by
  cases p with
  | slot k => exact s.setSupply_charter rfl
  | waste => simp [State.confirmMarks]

@[simp] theorem State.judgeAttempt_charter (j : LinkJob) (m : BitVec 128) :
    (s.judgeAttempt j m).still.charter = s.still.charter := by
  unfold State.judgeAttempt
  repeat' split
  all_goals simp

@[simp] theorem State.takeAnswer_charter (j : LinkJob) (r : LinkRun) (a : LinkAnswer) :
    (s.takeAnswer j r a).still.charter = s.still.charter := by
  unfold State.takeAnswer
  repeat' split
  all_goals simp

@[simp] theorem State.busyTimesOut_charter (j : LinkJob) (r : LinkRun) :
    (s.busyTimesOut j r).still.charter = s.still.charter := by
  unfold State.busyTimesOut
  repeat' split
  all_goals simp

@[simp] theorem State.completeStroke_charter (r : StrokeRun) (b : Bool) :
    (s.completeStroke r b).still.charter = s.still.charter := by
  unfold State.completeStroke
  dsimp only
  split <;> simp

/-! ### The station -/

@[simp] theorem State.finishOrder_charter : s.finishOrder.still.charter = s.still.charter := by rfl

@[simp] theorem State.enterFault_charter (why : StationCause) : (s.enterFault why).still.charter = s.still.charter := by
  simp [State.enterFault]

@[simp] theorem State.orderTimesOut_charter : s.orderTimesOut.still.charter = s.still.charter := by simp [State.orderTimesOut]

@[simp] theorem State.endSuction_charter (r : SuctionRun) : (s.endSuction r).still.charter = s.still.charter := by
  unfold State.endSuction
  dsimp only
  split <;> simp

theorem State.spitDone_charter (pairs : List (Nat × Nat)) : (s.spitDone pairs).still.charter = s.still.charter := by
  simp [State.spitDone]

/-- R153: a check sets the nozzle tables alone. -/
theorem State.checkDone_charter (reports : List CheckReport) : (s.checkDone reports).still.charter =
    { s.still.charter with nozzles := (s.putNozzles (s.checked reports)).nozzles } := by
  have same : (s.checkDone reports).base = s.base := by simp [State.checkDone]
  have supply : (s.checkDone reports).supply = s.supply := s.checkDone_frame reports .supply (by decide)
  simp only [State.still, Still.charter, same, supply, s.checkDone_nozzles reports]

/-! ### Modes -/

/-- R179, R181: the entry to RUN. -/
theorem State.enterRun_charter : s.enterRun.still.charter = { s.still.charter with mode := .run } := by rfl

/-- R180: the entry to SLEEP. -/
theorem State.enterSleep_charter : s.enterSleep.still.charter = { s.still.charter with mode := .sleep } := by rfl

@[simp] theorem State.cleanAll_charter (o : CleanOrigin) : (s.cleanAll o).still.charter = s.still.charter := by
  simp [State.cleanAll]

end

end Sys2Proof.Machine
end

section
/-!
SUPPORT. What one command can do to the charter (`Charter.Change`, R178 to R182, R184, R185): each setting changes by the commands that
the manual names for it, and a hub that sleeps wakes. Here are the frames of the transactions and the owning rules of the commands.
-/

namespace Sys2Proof.Machine

/-! ### Changes -/

/-- The charter right after a reset, but for its cause (R178). -/
def Charter.reset (why : ResetCause) : Charter := { State.reset.still.charter with cause := why }

/-- Tables that R152 allows where those before them were. -/
def Nozzles.Follows (new old : Nozzles) : Prop :=
  (∀ c, (old.chan.get c).Legal) ∧ old.generation < 65536 → (∀ c, (new.chan.get c).Legal) ∧ new.generation < 65536

/-- What a command can do to the charter. -/
inductive Charter.Change : Instr → Charter → Charter → Prop
  | none {c : Instr} {x : Charter} : Change c x x
  | wake {c : Instr} {x : Charter} (asleep : x.mode = .sleep) : Change c x { x with mode := .run }
  | power {park : ParkState} {x : Charter} (why : ResetCause) : Change (.powerOn park) x (.reset why)
  | release {park : ParkState} {x : Charter} (why : ResetCause) : Change (.resetLineRelease park) x (.reset why)
  | go {p : Port} {x : Charter} (start : x.mode = .start) : Change (.go p) x { x with mode := .run }
  | sleepNow {p : Port} {x : Charter} (run : x.mode = .run) : Change (.sleepNow p) x { x with mode := .sleep }
  | idleSleep {x : Charter} (run : x.mode = .run) : Change .idleSleepExpiry x { x with mode := .sleep }
  | drops {p : Port} {n mask v : Nat} {x : Charter} (dv : Channel → Nat) : Change (.configSet p n mask v) x { x with dv := dv }
  | param {p : Port} {n mask v : Nat} {x : Charter} (taken : x.params.refuses n v = false) :
      Change (.configSet p n mask v) x { x with params := x.params.put n (clampParam n v) }
  | lock {p : Port} {x : Charter} : Change (.configLock p) x { x with lock := true }
  | soft {p : Port} {park : ParkState} {x : Charter} (run : x.mode = .run) : Change (.hubReset p park) x { x with cause := .soft }
  | map {p : Port} {e : Eight Nat} {x : Charter} {m : Eight (Option Channel)} (legal : mapLegal m = true) :
      Change (.slotMapSet p e) x { x with map := m }
  | tables {c : Instr} {x : Charter} {n : Nozzles} (follows : n.Follows x.nozzles) : Change c x { x with nozzles := n }

section
variable {c : Instr} {s t : State}

/-- The command changes the charter of one state into that of the other. -/
def State.Changes (c : Instr) (s t : State) : Prop := Charter.Change c s.still.charter t.still.charter

theorem State.Changes.of_eq (same : t.still.charter = s.still.charter) : State.Changes c s t := by
  rw [State.Changes, same]
  exact .none

theorem State.Changes.settle (change : State.Changes c s t) : State.Changes c s t.settle := by
  rw [State.Changes, State.settle_still]
  exact change

/-- What leaves the charter may come before. -/
theorem State.Changes.from_eq {u : State} (change : State.Changes c u t) (same : u.still.charter = s.still.charter) :
    State.Changes c s t := by
  rw [State.Changes, ← same]
  exact change

/-- What leaves the charter may come after. -/
theorem State.Changes.to_eq {u : State} (change : State.Changes c s t) (same : u.still.charter = t.still.charter) :
    State.Changes c s u := by
  rw [State.Changes, same]
  exact change

theorem State.charter_mode_of_inSleep (sleep : s.inSleep = true) : s.still.charter.mode = .sleep := by
  rw [State.inSleep, beq_iff_eq] at sleep
  exact sleep

theorem State.charter_mode_of_inRun (run : s.inRun = true) : s.still.charter.mode = .run := by
  rw [State.inRun, beq_iff_eq] at run
  exact run

theorem State.charter_mode_of_inStart (start : s.inStart = true) : s.still.charter.mode = .start := by
  rw [State.inStart, beq_iff_eq] at start
  exact start

/-- R181: a wake source returns a hub that sleeps to RUN. -/
theorem State.wake_changes (s : State) : State.Changes c s s.wake := by
  unfold State.wake
  split
  · next sleep =>
    refine State.Changes.settle ?_
    rw [State.Changes, s.enterRun_charter]
    exact .wake (State.charter_mode_of_inSleep sleep)
  · exact .of_eq rfl

/-! ### The frames of the transactions (R164 to R167) -/

theorem State.takeWrite_changes (p : Port) (cmd : Command) (n : Nat) {d : State → Answer}
    (decided : State.Changes c s (d s).after) : State.Changes c s (s.takeWrite p cmd n d) := by
  unfold State.takeWrite
  split
  · exact .of_eq rfl
  split
  · exact (State.wake_changes _).from_eq (State.replied_charter _ _ _ _ _ _ _)
  split
  · exact (State.wake_changes _).from_eq (State.replied_charter _ _ _ _ _ _ _)
  · exact decided.to_eq (State.replied_charter _ _ _ _ _ _ _)

theorem State.takeRead_changes (p : Port) (cmd : Command) (bits : Nat) (data : List Byte) :
    State.Changes c s (s.takeRead p cmd bits data id) := by
  unfold State.takeRead
  split
  · exact .of_eq rfl
  split
  · exact (State.wake_changes _).from_eq (s.modPort_charter _ _)
  split
  · exact (State.wake_changes _).from_eq (s.modPort_charter _ _)
  · exact .of_eq (s.modPort_charter _ _)

/-- A port's part of a read, with the wake at its rise. -/
theorem State.wakeWhen_changes (p : Port) (f : PortRec → PortRec) (rises : Bool) :
    State.Changes c s ((s.modPort p f).when rises State.wake) := by
  cases rises
  · exact .of_eq (s.modPort_charter _ _)
  · exact (State.wake_changes _).from_eq (s.modPort_charter _ _)

theorem State.takePart_changes (p : Port) (cmd : Command) (k : Clocks) (data : List Byte) (act : PortRec → PortRec) :
    State.Changes c s (s.takePart p cmd k data act) := by
  unfold State.takePart
  dsimp only
  split
  · exact .of_eq rfl
  split
  · exact State.wakeWhen_changes _ _ _
  · exact State.wakeWhen_changes _ _ _

theorem State.discard_changes (p : Port) (bits : Nat) : State.Changes c s (s.discard p bits) := by
  unfold State.discard
  split
  · exact .of_eq rfl
  · exact (State.wake_changes _).from_eq rfl

/-! ### Sensor changes -/

/-- A sensor change sets its pins, and acts unless the line is held. -/
theorem State.sensed_changes {act : State → State} (pins : t.still.charter = s.still.charter) (acts : State.Changes c t (act t)) :
    State.Changes c s (t.sensed act) := by
  unfold State.sensed
  split
  · exact .of_eq pins
  · exact acts.from_eq pins

theorem State.sensedSome_changes {act : State → Option State} (pins : t.still.charter = s.still.charter)
    (acts : ∀ u, act t = some u → u.still.charter = t.still.charter) : State.Changes c s (t.sensedSome act) := by
  refine State.sensed_changes pins ?_
  cases reaction : act t with
  | none => exact .of_eq rfl
  | some u => exact (State.Changes.of_eq (acts u reaction)).settle

theorem State.sensedAwake_changes {act : State → State} (pins : t.still.charter = s.still.charter)
    (acts : ∀ u, (act u).still.charter = u.still.charter) : State.Changes c s (t.sensedAwake act) :=
  State.sensed_changes pins ((State.wake_changes t).to_eq (acts _)).settle

end

/-! ### The commands of all ports, and the Raster Port's -/

section
variable {c : Instr} (s : State)

theorem decideTableSel_charter (p : Port) (table place : Nat) :
    (decideTableSel p table place s).after.still.charter = s.still.charter := by
  unfold decideTableSel
  repeat' split
  all_goals rfl

theorem decideSheetOpen_charter (pref media width planned top bottom dry mode : Nat) :
    (decideSheetOpen pref media width planned top bottom dry mode s).after.still.charter = s.still.charter := by
  have opened (x : RollPref) (m : CutMode) : (s.appendSheet x media width planned top bottom (min dry 600) m).still.charter =
      s.still.charter := (s.appendSheet_frame _ _ _ _ _ _ _ _).charter (s.appendSheet_base _ _ _ _ _ _ _ _) rfl
  unfold decideSheetOpen
  repeat' split
  all_goals simp [Answer.refuse, opened]

theorem decideSheetClose_charter (id final : Nat) :
    (decideSheetClose id final s).after.still.charter = s.still.charter := by
  unfold decideSheetClose
  repeat' split
  all_goals simp [Answer.refuse, Answer.accept]

theorem decideSheetCancel_charter (id : Nat) : (decideSheetCancel id s).after.still.charter = s.still.charter := by
  unfold decideSheetCancel
  repeat' split
  all_goals simp [Answer.refuse, Answer.accept]

theorem decideSwathAsk_charter (sheet index advance count : Nat) (pairs : List (Nat × Nat)) :
    (decideSwathAsk sheet index advance count pairs s).after.still.charter = s.still.charter := by
  have asked : (s.appendTicket sheet index advance (pairCounts pairs)).still.charter = s.still.charter :=
    (s.appendTicket_frame _ _ _ _).charter (s.appendTicket_base _ _ _ _) rfl
  unfold decideSwathAsk
  dsimp only
  repeat' split
  all_goals simp [Answer.refuse, asked]

theorem decideSwathWithdraw_charter (n : Nat) : (decideSwathWithdraw n s).after.still.charter = s.still.charter := by
  unfold decideSwathWithdraw
  repeat' split
  all_goals simp [Answer.refuse, Answer.accept]

/-! ### The Carriage Port's -/

theorem decideSwathTake_charter (n : Nat) : (decideSwathTake n s).after.still.charter = s.still.charter := by
  unfold decideSwathTake
  repeat' split
  all_goals simp [Answer.refuse, Answer.accept, State.takeTicket]

theorem decideSwathDone_charter (n count : Nat) (pairs : List (Nat × Nat)) :
    (decideSwathDone n count pairs s).after.still.charter = s.still.charter := by
  have settled (t : Ticket) : (s.settleTicket t pairs).still.charter = s.still.charter :=
    (s.settleTicket_frame t pairs).charter (s.settleTicket_base t pairs) rfl
  unfold decideSwathDone
  repeat' split
  all_goals simp [Answer.refuse, Answer.accept, settled]

theorem decideParkState_charter (code : Nat) : (decideParkState code s).after.still.charter = s.still.charter := by
  have away : s.reportAway.still.charter = s.still.charter := by
    unfold State.reportAway
    dsimp only
    split <;> simp
  unfold decideParkState
  split
  · rfl
  · simp [Answer.accept, State.reportParked]
  · simp [Answer.accept, away]

theorem decideSpitDone_charter (count : Nat) (pairs : List (Nat × Nat)) :
    (decideSpitDone count pairs s).after.still.charter = s.still.charter := by
  unfold decideSpitDone
  repeat' split
  all_goals simp [Answer.refuse, Answer.accept, State.spitDone_charter]

/-- R152: the tables stay as R152 has them where each channel's does. -/
theorem State.putNozzles_follows {new : Six NozzleRec} (legal : (∀ c, (s.nozzles.chan.get c).Legal) → ∀ c, (new.get c).Legal) :
    (s.putNozzles new).nozzles.Follows s.nozzles := by
  rintro ⟨tables, generation⟩
  rw [State.putNozzles_nozzles]
  refine ⟨legal tables, ?_⟩
  dsimp only
  split
  · exact Nat.mod_lt _ (by decide)
  · exact generation

/-- R158: a grade is no part of what R152 asks. -/
theorem NozzleRec.Legal.regrade {r : NozzleRec} (legal : r.Legal) : r.regrade.Legal := legal

/-- R153 to R157: a check keeps each channel's tables as R152 has them. -/
theorem State.checked_legal {reports : List CheckReport} (named : ∀ r ∈ reports, ∀ n ∈ r.missing, n < 512)
    (legal : ∀ c, (s.nozzles.chan.get c).Legal) (c : Channel) : ((s.checked reports).get c).Legal := by
  cases report : reportOf reports c with
  | none =>
    rw [State.checked_unreported fun r hr same => absurd (List.find?_eq_none.1 report r hr) (by simp [same])]
    exact legal c
  | some r =>
    have applied := (legal c).applyReport (named r (List.mem_of_find?_eq_some report)) (r.overflow == 1)
    rw [State.checked_reported report]
    dsimp only
    split
    · exact applied.retire.regrade
    · exact applied.regrade

/-- R129, test 6. -/
theorem named_of_not_checkIncomplete {m : Three Bool} {reports : List CheckReport} (complete : checkIncomplete m reports = false) :
    ∀ r ∈ reports, ∀ n ∈ r.missing, n < 512 := by
  intro r hr n hn
  by_contra outside
  have incomplete : checkIncomplete m reports = true := by
    unfold checkIncomplete
    exact Bool.or_eq_true_iff.2 (.inr (List.any_eq_true.2 ⟨r, hr, List.any_eq_true.2 ⟨n, hn, decide_eq_true (Nat.le_of_not_lt outside)⟩⟩))
  rw [complete] at incomplete
  cases incomplete

theorem decideCheckDone_changes (count : Nat) (reports : List CheckReport) :
    State.Changes c s (decideCheckDone count reports s).after := by
  unfold decideCheckDone
  repeat' split
  case isFalse.isFalse.isFalse.isFalse complete =>
    refine State.Changes.settle ?_
    rw [State.Changes, s.checkDone_charter]
    exact .tables (s.putNozzles_follows (s.checked_legal (named_of_not_checkIncomplete (by simpa using complete))))
  all_goals exact .of_eq rfl

theorem decideOrderDone_changes (kind count : Nat) (pairs : List (Nat × Nat)) (reports : List CheckReport) :
    State.Changes c s (decideOrderDone kind count pairs reports s).after := by
  unfold decideOrderDone
  repeat' split
  case isFalse.isTrue => exact .of_eq (decideSpitDone_charter s count pairs)
  case isFalse.isFalse.isTrue => exact decideCheckDone_changes s count reports
  all_goals exact .of_eq rfl

/-! ### The Panel Port's -/

theorem decideGo_changes (p : Port) : State.Changes (.go p) s (decideGo s).after := by
  unfold decideGo
  split
  · next start =>
    have ran : s.goRun.still.charter = s.enterRun.still.charter := by simp [State.goRun]
    refine State.Changes.settle ?_
    rw [State.Changes, ran, s.enterRun_charter]
    exact .go (State.charter_mode_of_inStart start)
  · exact .of_eq rfl

theorem State.enterSleep_changes (run : s.inRun = true) (p : Port) :
    State.Changes (.sleepNow p) s s.enterSleep ∧ State.Changes .idleSleepExpiry s s.enterSleep := by
  rw [State.Changes, State.Changes, s.enterSleep_charter]
  exact ⟨.sleepNow (State.charter_mode_of_inRun run), .idleSleep (State.charter_mode_of_inRun run)⟩

theorem decideSleepNow_changes (p : Port) : State.Changes (.sleepNow p) s (decideSleepNow s).after := by
  unfold decideSleepNow
  split
  · next ready => exact (s.enterSleep_changes (Bool.and_eq_true_iff.1 ready).1 p).1
  · exact .of_eq rfl

/-- R183: what an applied parameter brings about sets nothing. -/
theorem State.paramActs_charter (n : Nat) : (s.paramActs n).still.charter = s.still.charter := by
  unfold State.paramActs
  split
  all_goals simp

/-- R182: a parameter that is applied. -/
theorem State.applyParam_charter (n v : Nat) :
    (s.applyParam n v).still.charter = { s.still.charter with params := s.params.put n v } := by
  unfold State.applyParam
  split
  · next same => rw [same]; rfl
  · rw [State.paramActs_charter]
    rfl

/-- R20: a drop volume that is applied. -/
theorem State.setDv_charter (m : Six Bool) (v : Nat) : (s.setDv m v).still.charter =
    { s.still.charter with dv := fun c => if m.get c then v else (s.ledger.chan.get c).dv } := by
  refine Charter.ext rfl rfl rfl rfl (funext fun c => ?_) rfl rfl
  show ((Six.tab fun c => if m.get c then { s.ledger.chan.get c with dv := v } else s.ledger.chan.get c).get c).dv = _
  rw [Six.get_tab]
  split <;> simp_all

theorem decideConfigSet_changes (p : Port) (n mask v : Nat) :
    State.Changes (.configSet p n mask v) s (decideConfigSet n mask v s).after := by
  unfold decideConfigSet decideDv
  repeat' split
  case h_2.isFalse =>
    rw [State.Changes, State.setDv_charter]
    exact .drops _
  case isFalse.isFalse.isFalse.isFalse.isFalse taken _ =>
    rw [State.Changes, State.applyParam_charter]
    exact .param (Bool.eq_false_of_not_eq_true taken)
  all_goals exact .of_eq rfl

theorem decideConfigLock_changes (p : Port) : State.Changes (.configLock p) s (decideConfigLock s).after := .lock

theorem decideSlotMapSet_changes (p : Port) (e : Eight Nat) :
    State.Changes (.slotMapSet p e) s (decideSlotMapSet e s).after := by
  unfold decideSlotMapSet
  repeat' split
  case h_2.isFalse.isFalse.isFalse m _ legal _ _ =>
    dsimp only [Answer.accept]
    refine State.Changes.settle ?_
    rw [State.Changes, s.takeMap_charter]
    exact .map (by simpa using legal)
  all_goals exact .of_eq rfl

theorem decideTankAccept_charter (slot ml : Nat) : (decideTankAccept slot ml s).after.still.charter = s.still.charter := by
  unfold decideTankAccept
  repeat' split
  all_goals simp [Answer.refuse, Answer.accept, State.acceptTank]

theorem decideLevelRestore_charter (channel level : Nat) :
    (decideLevelRestore channel level s).after.still.charter = s.still.charter := by
  unfold decideLevelRestore
  repeat' split
  all_goals simp [Answer.refuse]

theorem sortIndices_length_le (l : List Nat) : (sortIndices l).length ≤ l.length :=
  (List.subperm_of_subset ((sortIndices_sorted l).imp Nat.ne_of_lt) fun _ => mem_sortIndices.1).length_le

/-- R161: a restored list keeps the channel's tables as R152 has them. -/
theorem NozzleRec.Legal.restore {r : NozzleRec} (legal : r.Legal) {indices : List Nat} (few : indices.length ≤ 16)
    (named : ∀ n ∈ indices, n < 512) : (r.restore indices).Legal := by
  obtain ⟨sorted, short, entries, -⟩ := legal
  have kept := List.filter_sublist (l := r.dead) (p := fun d => !indices.contains d.nozzle)
  rw [NozzleRec.Legal, NozzleRec.restore_dead, NozzleRec.restore_retired]
  refine ⟨sorted.sublist (kept.map _), kept.length_le.trans short, fun d hd => entries d (kept.subset hd), sortIndices_sorted _,
    (sortIndices_length_le _).trans few, fun n hn => named n (mem_sortIndices.1 hn), fun d hd retired => ?_⟩
  have apart := (List.mem_filter.1 hd).2
  simp [mem_sortIndices.1 retired] at apart

theorem decideRetiredRestore_changes (channel count : Nat) (indices : List Nat) :
    State.Changes c s (decideRetiredRestore channel count indices s).after := by
  unfold decideRetiredRestore
  repeat' split
  case h_2.isFalse k _ taken =>
    simp only [not_or, Nat.not_lt, List.any_eq_true, decide_eq_true_eq, not_exists, not_and, Nat.not_le] at taken
    obtain ⟨-, few, named⟩ := taken
    have restored := s.putNozzles_follows (new := s.restored k indices) fun legal c => by
      by_cases same : c = k
      · rw [same, State.restored_same]
        exact (legal k).restore few named
      · rw [State.restored, Six.get_set_other _ _ _ _ same]
        exact legal c
    have set : (s.putNozzles (s.restored k indices)).still.charter =
        { s.still.charter with nozzles := (s.putNozzles (s.restored k indices)).nozzles } := by
      have same := s.putNozzles_base (s.restored k indices)
      have supply : (s.putNozzles (s.restored k indices)).supply = s.supply := s.putNozzles_frame _ .supply (by decide)
      simp only [State.still, Still.charter, same, supply]
    show Charter.Change c _ (s.putNozzles (s.restored k indices)).still.charter
    rw [set]
    exact .tables restored
  all_goals exact .of_eq rfl

theorem decideRollLoad_charter (roll media width length : Nat) :
    (decideRollLoad roll media width length s).after.still.charter = s.still.charter := by
  unfold decideRollLoad
  repeat' split
  all_goals simp [Answer.refuse, Answer.accept, State.describeRoll]

theorem decideCleanAsk_charter (mask level urgency : Nat) :
    (decideCleanAsk mask level urgency s).after.still.charter = s.still.charter := by
  unfold decideCleanAsk
  repeat' split
  all_goals simp [Answer.refuse, Answer.accept, State.panelCleans]

theorem decideFeedClear_charter : (decideFeedClear s).after.still.charter = s.still.charter := by
  unfold decideFeedClear
  dsimp only
  repeat' split
  all_goals simp [Answer.refuse, Answer.accept]

theorem decideStationClear_charter (park : ParkState) :
    (decideStationClear park s).after.still.charter = s.still.charter := by
  unfold decideStationClear
  dsimp only
  repeat' split
  all_goals simp [Answer.refuse, Answer.accept, State.stationCleared]

/-! ### Resets -/

/-- R178: power-on and the reset line set everything afresh. -/
theorem State.powerUp_charter (why : ResetCause) (park : ParkState) : (s.powerUp why park).still.charter = .reset why := by
  simp only [State.powerUp, State.raiseSurveys, State.settle_still, State.still_raiseIf]
  rfl

theorem State.softLedger_charter : s.softLedger.still.charter = s.still.charter := by
  unfold State.softLedger
  dsimp only
  rw [State.refreshWaste_charter, State.recomputeLevels_still]
  exact (State.setLedger_charter _ fun _ => rfl).trans (s.ledgerOp_charter _ fun _ _ => rfl)

/-- R185: a soft reset sets the cause and enters RUN. -/
theorem State.softReset_charter (park : ParkState) :
    (s.softReset park).still.charter = { s.still.charter with mode := .run, cause := .soft } := by
  unfold State.softReset
  dsimp only
  generalize cleared : (s.setPorts (PerPort.const PortRec.reset)).setPins { s.pins with parkSwitch := park } = r
  have ports : r.still.charter = s.still.charter := by rw [← cleared]; rfl
  rw [State.enterRun_charter]
  generalize blocks : State.raiseSurveys _ false = u
  have kept : u.still.charter = s.still.charter := by
    rw [← blocks, ← ports]
    simp [State.raiseSurveys, State.softLedger_charter]
  rw [← kept]
  rfl

theorem exec_hubReset_changes {p : Port} {park : ParkState} {t : State} (h : exec (.hubReset p park) s = .next t) :
    State.Changes (.hubReset p park) s t := by
  cases resets : s.softResets p with
  | true =>
    obtain rfl := Host.Outcome.next.inj ((exec_hubReset_resets resets park).symm.trans h)
    have run : s.still.charter.mode = .run := by
      simp only [State.softResets, Bool.and_eq_true] at resets
      exact State.charter_mode_of_inRun resets.2
    rw [State.Changes, State.modPort_charter, State.settle_still, s.softReset_charter, ← run]
    exact .soft run
  | false =>
    obtain rfl := Host.Outcome.next.inj ((exec_hubReset_refuses resets park).symm.trans h)
    exact State.takeWrite_changes _ _ _ (.of_eq rfl)

end

end Sys2Proof.Machine
end

section
/-!
SUPPORT. Every command changes the charter as the manual names it (`exec_changes`), and a millisecond leaves it (`State.tick_charter`).
O53 and O54 are settled from it.
-/

namespace Sys2Proof.Machine

section
variable {s t : State}

/-! ### Sensor changes and timers -/

theorem State.tripped_charter {c : Channel} {wet : Bool}
    (h : (if wet then (s.tripped c).map fun r => s.completeStroke r true else none) = some t) :
    t.still.charter = s.still.charter := by
  split at h
  · obtain ⟨r, -, rfl⟩ := Option.map_eq_some_iff.1 h
    simp
  · cases h

theorem State.strokeExpires_charter (h : s.strokeExpires = some t) : t.still.charter = s.still.charter := by
  unfold State.strokeExpires at h
  split at h <;> cases h
  simp

theorem State.suctionExpires_charter (h : s.suctionExpires = some t) : t.still.charter = s.still.charter := by
  unfold State.suctionExpires at h
  split at h <;> cases h
  simp

theorem State.linkAnswers_charter {d : LinkDelivery} (h : s.linkAnswers d = some t) : t.still.charter = s.still.charter := by
  unfold State.linkAnswers at h
  split at h
  · obtain rfl := Option.some.inj h
    repeat' split
    all_goals simp
  · cases h

theorem State.waitTimesOut_charter (h : s.waitTimesOut = some t) : t.still.charter = s.still.charter := by
  unfold State.waitTimesOut at h
  repeat' split at h
  all_goals cases h
  simp

theorem State.answerTimesOut_charter (h : s.answerTimesOut = some t) : t.still.charter = s.still.charter := by
  unfold State.answerTimesOut at h
  repeat' split at h
  all_goals cases h
  simp

theorem State.actuatorReports_charter (h : s.actuatorReports = some t) : t.still.charter = s.still.charter := by
  unfold State.actuatorReports at h
  split at h <;> cases h
  simp

theorem State.moveEnds_charter (h : s.moveEnds = some t) : t.still.charter = s.still.charter := by
  unfold State.moveEnds at h
  split at h <;> cases h
  simp

theorem State.watchdogExpires_charter (h : s.watchdogExpires = some t) : t.still.charter = s.still.charter := by
  unfold State.watchdogExpires at h
  split at h <;> cases h
  simp

theorem State.swapExpires_charter (h : s.swapExpires = some t) : t.still.charter = s.still.charter := by
  unfold State.swapExpires at h
  split at h <;> cases h
  simp

theorem State.cutExpires_charter (h : s.cutExpires = some t) : t.still.charter = s.still.charter := by
  unfold State.cutExpires at h
  split at h <;> cases h
  simp

theorem State.capReports_charter {x : CapReading} (h : s.capReports x = some t) : t.still.charter = s.still.charter := by
  unfold State.capReports at h
  repeat' split at h
  all_goals cases h
  all_goals simp

theorem State.capMoveExpires_charter (h : s.capMoveExpires = some t) : t.still.charter = s.still.charter := by
  unfold State.capMoveExpires at h
  repeat' split at h
  all_goals cases h
  simp

theorem State.wipeExpires_charter (h : s.wipeExpires = some t) : t.still.charter = s.still.charter := by
  unfold State.wipeExpires at h
  repeat' split at h
  all_goals cases h
  simp

theorem State.capDelayExpires_charter (h : s.capDelayExpires = some t) : t.still.charter = s.still.charter := by
  unfold State.capDelayExpires at h
  split at h <;> cases h
  rfl

theorem State.exposureReaches_charter {x : Head} {n : Nat} (h : s.exposureReaches x n = some t) :
    t.still.charter = s.still.charter := by
  unfold State.exposureReaches at h
  split at h <;> cases h
  rfl

theorem State.orderExpires_charter (h : s.orderExpires = some t) : t.still.charter = s.still.charter := by
  unfold State.orderExpires at h
  split at h <;> cases h
  simp

theorem State.swathExpires_charter (h : s.swathExpires = some t) : t.still.charter = s.still.charter := by
  obtain ⟨x, -, rfl⟩ := Option.map_eq_some_iff.1 h
  exact (s.loseTicket_frame x).charter (s.loseTicket_base x) rfl

theorem State.dryExpires_charter {id : Nat} (h : s.dryExpires id = some t) : t.still.charter = s.still.charter := by
  unfold State.dryExpires at h
  split at h <;> cases h
  rfl

/-- R181: the expiry of the idle-service timer. -/
theorem State.idleServiceExpires_changes (sleep : s.inSleep = true) :
    State.Changes .idleServiceExpiry s ((s.cleanAll .idle).enterRun.settle) := by
  refine State.Changes.settle ?_
  rw [State.Changes, State.enterRun_charter, State.cleanAll_charter]
  exact .wake (State.charter_mode_of_inSleep sleep)

end

/-! ### Commands and steps -/

/-- R178 to R182, R184, R185: what a command can do to the charter. -/
theorem exec_changes {c : Instr} {s t : State} (h : exec c s = .next t) : State.Changes c s t := by
  cases c
  case hubReset => exact exec_hubReset_changes s h
  all_goals obtain rfl := Host.Outcome.next.inj h
  case powerOn park =>
    rw [State.Changes, State.powerUp_charter]
    exact .power _
  case resetLineAssert => exact .of_eq rfl
  case resetLineRelease park =>
    split
    · rw [State.Changes, State.powerUp_charter]
      exact .release _
    · exact .of_eq rfl
  case frameError => exact State.discard_changes _ _
  case unknownCommand =>
    split
    · exact .of_eq rfl
    · exact (State.wake_changes _).from_eq (State.replied_charter _ _ _ _ _ _ _)
  case getStatus =>
    split
    · exact .of_eq rfl
    · exact .of_eq rfl
  case getReply | getOrder => exact State.takeRead_changes _ _ _ _
  case getEvents | tableRead => exact State.takePart_changes _ _ _ _ _
  case setEventMask => exact State.takeWrite_changes _ _ _ (.of_eq rfl)
  case tableSel => exact State.takeWrite_changes _ _ _ (.of_eq (decideTableSel_charter s _ _ _))
  case sheetOpen => exact State.takeWrite_changes _ _ _ (.of_eq (decideSheetOpen_charter s _ _ _ _ _ _ _ _))
  case sheetClose => exact State.takeWrite_changes _ _ _ (.of_eq (decideSheetClose_charter s _ _))
  case sheetCancel => exact State.takeWrite_changes _ _ _ (.of_eq (decideSheetCancel_charter s _))
  case swathAsk => exact State.takeWrite_changes _ _ _ (.of_eq (decideSwathAsk_charter s _ _ _ _ _))
  case swathWithdraw => exact State.takeWrite_changes _ _ _ (.of_eq (decideSwathWithdraw_charter s _))
  case swathTake => exact State.takeWrite_changes _ _ _ (.of_eq (decideSwathTake_charter s _))
  case swathDone => exact State.takeWrite_changes _ _ _ (.of_eq (decideSwathDone_charter s _ _ _))
  case parkState => exact State.takeWrite_changes _ _ _ (.of_eq (decideParkState_charter s _))
  case orderDone => exact State.takeWrite_changes _ _ _ (decideOrderDone_changes s _ _ _ _)
  case go => exact State.takeWrite_changes _ _ _ (decideGo_changes s _)
  case configSet => exact State.takeWrite_changes _ _ _ (decideConfigSet_changes s _ _ _ _)
  case configLock => exact State.takeWrite_changes _ _ _ (decideConfigLock_changes s _)
  case slotMapSet => exact State.takeWrite_changes _ _ _ (decideSlotMapSet_changes s _ _)
  case tankAccept => exact State.takeWrite_changes _ _ _ (.of_eq (decideTankAccept_charter s _ _))
  case levelRestore => exact State.takeWrite_changes _ _ _ (.of_eq (decideLevelRestore_charter s _ _))
  case retiredRestore => exact State.takeWrite_changes _ _ _ (decideRetiredRestore_changes s _ _ _)
  case rollLoad => exact State.takeWrite_changes _ _ _ (.of_eq (decideRollLoad_charter s _ _ _ _))
  case cleanAsk => exact State.takeWrite_changes _ _ _ (.of_eq (decideCleanAsk_charter s _ _ _))
  case feedClear => exact State.takeWrite_changes _ _ _ (.of_eq (decideFeedClear_charter s))
  case stationClear => exact State.takeWrite_changes _ _ _ (.of_eq (decideStationClear_charter s _))
  case sleepNow => exact State.takeWrite_changes _ _ _ (decideSleepNow_changes s _)
  case probeTrip => exact State.sensedSome_changes rfl fun _ => State.tripped_charter
  case strokeTimerExpiry => exact State.sensedSome_changes rfl fun _ => State.strokeExpires_charter
  case suctionStageEnd => exact State.sensedSome_changes rfl fun _ => State.suctionExpires_charter
  case slotTankArrival k chip =>
    split
    · exact .of_eq rfl
    · exact State.sensedAwake_changes rfl fun u => u.tankArrives_charter k
  case slotTankRemoval k =>
    split
    · exact State.sensedAwake_changes rfl fun u => u.tankLeaves_charter k
    · exact .of_eq rfl
  case wasteCartridgeArrival =>
    split
    · exact .of_eq rfl
    · exact State.sensedAwake_changes rfl State.wasteArrives_charter
  case wasteCartridgeRemoval =>
    split
    · exact State.sensedAwake_changes rfl State.wasteLeaves_charter
    · exact .of_eq rfl
  case linkAnswer => exact State.sensedSome_changes rfl fun _ => State.linkAnswers_charter
  case linkAnswerTimeout => exact State.sensedSome_changes rfl fun _ => State.answerTimesOut_charter
  case busyTimeout => exact State.sensedSome_changes rfl fun _ => State.waitTimesOut_charter
  case rollArrival r =>
    split
    · exact .of_eq rfl
    · exact State.sensedAwake_changes rfl fun u => by rw [u.rollArrives_still]
  case rollRemoval r =>
    split
    · exact State.sensedAwake_changes rfl fun u => by rw [u.rollLeaves_still]
    · exact .of_eq rfl
  case paperEnd =>
    refine State.sensedSome_changes rfl fun u hu => ?_
    split at hu
    · cases hu
    · rw [State.paperEnds_still hu]
  case threadSensorChange present =>
    exact State.sensedSome_changes rfl fun u hu => by rw [State.threadChanges_still present hu]
  case actuatorPositionReport => exact State.sensedSome_changes rfl fun _ => State.actuatorReports_charter
  case cutterHomeSwitchChange home =>
    exact State.sensedSome_changes rfl fun u hu => by rw [State.cutterReports_still home hu]
  case endOfMove => exact State.sensedSome_changes rfl fun _ => State.moveEnds_charter
  case advanceWatchdogExpiry => exact State.sensedSome_changes rfl fun _ => State.watchdogExpires_charter
  case swapTimerExpiry => exact State.sensedSome_changes rfl fun _ => State.swapExpires_charter
  case cutTimerExpiry => exact State.sensedSome_changes rfl fun _ => State.cutExpires_charter
  case capSensorReport => exact State.sensedSome_changes rfl fun _ => State.capReports_charter
  case capMoveTimerExpiry => exact State.sensedSome_changes rfl fun _ => State.capMoveExpires_charter
  case wipeTimerExpiry => exact State.sensedSome_changes rfl fun _ => State.wipeExpires_charter
  case capDelayExpiry => exact State.sensedSome_changes rfl fun _ => State.capDelayExpires_charter
  case exposureSpitThreshold | exposureCleanThreshold =>
    exact State.sensedSome_changes rfl fun _ => State.exposureReaches_charter
  case orderTimerExpiry => exact State.sensedSome_changes rfl fun _ => State.orderExpires_charter
  case swathTimerExpiry => exact State.sensedSome_changes rfl fun _ => State.swathExpires_charter
  case dryTimerExpiry => exact State.sensedSome_changes rfl fun _ => State.dryExpires_charter
  case idleSleepExpiry =>
    refine State.sensed_changes rfl ?_
    split
    · next runs =>
      simp only [State.idleSleepRuns, Bool.and_eq_true] at runs
      exact (s.enterSleep_changes runs.1.1 .pp).2
    · exact .of_eq rfl
  case idleServiceExpiry =>
    refine State.sensed_changes rfl ?_
    split
    · next sleep => exact State.idleServiceExpires_changes sleep
    · exact .of_eq rfl

/-- A millisecond, or a timer put into the queue, sets nothing. -/
theorem State.tick_charter (s : State) : s.tick.still.charter = s.still.charter := by
  unfold State.tick
  split
  · rfl
  split
  · split <;> rfl
  split
  · rfl
  · rw [State.settle_still]
    rfl

/-- Settles O53: of the changes that a command can make, those of each setting are made by the commands named for it. -/
theorem modesAndConfigurationChangeByName : Obligations.ModesAndConfigurationChangeByName := by
  intro c s t h noPower noRelease
  have change := exec_changes h
  have mode (u : State) : u.mode.mode = u.still.charter.mode := rfl
  have cause (u : State) : u.mode.cause = u.still.charter.cause := rfl
  have params (u : State) : u.mode.params = u.still.charter.params := rfl
  have lock (u : State) : u.mode.lock = u.still.charter.lock := rfl
  have dv (u : State) (k : Channel) : (u.ledger.chan.get k).dv = u.still.charter.dv k := rfl
  simp only [mode, cause, params, lock, dv]
  rw [State.Changes] at change
  generalize s.still.charter = x at change ⊢
  generalize t.still.charter = y at change ⊢
  cases change with
  | none => simp +contextual
  | wake asleep => simp [asleep]
  | power => exact absurd rfl (noPower _)
  | release => exact absurd rfl (noRelease _)
  | go start => simp [start]
  | sleepNow run => simp [run]
  | idleSleep run => simp [run]
  | drops | param | lock | soft | map | tables => simp +contextual

/-! ### The records that stay legal -/

theorem Params.default_legal : Params.default.Legal := by
  unfold Params.Legal
  decide

theorem defaultMap_legal : mapLegal defaultMap = true := by decide

theorem Nozzles.reset_legal : (∀ c, (Nozzles.reset.chan.get c).Legal) ∧ Nozzles.reset.generation < 65536 := by
  refine ⟨fun c => ?_, by decide⟩
  have empty : Nozzles.reset.chan.get c = { dead := [], retired := [], overflow := false, grade := .good } := Six.get_const c _
  rw [empty]
  unfold NozzleRec.Legal
  decide

/-- R182: a parameter that is applied leaves the parameters in range and in order. -/
theorem Params.Legal.put {p : Params} (legal : p.Legal) {n v : Nat} (taken : p.refuses n v = false) :
    (p.put n (clampParam n v)).Legal := by
  unfold Params.Legal at *
  unfold Params.put
  split
  case h_1 | h_2 | h_3 | h_4 =>
    simp only [Params.refuses, between, Params.ordered, Params.put, Bool.or_eq_false_iff, Bool.not_eq_false', Bool.and_eq_true,
      decide_eq_true_eq] at taken
    simp only [clampParam, clampRange]
    omega
  case h_17 => exact legal
  all_goals
    simp only [clampParam, clampRange]
    omega

/-- A command leaves the parameters and the slot map legal. -/
theorem Charter.Change.keeps_legal {c : Instr} {x y : Charter} (change : Change c x y) (params : x.params.Legal)
    (map : mapLegal x.map = true) : y.params.Legal ∧ mapLegal y.map = true := by
  cases change with
  | power | release => exact ⟨Params.default_legal, defaultMap_legal⟩
  | param taken => exact ⟨params.put taken, map⟩
  | map legal => exact ⟨params, legal⟩
  | none | wake | go | sleepNow | idleSleep | drops | lock | soft | tables => exact ⟨params, map⟩

/-- A command leaves the nozzle tables as R152 has them. -/
theorem Charter.Change.keeps_tables {c : Instr} {x y : Charter} (change : Change c x y) : y.nozzles.Follows x.nozzles := by
  cases change with
  | power | release => exact fun _ => Nozzles.reset_legal
  | tables follows => exact follows
  | none | wake | go | sleepNow | idleSleep | drops | param | lock | soft | map => exact id

/-- A step changes the charter as a command does, or leaves it. -/
theorem step_changes {s t : State} (h : step s = .next t) : ∃ c, State.Changes c s t := by
  unfold step at h
  split at h
  · obtain rfl := Host.Outcome.next.inj h
    exact ⟨.endOfMove, .of_eq s.tick_charter⟩
  · exact ⟨_, (exec_changes h).from_eq (s.setPending_charter _)⟩

/-- Settles O54: each change of the charter that a command can make keeps it legal. -/
theorem stepsKeepRecordsLegal : Obligations.StepsKeepRecordsLegal := by
  refine ⟨fun s t params map h => ?_, fun s t tables h => ?_⟩
  · obtain ⟨c, change⟩ := step_changes h
    exact change.keeps_legal params map
  · obtain ⟨c, change⟩ := step_changes h
    exact change.keeps_tables tables

end Sys2Proof.Machine
end

section
/-!
SUPPORT. The invariants of the records at reset (R178), each from what the invariant speaks of. O60 is settled from it.
-/

namespace Sys2Proof.Machine

/-- The hub with nothing inserted is the hub as power-on sets it there. -/
theorem State.reset_powered : State.reset = State.reset.powered .powerOn Pins.reset := by rfl

/-- R1: the record of each channel. -/
theorem State.reset_chan (c : Channel) : State.reset.ledger.chan.get c = ChannelRec.reset := Six.get_const c _

/-- R29: no part stands. -/
theorem State.reset_parts (c : Channel) : State.reset.ledger.spitPart.get c = 0 ∧ State.reset.ledger.suctionPart.get c = 0 :=
  ⟨Six.get_const c _, Six.get_const c _⟩

theorem State.reset_channelsLegal : State.reset.ChannelsLegal := fun c => by
  rw [State.reset_chan]
  decide

theorem State.reset_levelsCurrent : State.reset.LevelsCurrent := fun c => by
  rw [State.reset_chan]
  rfl

theorem State.reset_reservations : State.reset.Reservations := by
  refine ⟨fun c => ?_, fun c => ?_, rfl, fun c => ?_, List.nodup_nil, nofun⟩
  · rw [State.reset_chan]
    rfl
  · rw [State.reset_chan, (State.reset_parts c).1, (State.reset_parts c).2]
    rfl
  · rw [State.reset_chan]
    exact Nat.zero_le _

theorem State.reset_serviceHolds : State.reset.ServiceHolds :=
  (State.serviceHolds_iff _).2 (Duty.holds_atReset nofun)

/-- Settles O60: the records at reset are those that R1, R35, R39, R53, R61, R97, R134, R152 and R178 give. -/
theorem resetMeetsInvariants : Obligations.ResetMeetsInvariants :=
  ⟨Params.default_legal, defaultMap_legal, State.reset_channelsLegal, State.reset_levelsCurrent, Nozzles.reset_legal,
    by unfold State.QueuesFit; decide, State.reset_reservations, State.reset_serviceHolds,
    (State.serviceQueueFits_iff _).2 List.nodup_nil, State.reset_powered ▸ State.powered_linkQueueFits _ _ _, ⟨rfl, rfl, nofun⟩⟩

end Sys2Proof.Machine
end

section
/-!
SUPPORT. The CLEANs that the entry to RUN asks for (R179, R181), and GO (R179). O47 is settled from it.
-/

namespace Sys2Proof.Machine

section
variable {s : State} {h : Head}

/-! ### A CLEAN for each head -/

/-- A CLEAN of the head, of level 1 at least and NOW, waits. -/
def State.CleanWaits (s : State) (h : Head) : Prop :=
  ∃ i ∈ s.service.queue, ∃ l o x a, i.work = .clean h l o x a ∧ 1 ≤ l ∧ x = .now

/-- What waits goes on waiting, NOW, whatever a request merges into it (R136). -/
theorem State.CleanWaits.request (waits : s.CleanWaits h) (h' : Head) (o : CleanOrigin) :
    (s.request (.clean h' 1 o .now 1)).CleanWaits h := by
  obtain ⟨i, hi, l, o', x, a, work, deep, rfl⟩ := waits
  refine ⟨_, State.request_holds hi (.clean h' 1 o .now 1), ?_⟩
  dsimp only
  split
  · rw [work]
    exact ⟨_, _, _, _, rfl, le_max_of_le_left deep, rfl⟩
  · exact ⟨l, o', _, a, work, deep, rfl⟩

theorem State.CleanWaits.requestClean (waits : s.CleanWaits h) (h' : Head) (o : CleanOrigin) :
    (s.requestClean h' 1 o .now 1).CleanWaits h := by
  unfold State.requestClean
  split
  · exact waits
  · exact waits.request h' o

/-- R179, R181: a CLEAN waits for every head that is not FAILED. -/
theorem State.cleanAll_waits (o : CleanOrigin) (sound : s.service.failed.get h = false) : (s.cleanAll o).CleanWaits h := by
  have all : (s.cleanAll o).service.failed.get h = false → (s.cleanAll o).CleanWaits h :=
    foldl_brings (P := fun t : State => t.service.failed.get h = false → t.CleanWaits h) h.mem_all
      (fun t marked => by
        rw [State.requestClean_failed] at marked
        obtain ⟨i, hi, l, o', a, work, deep⟩ := State.requestClean_waits 1 o 1 marked
        exact ⟨i, hi, l, o', .now, a, work, deep, rfl⟩)
      (fun t x waits marked => by
        rw [State.requestClean_failed] at marked
        exact (waits marked).requestClean x o) s
  have kept : (s.cleanAll o).service.failed = s.service.failed :=
    List.foldlRecOn (motive := fun t : State => t.service.failed = s.service.failed) Head.all _ rfl
      fun t same x _ => (State.requestClean_failed t x 1 o .now 1).trans same
  exact all (by rw [kept, sound])

/-- A selection that is due stays due. -/
theorem State.cleanAll_due (o : CleanOrigin) (due : s.due.arbiter = true) : (s.cleanAll o).due.arbiter = true :=
  List.foldlRecOn (motive := fun t : State => t.due.arbiter = true) Head.all _ due fun t was x _ => by
    unfold State.requestClean
    split
    · exact was
    · exact (t.request_rest _).2.2

/-! ### GO -/

variable (s) in
/-- R179: the idle-sleep timer is loaded, and the cap delay where the station is OPEN. -/
def State.running : State := s.enterRun.when (s.station.state == .opened) State.enterOpen

theorem State.running_opened (opened : s.station.state = .opened) : s.running = s.enterRun.enterOpen := by
  unfold State.running
  rw [opened]
  rfl

theorem State.running_shut (shut : s.station.state ≠ .opened) : s.running = s.enterRun := by
  unfold State.running
  rw [beq_false_of_ne shut]
  rfl

theorem State.running_capped : (s.running.station.state != .capped) = (s.station.state != .capped) := by
  by_cases opened : s.station.state = .opened
  · rw [State.running_opened opened, opened]
    rfl
  · rw [State.running_shut opened]
    rfl

variable (s) in
theorem State.goRun_eq : s.goRun = s.running.when (s.station.state != .capped) fun t => t.cleanAll .start := by
  rw [← State.running_capped]
  rfl

variable (s) in
theorem State.running_frame : Frame [.mode, .station, .due] s s.running :=
  s.enterRun_frame.join (Frame.when _ _ fun t => t.enterOpen_frame) (by decide) (by decide)

variable (s) in
theorem State.goRun_frame : Frame [.mode, .station, .service, .due] s s.goRun := by
  rw [State.goRun_eq]
  exact s.running_frame.join (Frame.when _ _ fun t => t.cleanAll_frame _) (by decide) (by decide)

theorem State.running_mode : s.running.mode = s.enterRun.mode := Frame.when _ _ (fun t => t.enterOpen_frame) .mode (by decide)

theorem State.goRun_mode : s.goRun.mode = s.enterRun.mode := by
  rw [State.goRun_eq, ← State.running_mode]
  exact Frame.when _ _ (fun t => t.cleanAll_frame _) .mode (by decide)

theorem State.goRun_due : s.goRun.due.arbiter = true := by
  have due : s.running.due.arbiter = true := by
    rw [show s.running.due = s.enterRun.due from Frame.when _ _ (fun t => t.enterOpen_frame) .due (by decide)]
    rfl
  rw [State.goRun_eq]
  cases s.station.state != .capped
  · exact due
  · exact State.cleanAll_due .start due

theorem State.goRun_capDelay (opened : s.station.state = .opened) :
    s.goRun.station.capDelayLeft = s.params.capDelay * 1000 := by
  have kept : s.goRun.station = s.running.station := by
    rw [State.goRun_eq]
    exact Frame.when _ _ (fun t => t.cleanAll_frame _) .station (by decide)
  rw [kept, State.running_opened opened]
  rfl

theorem State.running_service : s.running.service = s.service := s.running_frame .service (by decide)

/-- R179: no CLEAN is asked for where the station is CAPPED. -/
theorem State.goRun_capped (capped : s.station.state = .capped) : s.goRun.service = s.service := by
  rw [State.goRun_eq, capped]
  exact State.running_service

theorem State.goRun_waits (parted : s.station.state ≠ .capped) (sound : s.service.failed.get h = false) :
    s.goRun.CleanWaits h := by
  rw [State.goRun_eq, bne_iff_ne.2 parted]
  exact State.cleanAll_waits .start (by rw [State.running_service, sound])

end

/-- Settles O47: GO by the mode, and the parts of `State.goRun` one by one. -/
theorem goEntersRun : Obligations.GoEntersRun := by
  intro s p takes
  refine ⟨fun start => ⟨s.goRun, ?_, State.goRun_mode, State.goRun_due, State.goRun_capDelay, State.goRun_capped,
    fun parted h => State.goRun_waits parted, s.goRun_frame⟩, fun run => ?_⟩
  · refine congrArg Host.Outcome.next ((s.takeWrite_takes p takes 0 _).trans ?_)
    rw [show decideGo s = Answer.accept s.goRun.settle from if_pos start]
    rfl
  · refine congrArg Host.Outcome.next ((s.takeWrite_takes p takes 0 _).trans ?_)
    rw [show decideGo s = Answer.refuse s .wrongState from if_neg (by simp [(State.of_inRun run).1])]
    rfl

end Sys2Proof.Machine
end

section
/-!
SUPPORT. SLEEP (R180, R181): the two ways in, the way out, and a millisecond in it. O48 is settled from it.
-/

namespace Sys2Proof.Machine

section
variable {s : State}

/-! ### The conditions and the ways in -/

/-- R180: the sleep conditions, one by one. -/
theorem State.sleepReady_of (sheets : s.sheets.queue = []) (tickets : s.tickets.queue = []) (capped : s.station.state = .capped)
    (free : s.manifold.pump = .free) (idle : ∀ c, (s.session c).state = .idle)
    (path : s.feed.path = .idle ∨ s.feed.path = .unthreaded) (jobs : s.supply.link.jobs = [])
    (waiting : s.service.queue = []) (active : s.service.active = none) : s.sleepReady = true := by
  rcases path with path | path <;>
    simp [State.sleepReady, sheets, tickets, capped, free, idle, path, jobs, waiting, active]

theorem exec_sleepNow (high : s.pins.resetLow = false) (run : s.inRun = true) (ready : s.sleepReady = true) :
    exec (.sleepNow .pp) s = .next (s.enterSleep.replied s .pp 0x6B .accepted 0 0) := by
  refine congrArg Host.Outcome.next ((s.takeWrite_takes .pp ⟨high, rfl, (State.of_inRun run).2⟩ 0 _).trans ?_)
  rw [show decideSleepNow s = Answer.accept s.enterSleep from if_pos (by simp [run, ready])]
  rfl

theorem State.sensed_high (high : s.pins.resetLow = false) (act : State → State) : s.sensed act = act s := by
  simp [State.sensed, high]

theorem exec_idleSleepExpiry (high : s.pins.resetLow = false) (run : s.inRun = true) (ready : s.sleepReady = true)
    (counts : s.mode.idleSleepLeft ≠ none) : exec .idleSleepExpiry s = .next s.enterSleep := by
  refine congrArg Host.Outcome.next ((State.sensed_high high _).trans ?_)
  exact if_pos (by simp [State.idleSleepRuns, run, ready, Option.isSome_iff_ne_none, counts])

/-! ### The way out, and the time in between -/

theorem exec_idleServiceExpiry (high : s.pins.resetLow = false) (asleep : s.inSleep = true) :
    exec .idleServiceExpiry s = .next (s.cleanAll .idle).enterRun.settle :=
  congrArg Host.Outcome.next ((State.sensed_high high _).trans (if_pos asleep))

variable (s) in
/-- R181: entering RUN after the CLEANs loads the timers as entering it before them. -/
theorem State.cleanAll_enterRun_mode (o : CleanOrigin) : (s.cleanAll o).enterRun.mode = s.enterRun.mode := by
  have kept : (s.cleanAll o).mode = s.mode := s.cleanAll_frame o .mode (by decide)
  unfold State.enterRun State.idleSleepLoad State.params
  rw [kept]
  rfl

variable (s) in
theorem State.countChips_frame : Frame [.chips] s s.countChips := by
  intro b other
  cases b with
  | chips => exact absurd (List.mem_singleton_self _) other
  | _ => rfl

/-- R181: a millisecond in SLEEP counts the idle-service timer, and the chips go on with their write cycles (R51). -/
theorem State.tick_asleep (high : s.pins.resetLow = false) (asleep : s.inSleep = true) {n : Nat}
    (left : s.mode.idleServiceLeft = some (n + 1)) : s.tick = s.countChips.countSleep := by
  simp [State.tick, high, asleep, left]

end

/-- Settles O48: into SLEEP by either way, out of it by the idle-service timer, and a millisecond in between. -/
theorem sleepIsEnteredAndLeft : Obligations.SleepIsEnteredAndLeft := by
  intro s p high
  refine ⟨fun run sheets tickets capped free idle path jobs waiting active => ?_, fun asleep => ?_,
    fun n none asleep left => ?_⟩
  · have ready := State.sleepReady_of sheets tickets capped free idle path jobs waiting active
    exact ⟨fun port => port ▸ exec_sleepNow high run ready, exec_idleSleepExpiry high run ready⟩
  · exact ⟨_, exec_idleServiceExpiry high asleep, s.cleanAll_enterRun_mode .idle, fun h => State.cleanAll_waits .idle,
      (s.cleanAll_frame _).join (State.enterRun_frame _) (by decide) (by decide)⟩
  · have steps : step s = .next s.countChips.countSleep := by
      rw [step, none, State.tick_asleep high asleep left]
    refine ⟨_, steps, ?_, ?_⟩
    · show { s.mode with idleServiceLeft := s.mode.idleServiceLeft.map fun n => n - 1 } = _
      rw [left]
      rfl
    · exact s.countChips_frame.join (State.setMode_frame _ _) (by decide) (by decide)

end Sys2Proof.Machine
end

section
/-! SUPPORT. The lock (R184): what sets it, what it refuses, what clears it, and where it is read. O52 is settled from it. -/

namespace Sys2Proof.Machine

section
variable {s : State}

theorem exec_configLock {p : Port} (takes : s.Takes p Cmd.configLock) :
    exec (.configLock p) s = .next ((s.setMode { s.mode with lock := true }).replied s p 0x62 .accepted 0 0) :=
  congrArg Host.Outcome.next (s.takeWrite_takes p takes 0 decideConfigLock)

/-- R184: a locked CONFIG_SET is refused before any other test. -/
theorem exec_configSet_locked {p : Port} (takes : s.Takes p Cmd.configSet) (locked : s.mode.lock = true) (n mask v : Nat) :
    exec (.configSet p n mask v) s = .next (s.replied s p 0x61 .locked 0 6) := by
  refine congrArg Host.Outcome.next ((s.takeWrite_takes p takes 6 _).trans ?_)
  rw [show decideConfigSet n mask v s = Answer.refuse s .locked from if_pos locked]
  rfl

/-- R184: a locked SLOT_MAP_SET is refused before any other test. -/
theorem exec_slotMapSet_locked {p : Port} (takes : s.Takes p Cmd.slotMapSet) (locked : s.mode.lock = true) (e : Eight Nat) :
    exec (.slotMapSet p e) s = .next (s.replied s p 0x63 .locked 0 8) := by
  refine congrArg Host.Outcome.next ((s.takeWrite_takes p takes 8 _).trans ?_)
  rw [show decideSlotMapSet e s = Answer.refuse s .locked from if_pos locked]
  rfl

variable (s) in
theorem State.charter_lock : s.still.charter.lock = s.mode.lock := rfl

/-- R178: the lock is clear after power-on and after a release of the reset line. -/
theorem State.powerUp_lock (why : ResetCause) (park : ParkState) : (s.powerUp why park).mode.lock = false := by
  rw [← State.charter_lock, State.powerUp_charter]
  rfl

theorem exec_resetLineRelease (held : s.pins.resetLow = true) (park : ParkState) :
    exec (.resetLineRelease park) s = .next (s.powerUp .resetLine park) :=
  congrArg Host.Outcome.next (if_pos held)

/-- R185: the soft reset keeps the lock. -/
theorem State.softReset_lock (park : ParkState) : (s.softReset park).mode.lock = s.mode.lock := by
  rw [← State.charter_lock, State.softReset_charter]
  rfl

theorem State.softResets_taken (high : s.pins.resetLow = false) (run : s.inRun = true) : s.softResets .pp = true := by
  simp [State.softResets, high, run]

variable (s) in
/-- R171: the last byte of the Panel Port's status. -/
theorem State.status_last : (s.status .pp).getLast? = some (if s.mode.lock then 1 else 0) := by
  have last : byte (boolCode s.mode.lock) = [if s.mode.lock then 1 else 0] := by
    cases s.mode.lock <;> rfl
  unfold State.status
  dsimp only [State.statusPP]
  rw [last, ← List.append_assoc, List.getLast?_concat]

end

/-- Settles O52: the lock's setting, its refusals, the resets, and the status. -/
theorem configLockLocks : Obligations.ConfigLockLocks := by
  intro s
  refine ⟨fun high awake => ?_, fun high awake locked => ?_, fun park => ⟨_, rfl, State.powerUp_lock _ _⟩,
    fun park held => ⟨_, exec_resetLineRelease held park, State.powerUp_lock _ _⟩, fun park high run => ?_, s.status_last⟩
  · refine ⟨_, exec_configLock ⟨high, rfl, awake⟩, rfl, State.replied_reply .., ?_, fun q other => ?_⟩
    · exact (s.setMode_frame _).join (State.replied_frame _ _ _ _ _ _ _) (by decide) (by decide)
    · exact State.replied_others _ _ _ _ _ _ _ q other
  · exact ⟨exec_configSet_locked ⟨high, rfl, awake⟩ locked, exec_slotMapSet_locked ⟨high, rfl, awake⟩ locked⟩
  · have resets := State.softResets_taken high run
    refine ⟨_, exec_hubReset_resets resets park, ?_⟩
    rw [State.modPort_mode, State.settle_lock, State.softReset_lock]

end Sys2Proof.Machine
end

section
/-! SUPPORT. CONFIG_SET (R182, R183, R20): a clamped parameter, and the drop volumes. O51 is settled from it. -/

namespace Sys2Proof.Machine

/-! ### Clamping -/

/-- R182: a clamped value stands in its range, and a value of the range is not changed. -/
theorem clampParam_range {n v lo hi : Nat} (range : clampRange n = some (lo, hi)) :
    lo ≤ clampParam n v ∧ clampParam n v ≤ hi ∧ (lo ≤ v → v ≤ hi → clampParam n v = v) := by
  have ordered : lo ≤ hi := by
    unfold clampRange at range
    split at range <;> cases range <;> decide
  simp only [clampParam, range]
  omega

/-! ### What a parameter leaves -/

/-- The pins, the chips, the waste level and the carries. -/
def Still.stock (x : Still) : Pins × Chips × Nat × (Channel → Nat) := (x.base.pins, x.chips, x.wa, x.carry)

section
variable {s t : State}

theorem Frame.stock {bs : List Block} (frame : Frame bs s t)
    (hb : decide (Block.pins ∉ bs ∧ Block.chips ∉ bs ∧ Block.ledger ∉ bs) = true) : t.still.stock = s.still.stock := by
  obtain ⟨h1, h2, h3⟩ := of_decide_eq_true hb
  have pins : t.pins = s.pins := frame .pins h1
  have chips : t.chips = s.chips := frame .chips h2
  have ledger : t.ledger = s.ledger := frame .ledger h3
  show (t.pins, t.chips, t.ledger.wa, fun c => (t.ledger.chan.get c).carry) = _
  rw [pins, chips, ledger]
  rfl

/-- R183: what an applied parameter brings about moves no ink. -/
theorem State.paramActs_stock (n : Nat) : (s.paramActs n).still.stock = s.still.stock := by
  unfold State.paramActs
  split
  case h_1 | h_2 | h_3 | h_4 => simp
  case h_5 => exact (Frame.when _ _ fun t => t.setService_frame _).stock (by decide)
  case h_6 => exact (Frame.when _ _ fun t => t.loadIdleSleep_frame).stock (by decide)
  case h_7 => exact s.recomputeLow_frame.stock (by decide)
  case h_8 => exact s.refreshFull_frame.stock (by decide)
  case h_9 =>
    rw [State.settle_still]
    exact (Frame.when _ _ fun t => t.dueExamine_frame).stock (by decide)
  case h_10 => rfl

theorem State.applyParam_stock (n v : Nat) : (s.applyParam n v).still.stock = s.still.stock := by
  unfold State.applyParam
  split
  · rfl
  · exact State.paramActs_stock n

/-! ### The command -/

theorem exec_configSet_applies {p : Port} {n v : Nat} (takes : s.Takes p Cmd.configSet) (unlocked : s.mode.lock = false)
    (low : 2 ≤ n) (high : n ≤ 17) (taken : s.params.refuses n v = false) (free : s.blocksQueued n v = false) (mask : Nat) :
    exec (.configSet p n mask v) s =
      .next ((s.applyParam n (clampParam n v)).replied s p 0x61 (clampCode n v) (clampParam n v) 6) := by
  refine congrArg Host.Outcome.next ((s.takeWrite_takes p takes 6 _).trans ?_)
  have legal : ¬(n = 0 ∨ 17 < n) := by omega
  have other : n ≠ 1 := by omega
  have applied : decideConfigSet n mask v s =
      { after := s.applyParam n (clampParam n v), code := clampCode n v, value := clampParam n v } := by
    simp [decideConfigSet, unlocked, legal, other, taken, free]
  rw [applied]
  rfl

theorem State.dvHeld_free {m : Six Bool}
    (free : ∀ c, m.get c = true → (s.ledger.chan.get c).rs = 0 ∧ (s.ledger.chan.get c).rv = 0) : s.dvHeld m = false := by
  refine List.any_eq_false.2 fun c _ => ?_
  cases named : m.get c
  · simp
  · obtain ⟨rs, rv⟩ := free c named
    simp [rs, rv]

theorem exec_configSet_drops {p : Port} {mask : Nat} {m : Six Bool} (takes : s.Takes p Cmd.configSet)
    (unlocked : s.mode.lock = false) (legal : channelMask? mask = some m) (free : s.dvHeld m = false) (v : Nat) :
    exec (.configSet p 1 mask v) s =
      .next ((s.setDv m (clampParam 1 v)).replied s p 0x61 (clampCode 1 v) (clampParam 1 v) 6) := by
  refine congrArg Host.Outcome.next ((s.takeWrite_takes p takes 6 _).trans ?_)
  have applied : decideConfigSet 1 mask v s =
      { after := s.setDv m (clampParam 1 v), code := clampCode 1 v, value := clampParam 1 v } := by
    simp [decideConfigSet, decideDv, unlocked, legal, free]
  rw [applied]
  rfl

end

/-- Settles O51: the parameters by what the charter and the stock keep, the drop volumes record by record. -/
theorem configSetApplies : Obligations.ConfigSetApplies := by
  intro s p n mask v takes unlocked
  refine ⟨fun low high taken free => ?_, fun m legal free => ?_⟩
  · have charter := State.applyParam_charter (s := s) n (clampParam n v)
    have stock := State.applyParam_stock (s := s) n (clampParam n v)
    refine ⟨_, exec_configSet_applies takes unlocked low high taken free mask, congrArg Charter.params charter,
      State.replied_reply .., fun lo hi => clampParam_range, congrArg Charter.mode charter,
      (congrArg Charter.lock charter).trans unlocked, congrArg Prod.fst stock, congrArg (·.2.1) stock,
      congrArg Charter.nozzles charter, congrArg Charter.map charter, congrArg (·.2.2.1) stock,
      fun c => ⟨congrFun (congrArg Charter.dv charter) c, congrFun (congrArg (·.2.2.2) stock) c⟩⟩
  · refine ⟨_, exec_configSet_drops takes unlocked legal (State.dvHeld_free free) v, fun c => Six.get_tab _ c, ?_, rfl, rfl,
      (s.setChan_frame _).join (State.replied_frame _ _ _ _ _ _ _) (by decide) (by decide)⟩
    rw [State.replied_reply]
    rfl

end Sys2Proof.Machine
end

section
/-!
SUPPORT. Power-on and the reset line (R178): what the sensors give to the feed unit and the station, the events of the surveys,
and the time while the line is held. O49 is settled from it.
-/

namespace Sys2Proof.Machine

/-! ### The feed unit (R84) -/

/-- The record of a roll at a reset, by its presence sensor (R95). -/
def RollRec.atPower (present : Bool) : RollRec := if present then { RollRec.absent with state := .loaded } else RollRec.absent

section
variable {pins : Pins} {r : Roll}

theorem RollRec.atPower_unthread (b : Bool) : (RollRec.atPower b).unthread = RollRec.atPower b := by cases b <;> rfl

theorem RollRec.atPower_absent (b : Bool) : ((RollRec.atPower b).state = .absent) = (b = false) := by
  cases b <;> simp [RollRec.atPower, RollRec.absent]

theorem RollRec.atPower_described (b : Bool) : (RollRec.atPower b).described = false := by cases b <;> rfl

theorem RollRec.atPower_threadedBy (paper : Bool) : ((RollRec.atPower true).threadedBy paper).described = false ∧
    ((RollRec.atPower true).threadedBy paper).state = if paper then .threaded else .empty := by
  cases paper <;> exact ⟨rfl, rfl⟩

/-- R84: the survey finds the rolls and the path roll wherever the cutter stands. -/
theorem survey_rolls (f : Feed) : (survey pins f).roll = (surveyPath pins f.roll).2.2.2 ∧
    (survey pins f).pathRoll = (surveyPath pins f.roll).2.1 ∧ (survey pins f).op = none := by
  unfold survey
  dsimp only
  split <;> exact ⟨rfl, rfl, rfl⟩

/-- The feed unit before its survey. -/
def Feed.atPower (pins : Pins) : Feed :=
  { Feed.reset with roll := Two.tab fun r => RollRec.atPower (pins.rollPresent.get r) }

theorem feedAtPower_eq (pins : Pins) : feedAtPower pins = survey pins (Feed.atPower pins) := rfl

theorem Feed.atPower_unthread (pins : Pins) :
    (Two.tab fun r => ((Feed.atPower pins).roll.get r).unthread) = (Feed.atPower pins).roll :=
  by
  have record (r : Roll) : ((Feed.atPower pins).roll.get r).unthread = RollRec.atPower (pins.rollPresent.get r) := by
    rw [Feed.atPower, Two.get_tab, RollRec.atPower_unthread]
  simp only [record]
  rfl

theorem Feed.atPower_absent : ((Feed.atPower pins).roll.get r).state = .absent ↔ pins.rollPresent.get r = false := by
  simp [Feed.atPower, RollRec.atPower_absent]

/-- With no media at the thread sensor no roll feeds the path. -/
theorem feedAtPower_free (free : pins.thread = false) :
    (feedAtPower pins).roll = (Feed.atPower pins).roll ∧ (feedAtPower pins).pathRoll = none := by
  obtain ⟨roll, on, -⟩ := survey_rolls (pins := pins) (Feed.atPower pins)
  rw [feedAtPower_eq, roll, on]
  simp [surveyPath, free, Feed.atPower_unthread]

/-- With no roll at the actuator none feeds the path, whatever the thread sensor shows. -/
theorem feedAtPower_mismatch (media : pins.thread = true) (gone : pins.rollPresent.get pins.actuator = false) :
    (feedAtPower pins).roll = (Feed.atPower pins).roll ∧ (feedAtPower pins).pathRoll = none := by
  obtain ⟨roll, on, -⟩ := survey_rolls (pins := pins) (Feed.atPower pins)
  rw [feedAtPower_eq, roll, on]
  simp [surveyPath, media, Feed.atPower_unthread, Feed.atPower_absent.2 gone]

/-- With media and a roll at the actuator this roll feeds the path. -/
theorem feedAtPower_threads (media : pins.thread = true) (inside : pins.rollPresent.get pins.actuator = true) :
    (feedAtPower pins).roll = (Feed.atPower pins).roll.set pins.actuator ((RollRec.atPower true).threadedBy pins.paper) ∧
      (feedAtPower pins).pathRoll = some pins.actuator := by
  have record : (Feed.atPower pins).roll.get pins.actuator = RollRec.atPower true := by simp [Feed.atPower, inside]
  obtain ⟨roll, on, -⟩ := survey_rolls (pins := pins) (Feed.atPower pins)
  rw [feedAtPower_eq, roll, on]
  cases paper : pins.paper <;>
    simp [surveyPath, media, record, Feed.atPower_unthread, RollRec.threadedBy, RollRec.atPower, RollRec.absent, paper]

theorem Feed.atPower_loaded (inside : pins.rollPresent.get r = true) : ((Feed.atPower pins).roll.get r).state = .loaded := by
  simp [Feed.atPower, RollRec.atPower, inside]

theorem feedAtPower_unthreaded (home : pins.cutterHome = true) (free : pins.thread = false) :
    (feedAtPower pins).path = .unthreaded ∧ (feedAtPower pins).cause = .none := by
  rw [feedAtPower_eq, survey_unthreaded home free]
  exact ⟨rfl, rfl⟩

theorem feedAtPower_idle (home : pins.cutterHome = true) (media : pins.thread = true)
    (inside : pins.rollPresent.get pins.actuator = true) :
    (feedAtPower pins).path = .idle ∧ (feedAtPower pins).cause = .none := by
  rw [feedAtPower_eq, survey_threads home media (by simp [Feed.atPower_absent, inside])]
  exact ⟨rfl, rfl⟩

theorem feedAtPower_mismatched (media : pins.thread = true) (gone : pins.rollPresent.get pins.actuator = false)
    (home : pins.cutterHome = true) : (feedAtPower pins).path = .fault ∧ (feedAtPower pins).cause = .sensorMismatch :=
  survey_mismatch home media (Feed.atPower_absent.2 gone)

/-- Where no roll feeds the path every roll inside is LOADED. -/
theorem feedAtPower_free_loaded (free : pins.thread = false) (inside : pins.rollPresent.get r = true) :
    ((feedAtPower pins).roll.get r).state = .loaded := by
  rw [(feedAtPower_free free).1]
  exact Feed.atPower_loaded inside

/-- The roll at the actuator is THREADED, or EMPTY with no paper at the paper-end sensor. -/
theorem feedAtPower_threaded (media : pins.thread = true) (inside : pins.rollPresent.get pins.actuator = true) :
    ((feedAtPower pins).roll.get pins.actuator).state = if pins.paper then .threaded else .empty := by
  rw [(feedAtPower_threads media inside).1, Two.get_set_same]
  exact (RollRec.atPower_threadedBy _).2

theorem feedAtPower_other_loaded (media : pins.thread = true) (inside : pins.rollPresent.get pins.actuator = true)
    (other : pins.rollPresent.get pins.actuator.other = true) :
    ((feedAtPower pins).roll.get pins.actuator.other).state = .loaded := by
  rw [(feedAtPower_threads media inside).1, Two.get_set_other _ _ _ _ (Roll.other_ne pins.actuator)]
  exact Feed.atPower_loaded other

/-- R95: a roll that is inside is not described. -/
theorem feedAtPower_fresh (pins : Pins) (r : Roll) : ((feedAtPower pins).roll.get r).described = false ∧
    (((feedAtPower pins).roll.get r).state = .absent ↔ pins.rollPresent.get r = false) := by
  have plain : ((Feed.atPower pins).roll.get r).described = false := by simp [Feed.atPower, RollRec.atPower_described]
  cases media : pins.thread
  · rw [(feedAtPower_free media).1]
    exact ⟨plain, Feed.atPower_absent⟩
  cases inside : pins.rollPresent.get pins.actuator
  · rw [(feedAtPower_mismatch media inside).1]
    exact ⟨plain, Feed.atPower_absent⟩
  rw [(feedAtPower_threads media inside).1]
  obtain ⟨described, state⟩ := RollRec.atPower_threadedBy pins.paper
  by_cases here : r = pins.actuator
  · subst here
    rw [Two.get_set_same, state, inside]
    refine ⟨described, ?_⟩
    cases pins.paper <;> simp
  · rw [Two.get_set_other _ _ _ _ here]
    exact ⟨plain, Feed.atPower_absent⟩

/-! ### The station (R133) -/

theorem stationAtReset_state (pins : Pins) (n : Nat) (t : Station) : (stationAtReset pins n t).state =
    if pins.cap = .opened then .opened else if pins.cap = .capped ∧ pins.parkSwitch = .parked then .capped else .fault := by
  unfold stationAtReset
  cases pins.cap
  case opened => rfl
  case between => rfl
  case capped => cases pins.parkSwitch <;> rfl

theorem stationAtReset_park (pins : Pins) (n : Nat) (t : Station) : (stationAtReset pins n t).park = pins.parkSwitch := by
  unfold stationAtReset
  split <;> rfl

theorem stationAtReset_exposure (pins : Pins) (n : Nat) (t : Station) : (stationAtReset pins n t).exposure = t.exposure := by
  unfold stationAtReset
  split <;> rfl

end

section
variable {s : State}

/-! ### The surveys' events -/

theorem State.raiseIf_eq (s : State) (b : Bool) (e : Event) : s.raiseIf b e = s.setPorts (s.raiseIf b e).ports := by
  cases b <;> rfl

/-- The surveys raise events and change nothing else. -/
theorem State.raiseSurveys_setPorts (s : State) (b : Bool) : ∃ ports, s.raiseSurveys b = s.setPorts ports := by
  unfold State.raiseSurveys
  rw [State.raiseIf_eq _ (_ == _), State.raiseIf_eq _ (b && s.feed.cause == .sensorMismatch), State.raiseIf_eq s]
  exact ⟨_, rfl⟩

theorem State.Latched.raiseSurveys {e : Event} (latched : s.Latched e) (b : Bool) : (s.raiseSurveys b).Latched e :=
  ((latched.raiseIf _ _).raiseIf _ _).raiseIf _ _

/-- R84: a mismatch that the survey finds is a FEED_FAULT. -/
theorem State.raiseSurveys_feedFault (found : s.feed.cause = .sensorMismatch) : (s.raiseSurveys true).Latched .feedFault :=
  (State.raiseIf_latched _ (by rw [found]; rfl)).raiseIf _ _

/-- R84: a cutter that the survey finds away is a CUT_FAULT. -/
theorem State.raiseSurveys_cutFault (found : s.feed.cause = .cutterAway) : (s.raiseSurveys true).Latched .cutFault :=
  ((State.raiseIf_latched _ (by rw [found]; rfl)).raiseIf _ _).raiseIf _ _

theorem State.raiseSurveys_spares (s : State) (b : Bool) : Spares none s (s.raiseSurveys b) :=
  .of_base (by simp [State.raiseSurveys])

theorem State.powered_ports (why : ResetCause) (pins : Pins) (p : Port) : (s.powered why pins).ports.get p = PortRec.reset := by
  cases p <;> rfl

/-- R177: RESET_SEEN is latched on every port. -/
theorem State.powered_resetSeen (why : ResetCause) (pins : Pins) : (s.powered why pins).Latched .resetSeen := by
  intro p _
  rw [State.powered_ports]
  decide

/-! ### While the line is held (R178) -/

/-- No transaction is taken while the line is held. -/
theorem exec_held {c : Instr} {p : Port} (port : c.port? = some p) (low : s.pins.resetLow = true) : exec c s = .next s := by
  cases write : c.write? with
  | some w =>
    obtain ⟨n, d, taken, -⟩ := exec_write write (s := s) fun _ => by simp [State.softResets, low]
    rw [taken]
    exact congrArg Host.Outcome.next (if_pos low)
  | none =>
    cases c <;> simp only [Instr.write?, Instr.port?, reduceCtorEq] at write port
    case frameError => exact congrArg Host.Outcome.next (if_pos (by simp [low]))
    all_goals exact congrArg Host.Outcome.next (if_pos low)

/-- The line stops the running operations and nothing else. -/
theorem State.stopAll_frame (s : State) : Frame [.manifold, .feed, .station, .supply, .tickets] s s.stopAll := by
  unfold State.stopAll
  dsimp only
  refine (((s.setManifold_frame _).join (cs := [.manifold, .feed]) (State.setFeed_frame _ _) ?_ ?_).join
    (cs := [.manifold, .feed, .station]) (State.setStation_frame _ _) ?_ ?_).join (cs := [.manifold, .feed, .station, .supply])
    (State.setLink_frame _ _) ?_ ?_ |>.join (State.setTickets_frame _ _) ?_ ?_
  all_goals decide

/-- Power-on, and the release of a line that is held, set the hub afresh. -/
theorem exec_powers {c : Instr} {park : ParkState} {why : ResetCause}
    (reset : (c = .powerOn park ∧ why = .powerOn) ∨ (c = .resetLineRelease park ∧ s.pins.resetLow = true ∧ why = .resetLine)) :
    exec c s = .next (s.powerUp why park) := by
  rcases reset with ⟨rfl, rfl⟩ | ⟨rfl, low, rfl⟩
  · rfl
  · exact exec_resetLineRelease low park

end

/-- Settles O49: the units of `State.powered`, its surveys, and the time while the line is held. -/
theorem powerUpSetsEverything : Obligations.PowerUpSetsEverything := by
  intro s park
  refine ⟨fun c why reset => ⟨_, exec_powers reset, ?_⟩, ⟨_, rfl, ?_⟩, fun c p => exec_held⟩
  · generalize pins : ({ s.pins with resetLow := false, parkSwitch := park } : Pins) = x
    have same (p : Port) := (s.powered why x).raiseSurveys_spares true p nofun
    have seen := (s.powered_resetSeen why x).raiseSurveys true
    have feedFault := State.raiseSurveys_feedFault (s := s.powered why x)
    have cutFault := State.raiseSurveys_cutFault (s := s.powered why x)
    obtain ⟨ports, raised⟩ := (s.powered why x).raiseSurveys_setPorts true
    rw [raised] at same seen feedFault cutFault ⊢
    subst pins
    refine ⟨rfl, rfl, rfl, rfl, rfl, rfl, rfl, rfl, fun k => Eight.get_tab _ k, rfl, stationAtReset_park _ _ _,
      stationAtReset_order _ _ _, stationAtReset_exposure _ _ _, stationAtReset_state _ _ _, rfl, rfl, rfl, (survey_rolls _).2.2,
      feedAtPower_fresh _, fun free => ?_, fun media inside => ?_, fun media gone => ?_, fun away => ?_, fun p => ?_, seen, rfl,
      rfl, rfl⟩
    · exact ⟨(feedAtPower_free free).2, fun r => feedAtPower_free_loaded free, fun home => feedAtPower_unthreaded home free⟩
    · exact ⟨(feedAtPower_threads media inside).2, feedAtPower_threaded media inside, feedAtPower_other_loaded media inside,
        fun home => feedAtPower_idle home media inside⟩
    · have fault := feedAtPower_mismatched (pins := { s.pins with resetLow := false, parkSwitch := park }) media gone
      exact ⟨(feedAtPower_mismatch media gone).2, fun home => ⟨(fault home).1, (fault home).2, feedFault (fault home).2⟩⟩
    · obtain ⟨path, cause⟩ := survey_away (f := Feed.atPower { s.pins with resetLow := false, parkSwitch := park }) away
      exact ⟨path, cause, cutFault cause⟩
    · obtain ⟨reply, mask, cursor, out, bits, reading⟩ := same p
      rw [State.powered_ports] at reply mask cursor out bits reading
      exact ⟨reply.symm, mask.symm, cursor.symm, out.symm, bits.symm, reading.symm⟩
  · have frame := s.stopAll_frame
    exact ⟨rfl, rfl, fun _ => rfl, fun _ => rfl, rfl, rfl, rfl, rfl, rfl, fun _ => rfl, rfl, rfl, rfl, rfl, rfl,
      frame .ports (by decide), frame .ledger (by decide), frame .nozzles (by decide), frame .mode (by decide)⟩

end Sys2Proof.Machine
end

section
/-!
SUPPORT. The soft reset (R185, R38, R18, R60, R177): its ledger part, its blocks, the link's emptying with every session IDLE, and
the entry to RUN. O50 is settled from it.
-/

namespace Sys2Proof.Machine

section
variable {s : State}

/-! ### The ledger (R38) -/

/-- R38: a soft reset debits what runs, releases every reservation, and keeps carry and drop volume. -/
theorem State.softLedger_record (c : Channel) :
    (s.softLedger.ledger.chan.get c).rs = 0 ∧ (s.softLedger.ledger.chan.get c).rv = 0 ∧
      (s.softLedger.ledger.chan.get c).carry = (s.ledger.chan.get c).carry ∧
      (s.softLedger.ledger.chan.get c).dv = (s.ledger.chan.get c).dv ∧
      (s.softLedger.ledger.chan.get c).level = (s.ledger.chan.get c).level - (s.firingNeed c + s.suctionDebit c) := by
  have book : s.softLedger.ledger.chan = s.softLedger.book.chan := rfl
  rw [book, State.softLedger_book]
  simp only [Book.recompute, Book.setParts, Six.get_map, ChannelRec.recompute, Book.enter_rs, Book.enter_rv, Book.enter_carry,
    Book.enter_dv, Book.enter_level, true_and]
  exact ⟨rfl, rfl, rfl⟩

theorem State.softLedger_wr : s.softLedger.ledger.wr = 0 := by
  have book : s.softLedger.ledger.wr = s.softLedger.book.wr := rfl
  rw [book, State.softLedger_book]
  rfl

variable (s) in
theorem State.softLedger_frame : Frame [.ports, .ledger, .supply, .due] s s.softLedger :=
  (((s.ledgerOp_frame _).join (cs := [.ports, .ledger, .due]) (State.setLedger_frame _ _) (by decide) (by decide)).join
    (cs := [.ports, .ledger, .due]) (State.recomputeLevels_frame _) (by decide) (by decide)).join
    (State.refreshWaste_frame _) (by decide) (by decide)

/-- R38: the slots stand as they were. -/
theorem State.softLedger_slot : s.softLedger.supply.slot = s.supply.slot := by
  unfold State.softLedger
  dsimp only
  rw [State.refreshWaste, State.refreshUncovered_slot, State.refreshFull_slot, State.recomputeLevels_frame _ .supply (by decide)]
  exact congrArg Supply.slot (s.ledgerOp_frame _ .supply (by decide))

theorem State.Latched.recomputeLevels {e : Event} (latched : s.Latched e) : s.recomputeLevels.Latched e := by
  have kept : (s.setChan (s.ledger.chan.map (ChannelRec.recompute s.params))).Latched e := latched.of_ports rfl
  exact (kept.raiseIf _ _).raiseIf _ _

theorem State.Latched.softLedger {e : Event} (latched : s.Latched e) : s.softLedger.Latched e := by
  unfold State.softLedger
  dsimp only
  refine (State.Latched.recomputeLevels ?_).refreshFull.refreshWaste
  exact (latched.ledgerOp _).of_ports rfl

/-! ### The link (R60) -/

theorem State.askAgain_idle {c : Channel} (idle : (s.session c).state = .idle) : s.askAgain c = s := by
  simp [State.askAgain, idle]

theorem State.asksAgain_idle (idle : ∀ c, (s.session c).state = .idle) : Channel.all.foldl State.askAgain s = s :=
  List.foldlRecOn (motive := fun t => t = s) Channel.all _ rfl fun t same c _ => by
    subst same
    exact State.askAgain_idle (idle c)

/-- With every session IDLE the emptying of the queue asks for the positions and the waste alone. -/
theorem State.drainLink_frame_idle (idle : ∀ c, (s.session c).state = .idle) : Frame [.ledger, .supply, .due] s s.drainLink := by
  unfold State.drainLink
  dsimp only
  generalize asked : State.when _ _ _ = t
  have asks : Frame [.supply] s t := by
    rw [← asked]
    exact (State.setLink_frame _ _).trans ((Frame.foldl _ _ (fun t k => .when _ _ fun u => u.requestIdentify_frame _) _).trans
      (.when _ _ fun u => u.requestIdentify_frame _))
  have manifold : t.manifold = s.manifold := asks .manifold (by decide)
  rw [State.asksAgain_idle fun c => by rw [State.session, manifold]; exact idle c]
  exact (asks.mono (by decide)).trans
    (t.refreshUncovered_frame.join (State.dueArbiter_frame _) (by decide) (by decide))

theorem State.resetLink_frame_idle (idle : ∀ c, (s.session c).state = .idle) :
    Frame [.ledger, .supply, .due] s s.resetLink := by
  unfold State.resetLink
  split
  · exact (State.setLink_frame _ _).mono (by decide)
  · exact State.drainLink_frame_idle idle

/-! ### The blocks -/

/-- The port records cleared and the park switch read. -/
def State.portsCleared (s : State) (park : ParkState) : State :=
  (s.setPorts (PerPort.const PortRec.reset)).setPins { s.pins with parkSwitch := park }

/-- What a soft reset leaves of the blocks beside the ledger and the link. -/
def State.softBlocks (s : State) : State :=
  let s1 := s.setManifold s.manifold.softReset
  let s2 := s1.setTickets { s1.tickets with queue := [], swathLeft := none }
  let s3 := s2.setSheets { s2.sheets with queue := [] }
  let s4 := s3.setFeed { s3.feed with op := s3.feed.op.map fun o => { o with orphan := true } }
  let s5 := s4.setStation (stationAtReset s4.pins s4.params.capDelay s4.station)
  s5.setService { s5.service with queue := [], active := none }

theorem State.softBlocks_eq : s.softBlocks = { s with
    manifold := s.manifold.softReset
    tickets := { s.tickets with queue := [], swathLeft := none }
    sheets := { s.sheets with queue := [] }
    feed := { s.feed with op := s.feed.op.map fun o => { o with orphan := true } }
    station := stationAtReset s.pins s.params.capDelay s.station
    service := { s.service with queue := [], active := none } } := by
  cases s
  rfl

/-- The hub enters RUN with the cause of a soft reset. -/
def State.enterSoft (s : State) : State := (s.setMode { s.mode with cause := .soft }).enterRun

theorem State.softReset_eq (park : ParkState) :
    s.softReset park = ((s.portsCleared park).softLedger.softBlocks.resetLink.raiseSurveys false).enterSoft := by
  unfold State.softReset State.portsCleared State.softBlocks State.enterSoft
  rfl

variable (s) in
theorem State.enterSoft_frame : Frame [.mode, .due] s s.enterSoft :=
  (s.setMode_frame _).join (State.enterRun_frame _) (by decide) (by decide)

variable (s) in
theorem State.raiseSurveys_frame (b : Bool) : Frame [.ports] s (s.raiseSurveys b) :=
  ((s.raiseIf_frame _ _).trans (State.raiseIf_frame _ _ _)).trans (State.raiseIf_frame _ _ _)

theorem State.softBlocks_idle (c : Channel) : s.softBlocks.session c = Session.reset := by
  rw [State.softBlocks_eq]
  exact Six.get_const c _

/-- What the link's reset and the entry to RUN leave of the blocks. -/
theorem State.softReset_frame (park : ParkState) : Frame [.ports, .ledger, .supply, .due, .mode]
    (s.portsCleared park).softLedger.softBlocks (s.softReset park) := by
  rw [State.softReset_eq]
  generalize (s.portsCleared park).softLedger = l
  have idle (c : Channel) : (l.softBlocks.session c).state = .idle := by rw [State.softBlocks_idle]; rfl
  have link := (State.resetLink_frame_idle idle).mono (cs := [.ports, .ledger, .supply, .due, .mode]) (by decide)
  exact (link.trans ((State.raiseSurveys_frame _ _).mono (by decide))).trans ((State.enterSoft_frame _).mono (by decide))

/-- The hub between the ledger's part of a soft reset and its blocks, and what is left of it. -/
theorem State.softReset_blocks (s : State) (park : ParkState) : ∃ l : State,
    Frame [.pins, .ports, .ledger, .supply, .due] s l ∧ l.pins = { s.pins with parkSwitch := park } ∧
      Frame [.ports, .ledger, .supply, .due, .mode] l.softBlocks (s.softReset park) := by
  refine ⟨(s.portsCleared park).softLedger, ?_, State.softLedger_frame _ .pins (by decide), State.softReset_frame park⟩
  have cleared : Frame [.pins, .ports] s (s.portsCleared park) :=
    (s.setPorts_frame _).join (State.setPins_frame _ _) (by decide) (by decide)
  exact cleared.join (State.softLedger_frame _) (by decide) (by decide)

/-! ### The records after a soft reset -/

variable (s) in
theorem State.charter_fields : s.still.charter.mode = s.mode.mode ∧ s.still.charter.cause = s.mode.cause ∧
    s.still.charter.params = s.mode.params ∧ s.still.charter.map = s.supply.map := ⟨rfl, rfl, rfl, rfl⟩

theorem State.softReset_charter_fields (park : ParkState) : (s.softReset park).mode.mode = .run ∧ (s.softReset park).mode.cause = .soft ∧
    (s.softReset park).mode.params = s.mode.params ∧ (s.softReset park).supply.map = s.supply.map := by
  obtain ⟨mode, cause, params, map⟩ := (s.softReset park).charter_fields
  rw [State.softReset_charter] at mode cause params map
  exact ⟨mode.symm, cause.symm, params.symm, map.symm⟩

theorem State.portsCleared_resetSeen (park : ParkState) : (s.portsCleared park).Latched .resetSeen := by
  intro p _
  have cleared : (s.portsCleared park).ports.get p = PortRec.reset := by cases p <;> rfl
  rw [cleared]
  decide

theorem State.softBlocks_ports : s.softBlocks.ports = s.ports := by
  rw [State.softBlocks_eq]

theorem State.softBlocks_latched {e : Event} (latched : s.Latched e) :
    ((s.softBlocks.resetLink.raiseSurveys false).enterSoft).Latched e := by
  have idle (c : Channel) : (s.softBlocks.session c).state = .idle := by
    rw [State.softBlocks_idle]
    rfl
  have link : s.softBlocks.resetLink.Latched e :=
    (latched.of_ports State.softBlocks_ports).of_ports (State.resetLink_frame_idle idle .ports (by decide))
  exact (link.raiseSurveys false).of_ports (State.enterSoft_frame _ .ports (by decide))

theorem State.softReset_resetSeen (park : ParkState) : (s.softReset park).Latched .resetSeen := by
  rw [State.softReset_eq]
  exact State.softBlocks_latched (State.portsCleared_resetSeen park).softLedger

/-- R38: the ledger's records, with what ran debited and no reservation. -/
theorem State.softReset_record (park : ParkState) (c : Channel) :
    ((s.softReset park).ledger.chan.get c).rs = 0 ∧ ((s.softReset park).ledger.chan.get c).rv = 0 ∧
      ((s.softReset park).ledger.chan.get c).carry = (s.ledger.chan.get c).carry ∧
      ((s.softReset park).ledger.chan.get c).dv = (s.ledger.chan.get c).dv ∧
      ((s.softReset park).ledger.chan.get c).level = (s.ledger.chan.get c).level - (s.firingNeed c + s.suctionDebit c) := by
  have book : (s.softReset park).ledger.chan = (s.portsCleared park).softLedger.ledger.chan :=
    congrArg Book.chan (s.softReset_book park)
  rw [book]
  exact State.softLedger_record c

theorem State.softReset_wr (park : ParkState) : (s.softReset park).ledger.wr = 0 := by
  have book : (s.softReset park).ledger.wr = (s.portsCleared park).softLedger.ledger.wr :=
    congrArg Book.wr (s.softReset_book park)
  rw [book, State.softLedger_wr]

/-- R60: the slots stand as they were. -/
theorem State.softReset_slot (park : ParkState) : (s.softReset park).supply.slot = s.supply.slot := by
  rw [State.softReset_eq, State.enterSoft_frame _ .supply (by decide), State.raiseSurveys_frame _ _ .supply (by decide)]
  have link (t : State) : t.resetLink.supply.slot = t.supply.slot := congrArg Still.slot t.resetLink_still
  rw [link]
  exact State.softLedger_slot (s := s.portsCleared park)

theorem Manifold.softReset_stroke {m : Manifold} {r : StrokeRun} (runs : m.pump = .stroke r) : m.softReset.pump = .stroke r := by
  simp [Manifold.softReset, runs]

theorem Manifold.softReset_suction {m : Manifold} {r : SuctionRun} (runs : m.pump = .suction r) : m.softReset.pump = .free := by
  simp [Manifold.softReset, runs]

/-- R177: the port records stand cleared after the reactions, with the events latched since. -/
theorem State.softReset_cleared (park : ParkState) (p : Port) :
    PortRec.reset.SameRecord ((s.softReset park).settle.ports.get p) := by
  have cleared : (s.setPorts (PerPort.const PortRec.reset)).ports.get p = PortRec.reset := by cases p <;> rfl
  rw [← cleared]
  exact (s.softReset_spares park).settle p nofun

/-- The data driven in the transaction leaves the rest of the record. -/
theorem State.modPort_drives (p q : Port) (out : List Byte) (bits : Nat) :
    ∃ o b, (s.modPort p fun r => { r with out := out, outBits := bits }).ports.get q =
      { s.ports.get q with out := o, outBits := b } := by
  by_cases same : q = p
  · subst same
    exact ⟨_, _, State.modPort_get_same _ _ _⟩
  · exact ⟨_, _, State.modPort_get_other _ _ _ _ same⟩

end

/-- Settles O50: the blocks of `State.softReset` one by one, and the records of the ports after the reactions. -/
theorem hubResetIsSoft : Obligations.HubResetIsSoft := by
  intro s park high run
  obtain ⟨l, before, pins, after⟩ := s.softReset_blocks park
  obtain ⟨mode, cause, params, map⟩ := s.softReset_charter_fields park
  rw [State.softBlocks_eq] at after
  have tickets : l.tickets = s.tickets := before .tickets (by decide)
  have sheets : l.sheets = s.sheets := before .sheets (by decide)
  have service : l.service = s.service := before .service (by decide)
  have manifold : l.manifold = s.manifold := before .manifold (by decide)
  have feed : l.feed = s.feed := before .feed (by decide)
  have station : l.station = s.station := before .station (by decide)
  have chips : l.chips = s.chips := before .chips (by decide)
  have nozzles : l.nozzles = s.nozzles := before .nozzles (by decide)
  have pending : l.pending = s.pending := before .pending (by decide)
  rw [tickets, sheets, service, manifold, feed, station, pins, chips, nozzles, pending] at after
  have manifold' : (s.softReset park).manifold = s.manifold.softReset := after .manifold (by decide)
  have service' : (s.softReset park).service = { s.service with queue := [], active := none } := after .service (by decide)
  have feed' : (s.softReset park).feed = { s.feed with op := s.feed.op.map fun o => { o with orphan := true } } :=
    after .feed (by decide)
  have station' : (s.softReset park).station =
      stationAtReset { s.pins with parkSwitch := park } l.params.capDelay s.station := after .station (by decide)
  refine ⟨s.softReset park, _, exec_hubReset_resets (State.softResets_taken high run) park, fun p => ?_,
    State.modPort_frame _ _ _, s.softReset_resetSeen park, mode, cause, params, State.softReset_lock park,
    after .tickets (by decide), after .sheets (by decide), by rw [service'], by rw [service'], by rw [service'],
    fun c => ?_, by rw [manifold']; rfl, fun r runs => ?_, fun r runs => ?_,
    State.softReset_record park, State.softReset_wr park, map, State.softReset_slot park, by rw [feed'], by rw [feed'],
    by rw [station', stationAtReset_order], by rw [station', stationAtReset_park], by rw [station', stationAtReset_exposure],
    after .pins (by decide), after .chips (by decide), after .nozzles (by decide), after .pending (by decide)⟩
  · obtain ⟨reply, mask, cursor, -, -, reading⟩ := State.softReset_cleared (s := s) park p
    obtain ⟨out, bits, record⟩ := (s.softReset park).settle.modPort_drives .pp p [BitVec.ofNat 8 (s.ports.get .pp).reply.seq] 8
    rw [record]
    exact ⟨reply, mask, cursor, Option.map_eq_none_iff.1 reading, rfl⟩
  · rw [State.session, manifold']
    exact Six.get_const c _
  · rw [manifold']
    exact Manifold.softReset_stroke runs
  · rw [manifold']
    exact Manifold.softReset_suction runs

end Sys2Proof.Machine
end
